-- ==== Sys2Proof/Word.lean ====
section
/-! DEFINITION. Bytes and index tables: the plain types every other file is written with. -/
namespace Sys2Proof

/-- One byte. -/
abbrev Byte := BitVec 8

/-! ## Tables by index -/

/-- A table of like things by number, in ascending order of the number; a number that is not listed
holds the thing's reset value, which the reader supplies. -/
abbrev Tab (α : Type) := List (Nat × α)

end Sys2Proof
end

