-- ==== Sys2Proof/Payload.lean ====
section
/-! DEFINITION. The payloads of the mailbox commands (13): one structure per opcode, with the fields of
its layout in order. A number is a `Nat`, a mask or a float's bits a bit vector; bytes the layout
reserves are not fields, they are zero by construction. -/
namespace Sys2Proof

/-- `power.set_domains` (R384): bit n of `on` requests domain n ON, of `off` OFF. -/
structure PowerSetDomains where
  on : BitVec 64
  off : BitVec 64
deriving DecidableEq, Repr

/-- `power.set_state` (R384). -/
structure PowerSetState where
  state : Nat
  wakeCfg : BitVec 16
deriving DecidableEq, Repr

/-- `wheel.set_gear` (R385). -/
structure WheelSetGear where
  channels : BitVec 128
  policy : Nat
deriving DecidableEq, Repr

/-- `wheel.set_jockey` (R385). -/
structure WheelSetJockey where
  wheels : BitVec 16
  policy : Nat
  rel : Nat
  floorPpm : Nat
deriving DecidableEq, Repr

/-- `wheel.service_spoke` (R385, R147). -/
structure WheelServiceSpoke where
  wheel : Nat
  spoke : Nat
  action : Nat
deriving DecidableEq, Repr

/-- `wheel.return_spoke` (R385). -/
structure WheelReturnSpoke where
  wheel : Nat
  spoke : Nat
deriving DecidableEq, Repr

/-- `chain.load_bank` (R386): the wheels and the 1,768 bytes of the set (R183). -/
structure ChainLoadBank where
  wheels : BitVec 16
  set : List Byte
deriving DecidableEq, Repr

/-- `chain.switch_bank` (R386). -/
structure ChainSwitchBank where
  wheels : BitVec 16
  fade : Nat
deriving DecidableEq, Repr

/-- `chain.set_channel` (R386). -/
structure ChainSetChannel where
  channel : Nat
  what : BitVec 8
  corner : Nat
  dcFreeze : Nat
  intEnable : Nat
  cycleRef : Nat
  envAttack : Nat
  envDecay : Nat
  scale : BitVec 32
deriving DecidableEq, Repr

/-- `chain.set_trip` (R386, R223). -/
structure ChainSetTrip where
  channel : Nat
  mode : Nat
  count : Nat
  tflags : BitVec 8
  outMask : BitVec 8
  release : Nat
  tHi : Int
  tLo : Int
deriving DecidableEq, Repr

/-- `meter.define` (R193). -/
structure MeterDefine where
  meter : Nat
  owner : Nat
  type : Nat
  options : BitVec 8
  vSlot : List Nat
  iSlot : List Nat
  invert : BitVec 8
  iStart : Nat
  creep : Nat
deriving DecidableEq, Repr

/-- `meter.undefine` (R387); `expGen` holds the generation in [15:0] and CHECK in [16]. -/
structure MeterUndefine where
  meter : Nat
  expGen : BitVec 32
deriving DecidableEq, Repr

/-- `meter.map_cf` (R387); `q` = 0xFF clears the mapping. -/
structure MeterMapCf where
  cf : Nat
  meter : Nat
  q : Nat
  width : Nat
  k : Nat
  expGen : BitVec 32
deriving DecidableEq, Repr

/-- `pq.set_channel` (R388, R230). -/
structure PqSetChannel where
  channel : Nat
  enable : Nat
  kind : Nat
  fNom : Nat
  ref : Nat
  harm : Nat
  iharm : Nat
  udin : BitVec 32
  dip : Nat
  swell : Nat
  intr : Nat
  hyst : Nat
deriving DecidableEq, Repr

/-- `pq.set_meter` (R388). -/
structure PqSetMeter where
  meter : Nat
  enable : Nat
deriving DecidableEq, Repr

/-- `pq.set_capture` (R388): `capture` = 0xFF takes a free number, `nseg` = 0 deletes. -/
structure PqSetCapture where
  capture : Nat
  format : Nat
  nseg : Nat
  nchan : Nat
  preMs : Nat
  postMs : Nat
  kinds : BitVec 16
  channels : List Nat
  sources : List Nat
  srcIsMeter : BitVec 8
  flagMeter : Nat
  flagMask : BitVec 32
deriving DecidableEq, Repr

/-- `pq.release` (R388). -/
structure PqRelease where
  capture : Nat
  segs : BitVec 16
deriving DecidableEq, Repr

/-- `pq.stream_open` (R388). -/
structure PqStreamOpen where
  nchan : Nat
  format : Nat
  size : Nat
  channels : List Nat
deriving DecidableEq, Repr

/-- A calibration target: a channel and a gear (R389). -/
structure CalTarget where
  channel : Nat
  gear : Nat
deriving DecidableEq, Repr

/-- `cal.run` (R389): `targets` holds all 16 entries of the list. -/
structure CalRun where
  kind : Nat
  ntarget : Nat
  signal : Nat
  phaseRef : Nat
  n : Nat
  tol : Nat
  index : Nat
  meter : Nat
  phase : Nat
  refMag : BitVec 64
  refAng : BitVec 64
  refP1 : BitVec 64
  refQ1 : BitVec 64
  targets : List CalTarget
deriving DecidableEq, Repr

/-- `cal.commit` (R389): `targets` holds all 16 entries of the list. -/
structure CalCommit where
  ntarget : Nat
  targets : List CalTarget
deriving DecidableEq, Repr

/-- `cal.read` (R389). -/
structure CalRead where
  channel : Nat
  gear : Nat
  path : Nat
deriving DecidableEq, Repr

/-- `cal.set_reference` (R389). -/
structure CalSetReference where
  preferred : Nat
  auto : Nat
deriving DecidableEq, Repr

/-- `tariff.set_meter` (R390). -/
structure TariffSetMeter where
  meter : Nat
  mode : Nat
  rate : Nat
  rateQ0 : Nat
  rateQ1 : Nat
deriving DecidableEq, Repr

/-- `ledger.read_signed` (R390). -/
structure LedgerReadSigned where
  meter : Nat
  snapIndex : Nat
  select : BitVec 32
deriving DecidableEq, Repr

/-- One demand entry of `ledger.set_demand` (R390, R304); `q` = 0xFF is unused. -/
structure DemandEntry where
  q : Nat
  l : Nat
  s : Nat
  rateMask : BitVec 8
deriving DecidableEq, Repr

/-- `ledger.set_demand` (R390): four entries. -/
structure LedgerSetDemand where
  meter : Nat
  entries : List DemandEntry
deriving DecidableEq, Repr

/-- The tamper configuration of one meter (R309), and the body of `ledger.set_tamper` (R390). -/
structure TamperCfg where
  enable : BitVec 8
  revMask : BitVec 8
  pRev : BitVec 32
  iRev : Nat
  bypRel : Nat
  neuLow : Nat
  iByp : Nat
  uNom : BitVec 32
  neuPe : Nat
  neuZs : Nat
  tOn : Nat
  tOff : Nat
deriving DecidableEq, Repr

/-- `ledger.set_tamper` (R390). -/
structure LedgerSetTamper where
  meter : Nat
  cfg : TamperCfg
deriving DecidableEq, Repr

/-- The polder record of R326, with its read-only fields; `reserved` says that every reserved field is zero. -/
structure PolderRecord where
  polder : Nat
  state : Nat
  priv : BitVec 16
  sluices : BitVec 32
  tickets : Nat
  options : BitVec 8
  ftripOut : BitVec 8
  cfOut : BitVec 16
  tripCh : BitVec 128
  pqCh : BitVec 128
  domains : BitVec 64
  poolShare : Nat
  streamShare : Nat
  keyGen : Nat
  keyId : Nat
  evt : BitVec 1024
deriving DecidableEq, Repr

/-- `polder.create` (R391). -/
structure PolderCreate where
  record : PolderRecord
  authKey : BitVec 256
  sessionKey : BitVec 256
deriving DecidableEq, Repr

/-- `polder.rekey` (R391); the wrapped keys are opened by the device (R331). -/
structure PolderRekey where
  options : BitVec 8
  newKeyGen : Nat
  ephPub : List Byte
  wrapped : List Byte
deriving DecidableEq, Repr

/-- `polder.read_audit` (R391). -/
structure PolderReadAudit where
  fromNo : Nat
  count : Nat
deriving DecidableEq, Repr

/-- `event.mask` (R394). -/
structure EventMask where
  group : Nat
  select : BitVec 32
  enable : BitVec 32
deriving DecidableEq, Repr

/-- `event.route` (R394). -/
structure EventRoute where
  line : Nat
  polders : BitVec 16
deriving DecidableEq, Repr

/-- `plc.set_link` (R395). -/
structure PlcSetLink where
  enable : Nat
  txMode : Nat
  txPhase : Nat
  rxMode : Nat
  rxPhase : Nat
deriving DecidableEq, Repr

/-- `plc.set_network` (R395). -/
structure PlcSetNetwork where
  netName : BitVec 64
  node : Nat
  role : Nat
  netKey : BitVec 128
deriving DecidableEq, Repr

/-- `plc.set_spectrum` (R395): 16 notch entries (first, last) and 206 attenuations. -/
structure PlcSetSpectrum where
  nnotch : Nat
  notches : List (Nat × Nat)
  psd : List Int
deriving DecidableEq, Repr

/-- `plc.send` (R395): `dlen` is the field; `data` the bytes that follow. -/
structure PlcSend where
  dest : Nat
  destPolder : Nat
  priority : Nat
  mode : Nat
  dlen : Nat
  data : List Byte
deriving DecidableEq, Repr

/-- `time.set` (R396): mode 0 = step, 1 = slew; the offset in 2^-24 s. -/
structure TimeSet where
  mode : Nat
  offset : Int
deriving DecidableEq, Repr

/-- `time.set_alarm` (R396). -/
structure TimeSetAlarm where
  seconds : BitVec 64
  mask : BitVec 64
  enable : Nat
deriving DecidableEq, Repr

/-- `time.set_periodic` (R396). -/
structure TimeSetPeriodic where
  k : Nat
  enable : Nat
deriving DecidableEq, Repr

/-- `store.read` (R397). -/
structure StoreRead where
  addr : Nat
  len : Nat
deriving DecidableEq, Repr

/-- `store.program` (R397): `len` is the field; `data` the bytes that follow. -/
structure StoreProgram where
  addr : Nat
  len : Nat
  data : List Byte
deriving DecidableEq, Repr

/-- `store.erase` (R397). -/
structure StoreErase where
  addr : Nat
  count : Nat
deriving DecidableEq, Repr

/-- `guard.unlock` (R398): step 0 asks for a challenge, step 1 answers it. -/
structure GuardUnlock where
  step : Nat
  challengeId : Nat
  sig : List Byte
deriving DecidableEq, Repr

/-- One entry of `guard.set_response` (R398). -/
structure GuardEntry where
  source : Nat
  response : Nat
  param : Nat
deriving DecidableEq, Repr

/-- `guard.set_response` (R398): `n` is the field. -/
structure GuardSetResponse where
  n : Nat
  entries : List GuardEntry
deriving DecidableEq, Repr

/-- `tandem.enable` (R399). -/
structure TandemEnable where
  enable : Nat
  partnerId : BitVec 128
deriving DecidableEq, Repr

/-- `image.stage` (R400). -/
structure ImageStage where
  kind : Nat
  offset : Nat
  data : List Byte
deriving DecidableEq, Repr

/-- A mailbox command by opcode, with its payload: one constructor per opcode of 13 (rows of the
operation table that one opcode tells apart by a field share one). -/
inductive Cmd where
  | devInfo
  | devIdentity
  | devEcho (data : List Byte)
  | powerSetDomains (p : PowerSetDomains)
  | powerSetState (p : PowerSetState)
  | powerStatus
  | wheelSetGear (p : WheelSetGear)
  | wheelSetJockey (p : WheelSetJockey)
  | wheelServiceSpoke (p : WheelServiceSpoke)
  | wheelReturnSpoke (p : WheelReturnSpoke)
  | wheelUseRelief (wheel mode : Nat)
  | wheelStatus (wheel : Nat)
  | chainLoadBank (p : ChainLoadBank)
  | chainSwitchBank (p : ChainSwitchBank)
  | chainSetChannel (p : ChainSetChannel)
  | chainSetTrip (p : ChainSetTrip)
  | chainClearTrip (channels : BitVec 128)
  | chainStatus (channel : Nat)
  | meterDefine (p : MeterDefine)
  | meterUndefine (p : MeterUndefine)
  | meterMapCf (p : MeterMapCf)
  | meterStatus (meter : Nat)
  | pqSetChannel (p : PqSetChannel)
  | pqSetMeter (p : PqSetMeter)
  | pqSetCapture (p : PqSetCapture)
  | pqArm (capture arm : Nat)
  | pqTrigger (capture : Nat)
  | pqRelease (p : PqRelease)
  | pqStatus (capture : Nat)
  | pqStreamOpen (p : PqStreamOpen)
  | pqStreamClose (stream : Nat)
  | calRun (p : CalRun)
  | calCommit (p : CalCommit)
  | calDiscard (t : CalTarget)
  | calStatus (t : CalTarget)
  | calRead (p : CalRead)
  | calAnchor
  | calSetReference (p : CalSetReference)
  | tariffStageCalendar (cal : List Byte)
  | tariffActivateAt (t : BitVec 64)
  | tariffSetMeter (p : TariffSetMeter)
  | tariffStatus
  | ledgerReadSigned (p : LedgerReadSigned)
  | ledgerSetDemand (p : LedgerSetDemand)
  | ledgerSetTamper (p : LedgerSetTamper)
  | ledgerClosePeriod (meters : BitVec 256)
  | ledgerStatus (meter : Nat)
  | polderCreate (p : PolderCreate)
  | polderAssign (n : Nat) (records : List PolderRecord)
  | polderRelease (r : PolderRecord)
  | polderClose
  | polderDissolve (polder : Nat)
  | polderRekey (p : PolderRekey)
  | polderGetKey
  | polderStatus (polder : Nat)
  | polderReadAudit (p : PolderReadAudit)
  | eventRead (max : Nat)
  | eventMask (p : EventMask)
  | eventRoute (p : EventRoute)
  | plcSetLink (p : PlcSetLink)
  | plcSetNetwork (p : PlcSetNetwork)
  | plcSetSpectrum (p : PlcSetSpectrum)
  | plcSend (p : PlcSend)
  | plcRecv
  | plcStatus
  | timeSet (p : TimeSet)
  | timeTrust (action : Nat)
  | timeSetAlarm (p : TimeSetAlarm)
  | timeSetPeriodic (p : TimeSetPeriodic)
  | timeStatus
  | storeRead (p : StoreRead)
  | storeProgram (p : StoreProgram)
  | storeErase (p : StoreErase)
  | guardUnlock (p : GuardUnlock)
  | guardSetKey (pub : List Byte)
  | guardSetResponse (p : GuardSetResponse)
  | tandemEnable (p : TandemEnable)
  | tandemHandover
  | tandemStatus
  | imageStage (p : ImageStage)
  | imageActivate (kind : Nat)
  | imageConfirm
  | imageStatus
deriving DecidableEq, Repr

/-- How a command entry is sealed (R332, R351). For an envelope the operands say what its header holds and
whether its tags verify under the keys in force when it is opened. -/
inductive SealForm where
  /-- The entry's SEALED flag is clear. -/
  | clear
  /-- A sealed envelope: DRY, KEY256, POLDER and KEY_GEN of its header, whether VERSION and CT_LEN are right and
  the CCM tag verifies, and whether AUTH verifies. -/
  | envelope (dry key256 : Bool) (polder keyGen : Nat) (ccmOk authOk : Bool)
deriving DecidableEq, Repr

/-- A command entry as the device takes it from a sluice's ring, without its payload (R349, R351). -/
structure Submit where
  /-- Host port of the doorbell, 0 or 1. -/
  port : Nat
  /-- Sluice number, 0 to 31. -/
  sluice : Nat
  /-- Instant D of the doorbell, in master clocks from the boundary that opened the cadence (R560). -/
  t : Nat
  sealing : SealForm
  nonce : BitVec 32
  tag : BitVec 32
  /-- Bulk offset and bytes available for a result longer than 40 bytes. -/
  roff : Nat
  rmax : Nat
deriving DecidableEq, Repr

end Sys2Proof
end

