-- ==== Sys2Proof/Config.lean ====
section
/-! DEFINITION. What the spec leaves open or names without restating: free values, standard cryptographic functions, filter
coefficients and factory data. Every constant here is without a body: no proof can see what it is. -/
namespace Sys2Proof

/-! ## Free values -/

/-- A free value drawn by the device or left open by the spec: the n-th drawn in a run (log 2). -/
opaque Config.free : Nat → Nat

/-- The direction in which a value that falls between two steps of its field is rounded, by what is rounded (the number of
the field, and twice the floor of the value) (log 16). -/
opaque Config.roundUp : Nat → Nat → Bool

/-- The angle in turns between two phasors of which one is zero: the spec gives zero no argument (R205, log 16). -/
opaque Config.zeroAngle (aRe aIm bRe bIm : Rat) : Rat

/-! ## Filters -/

/-- A factory coefficient as read from ROM, stage 1 or 2 (half-bands) or 3 (prototype) and index, 2^-22; the bank in use holds them to
R166 and R184 (`Bank.factoryCoeffs`, log 17). -/
opaque Config.factoryCoeff : Nat → Nat → Int

/-- Tap `n` (0 to 15) of the resampling interpolator at the fraction `f` of 2^-16 of a sample, 2^-22; the spec states its gain, not its taps
(R236, log 17). -/
opaque Config.resampleTap (f n : Nat) : Int

/-- Tap k of the fractional-delay filter of a fraction of a sample given in 1/65,536 as read from ROM, 2^-22; the taps in use are held to
R197 (`delayTaps`, log 17). -/
opaque Config.delayTap : Nat → Nat → Int

/-- Coefficient of section i of an all-pass network: branch 0 (H_V) or 1 (H_I) (R202, log 17). -/
opaque Config.allPass : Nat → Nat → Rat

/-! ## Cryptography (R330 to R333, R317, R343, R398, R525)

Where a result is stored or posted its bytes are counted by the algorithm: a public key and a signature 64, a tag 16. -/

/-- The hash of a list of bytes: SHA-256. -/
opaque Config.sha256 : List Byte → BitVec 256

/-- AES-CCM encryption with 16-byte tag under a session key: key, 256-bit key, nonce, associated data, plain text. -/
opaque Config.ccmSeal : BitVec 256 → Bool → List Byte → List Byte → List Byte → List Byte

/-- AES-CCM decryption: none where the tag does not verify. -/
opaque Config.ccmOpen : BitVec 256 → Bool → List Byte → List Byte → List Byte → Option (List Byte)

/-- AES-128-CCM encryption with an 8-byte tag under NET_KEY (R448): key, nonce, associated data, plain text. -/
opaque Config.linkSeal : BitVec 128 → List Byte → List Byte → List Byte → List Byte

/-- AES-128-CCM decryption under NET_KEY: none where the tag does not verify. -/
opaque Config.linkOpen : BitVec 128 → List Byte → List Byte → List Byte → Option (List Byte)

/-- AES-256-CMAC. -/
opaque Config.cmac : BitVec 256 → List Byte → List Byte

/-- The ECDSA P-256 public key, X then Y, of a private key. -/
opaque Config.publicKey : BitVec 256 → List Byte

/-- An ECDSA P-256 signature: private key, a random number, hash. -/
opaque Config.ecdsaSign : BitVec 256 → Nat → BitVec 256 → List Byte

/-- ECDSA P-256 verification: public key, hash, signature. -/
opaque Config.ecdsaVerify : List Byte → BitVec 256 → List Byte → Bool

/-- The keys a `polder.rekey` wraps for a polder number and new generation, opened with the device's key-agreement key: 256-bit
session key, ephemeral public key, wrapped bytes (R331). -/
opaque Config.unwrapKeys : Nat → Nat → Bool → List Byte → List Byte → Option (BitVec 256 × BitVec 256)

/-- The first 8 bytes of SHA-256 over the commit records of a boundary: command, polder and nonce of each, in commit order; the
layout of a commit record is not stated (R519). -/
opaque Config.commitDigest : List (Cmd × Nat × BitVec 32) → BitVec 64

/-! ## Factory data (R561) -/

/-- DEVICE_ID. -/
opaque Config.deviceId : BitVec 128

/-- The key-agreement public key, X then Y, 64 bytes (R383). -/
opaque Config.kaPub : List Byte

/-- The identity key pair's private half and the certificate chain (R383). -/
opaque Config.identityKey : BitVec 256
opaque Config.certificate : List Byte

/-- Gleroth's image key and the metrology authority's public key (R342). -/
opaque Config.glerothKey : List Byte
opaque Config.authorityKey : List Byte

/-- The factory packages from their second granule on: 0 = wet A, 1 = wet B, 2 = dry; 3 = what stands in dry staging. -/
opaque Config.factoryImage : Nat → Tab (List Byte)

/-- The build of VERSION and the SEC_VERSION in the header of a factory package. -/
opaque Config.factoryBuild : Nat → BitVec 16
opaque Config.factorySecurity : Nat → BitVec 32

/-- The first 8 bytes of the factory dry image's hash. -/
opaque Config.factoryDryHash : BitVec 64

end Sys2Proof
end

