-- ==== Sys2Proof/Machine/Bytes.lean ====
section
/-! DEFINITION. Little-endian words, bit fields, index tables, rounding and rational arithmetic: the helpers every other file
is written with. -/
namespace Sys2Proof

/-- `n` bytes of `v`, least significant first (R8). -/
def leBytes : Nat → Nat → List Byte
  | 0, _ => []
  | n + 1, v => BitVec.ofNat 8 v :: leBytes n (v / 256)

/-- The unsigned value of bytes, least significant first (R8). -/
def ofLE : List Byte → Nat
  | [] => 0
  | b :: bs => b.toNat + 256 * ofLE bs

/-- `n` bytes of a signed value in two's complement, least significant first (R8). -/
def leBytesInt (n : Nat) (v : Int) : List Byte := leBytes n (v % (256 ^ n : Nat)).toNat

/-- The signed value of `n` bytes in two's complement. -/
def ofLEInt (bs : List Byte) : Int :=
  let v := ofLE bs
  let half := 256 ^ bs.length / 2
  if v < half then (v : Int) else (v : Int) - (256 ^ bs.length : Nat)

/-- `n` zero bytes: a reserved field (R11). -/
def zeros (n : Nat) : List Byte := List.replicate n 0

/-- `len` bytes of `bs` from offset `off`; bytes beyond the end read as zero. -/
def slice (bs : List Byte) (off len : Nat) : List Byte :=
  let t := (bs.drop off).take len
  t ++ zeros (len - t.length)

/-- The unsigned little-endian field of `len` bytes at `off`. -/
def field (bs : List Byte) (off len : Nat) : Nat := ofLE (slice bs off len)

/-- The signed little-endian field of `len` bytes at `off`. -/
def fieldInt (bs : List Byte) (off len : Nat) : Int := ofLEInt (slice bs off len)

/-! ## CRC-32 of IEEE 802.3 (R184, R266, R298; log 24) -/

/-- One bit shifted through the reflected polynomial 0x04C11DB7. -/
def crc32Bit (c : Nat) : Nat := if c % 2 = 1 then (c / 2) ^^^ 0xEDB88320 else c / 2

/-- One byte, least significant bit first. -/
def crc32Byte (c : Nat) (b : Byte) : Nat := (List.range 8).foldl (fun c _ => crc32Bit c) (c ^^^ b.toNat)

/-- Bytes through the register `c`; the cases have the kernel evaluate the register byte by byte. -/
def crc32Run : List Byte → Nat → Nat
  | [], c => c
  | b :: bs, c =>
    match crc32Byte c b with
    | 0 => crc32Run bs 0
    | n + 1 => crc32Run bs (n + 1)

/-- The CRC-32 of bytes: register preset to ones, result complemented. -/
def crc32 (bs : List Byte) : BitVec 32 := ~~~BitVec.ofNat 32 (crc32Run bs 0xFFFFFFFF)

/-- The positions of the set bits of a mask of `n` bits, ascending. -/
def bitsOf (n : Nat) (m : Nat) : List Nat := (List.range n).filter fun i => m.testBit i

/-- The mask whose set bits are the listed positions. -/
def maskOf (l : List Nat) : Nat := l.foldl (fun acc i => acc ||| (1 <<< i)) 0

/-- One bit as a number. -/
def bit (b : Bool) : Nat := if b then 1 else 0

/-! ## Tables by index -/

/-- The entry of number `i`, or none where the table lists none. -/
def Tab.find {α : Type} : Tab α → Nat → Option α
  | [], _ => none
  | (j, x) :: t, i => if j = i then some x else Tab.find t i

/-- The entry of number `i`, or `d` where the table lists none. -/
def Tab.get {α : Type} (t : Tab α) (d : α) (i : Nat) : α := (Tab.find t i).getD d

/-- The table with entry `x` at number `i`. -/
def Tab.put {α : Type} : Tab α → Nat → α → Tab α
  | [], i, x => [(i, x)]
  | (j, y) :: t, i, x =>
    if j = i then (i, x) :: t
    else if i < j then (i, x) :: (j, y) :: t
    else (j, y) :: Tab.put t i x

/-- The table without an entry at number `i`. -/
def Tab.erase {α : Type} (t : Tab α) (i : Nat) : Tab α := t.filter fun e => e.1 != i

/-- The first number from `i` on, of `n` numbers, that satisfies `p`. -/
def firstFrom (p : Nat → Bool) : Nat → Nat → Option Nat
  | 0, _ => none
  | n + 1, i => if p i then some i else firstFrom p n (i + 1)

/-- The list without its elements beyond the first `n`. -/
def keepFirst {α : Type} (n : Nat) (l : List α) : List α := l.take n

/-- The list's last `n` elements. -/
def keepLast {α : Type} (n : Nat) (l : List α) : List α := l.drop (l.length - n)

/-- The floor of a rational number's absolute value times `2^b`. -/
def floorBits (b : Nat) (x : Rat) : Int := (x * ((2 ^ b : Nat) : Rat)).floor

/-- The nearest integer, ties upward. -/
def roundRat (x : Rat) : Int := (x + 1 / 2).floor

/-- The nearest natural number to `n / d`, ties upward. -/
def roundDiv (n d : Nat) : Nat := (2 * n + d) / (2 * d)

/-- The absolute value of a rational number. -/
def absRat (x : Rat) : Rat := if x < 0 then -x else x

/-- The larger of two rational numbers. -/
def maxRat (x y : Rat) : Rat := if x < y then y else x

/-- The smaller of two rational numbers. -/
def minRat (x y : Rat) : Rat := if y < x then y else x

/-- The sum of a list of rational numbers. -/
def sumRat (l : List Rat) : Rat := l.foldl (· + ·) 0

end Sys2Proof
end

