-- ==== Sys2Proof/Machine/StCore.lean ====
section
/-! DEFINITION. The parts of the state that belong to timekeeping, power, the fabric, polders, sluices, host
ports, events, logs, guards and memories: plain data, each with its value at reset. -/
namespace Sys2Proof.Machine

/-- Master clocks in one cadence of 8 ms (R21, R460). -/
def cadenceClocks : Nat := 393216

/-! ## Timekeeping (16) -/

/-- Timekeeping (R460 to R475). -/
structure Time where
  /-- Number of the cadence that is open (R21). -/
  cad : Nat
  /-- Master clocks since the boundary that opened it. -/
  off : Nat
  /-- Boundaries passed since reset, whatever steps renumbered. -/
  bnd : Nat
  /-- Steering word, 2^-32 of the nominal ratio away from it (R460). -/
  steer : Int
  /-- The steering word in stored configuration (R471). -/
  steerStored : Option Int
  /-- Boundary count at the last store of the steering word (R471). -/
  steerAt : Nat
  /-- Remaining slew offset, 2^-24 s (R467). -/
  slew : Rat
  /-- SOURCE (R463): 0 free-running, 1 PPS, 2 beacon, 3 holdover. -/
  source : Nat
  locked : Bool
  everLocked : Bool
  /-- Consecutive samples within the lock tolerance (R469). -/
  lockRun : Nat
  /-- Consecutive samples beyond 100 ms while trusted (R466). -/
  bigRun : Nat
  /-- Sources disqualified by a failed discipline check (R466). -/
  disqPps : Bool
  disqBeacon : Bool
  /-- LAST_OFFSET, 2^-24 s (R469). -/
  lastOffset : Rat
  /-- Elapsed master clocks at the loss of the source (R470). -/
  holdoverFrom : Option Nat
  /-- Stamp of the last valid PPS edge, in elapsed master clocks (R464). -/
  ppsEdge : Option Nat
  ppsValid : Bool
  /-- The next PPS edge need only be stamped (R464). -/
  ppsFresh : Bool
  /-- Beacon samples towards a median of five, 2^-24 s (R465). -/
  beaconBuf : List Rat
  /-- The chosen neighbour qualifies as a beacon source (R465). -/
  beaconOk : Bool
  /-- A decided step: cadences and the remainder to slew (R466, R468). -/
  stepDue : Option (Int × Rat)
  /-- The timebase stepped at the last boundary (R468). -/
  stepped : Bool
  /-- CAUSES in force (R473). -/
  causes : BitVec 3
  /-- Causes detected, effective at the next boundary (R473). -/
  causesDue : BitVec 3
  alarmSeconds : BitVec 40
  alarmMask : BitVec 40
  alarmOn : Bool
  /-- Seconds value at which the alarm last fired (R474). -/
  alarmAt : Option Nat
  periodicK : Nat
  periodicOn : Bool
deriving DecidableEq, Repr

/-- Timekeeping at reset: a cold start of AON (R111, R473). -/
def Time.reset : Time where
  cad := 0
  off := 0
  bnd := 0
  steer := 0
  steerStored := none
  steerAt := 0
  slew := 0
  source := 0
  locked := false
  everLocked := false
  lockRun := 0
  bigRun := 0
  disqPps := false
  disqBeacon := false
  lastOffset := 0
  holdoverFrom := none
  ppsEdge := none
  ppsValid := false
  ppsFresh := true
  beaconBuf := []
  beaconOk := false
  stepDue := none
  stepped := false
  causes := 1
  causesDue := 0
  alarmSeconds := 0
  alarmMask := 0
  alarmOn := false
  alarmAt := none
  periodicK := 0
  periodicOn := false

/-! ## Power domains, device states and wake (04) -/

/-- State of a power domain (R99). -/
inductive DomState where
  | off
  | rising
  | on
  | draining
  | drainThenOn
deriving DecidableEq, Repr

/-- A span in which a domain was ON, in elapsed master clocks; `cut`: it ended in a loss, not in a turn-off (R98, R100). -/
structure OnSpan where
  from_ : Nat
  to_ : Nat
  cut : Bool
deriving DecidableEq, Repr

/-- A switched power domain. -/
structure Dom where
  state : DomState
  /-- A domain that is OFF between a drain and its pending turn-on: the instant, in elapsed master clocks, from which it is RISING
  (R100). -/
  riseFrom : Option Nat
  /-- Elapsed master clocks at which the drain in progress began (R101). -/
  drainAt : Option Nat
  /-- A turn-off is pending while RISING (R100). -/
  offPending : Bool
  /-- Current state epoch of the domain as a unit (R116). -/
  epoch : BitVec 32
  /-- The epoch retained by the domain, none after PORST_N (R102, R117). -/
  retained : Option (BitVec 32)
  /-- Elapsed master clocks at which the domain reached ON (R187). -/
  onAt : Option Nat
  /-- The last spans in which it was ON, newest first (R187, R228). -/
  spans : List OnSpan
deriving DecidableEq, Repr

/-- A domain at reset: OFF, with nothing in retention (R111, R117). -/
def Dom.reset : Dom := { state := .off, riseFrom := none, drainAt := none, offPending := false, epoch := 0, retained := none, onAt := none, spans := [] }

/-- Device state (R103). -/
inductive DevState where
  | run
  | trim
  | hush
  | nap
deriving DecidableEq, Repr

/-- Current and retained state epoch of a unit that is no domain (R116, R117). -/
structure UnitEpoch where
  epoch : BitVec 32
  retained : Option (BitVec 32)
deriving DecidableEq, Repr

/-- A unit at reset: nothing in retention (R117). -/
def UnitEpoch.reset : UnitEpoch := { epoch := 0, retained := none }

/-- The three application cores (R16, R19): the two that are active, the one that is the spare, and the active core that firmware has
retired and whose place the spare takes at the next restart of the wet image. -/
structure Cores where
  active : List Nat
  spare : Option Nat
  retiring : Option Nat
  retired : List Nat
deriving DecidableEq, Repr

/-- Cores 0 and 1 active, core 2 the spare (the numbers are the model's, log 113). -/
def Cores.reset : Cores := { active := [0, 1], spare := some 2, retiring := none, retired := [] }

/-- Power domains, device states, start-up and wake. -/
structure Power where
  state : DevState
  /-- State held before HUSH (R105). -/
  held : DevState
  /-- A state committed at the open boundary and entered once the boundary's commits are done (R104). -/
  pending : Option DevState
  /-- The state that a start enters once it is complete (R104, R106). -/
  after : Option DevState
  /-- HUSH has been requested and not entered yet, and DEV_WAKE defers it (R104). -/
  hushWant : Bool
  hushDefer : Bool
  /-- AON runs from VBAT (R122). -/
  aonVbat : Bool
  mainWarn : Bool
  /-- The power-fail sequence runs (R107, R124). -/
  pfail : Bool
  /-- Boundary B of step 2 of the power-fail sequence has passed (R107). -/
  pfailClosed : Bool
  /-- The device is in NAP after a power-fail sequence (R110). -/
  afterPfail : Bool
  dryOk : Bool
  wetAOk : Bool
  wetBOk : Bool
  /-- The running wet copy: false = A, true = B. -/
  wetActive : Bool
  recovery : Bool
  coldAon : Bool
  /-- AON has cold-started and no start has followed yet (R111). -/
  coldPend : Bool
  firstPub : Bool
  portsReady : Bool
  warm : Bool
  startCount : BitVec 16
  firstPubMs : Nat
  portsMs : Nat
  /-- Elapsed master clocks the start is counted from (R106, R112). -/
  startAt : Nat
  /-- Step 7 of the start-up table waits for a boundary (R112). -/
  startBoundary : Bool
  /-- Reasons recorded: [0] DEV_WAKE … [6] MAIN_RETURN (R124). -/
  wakeCause : BitVec 7
  collided : Bool
  /-- HOST_WAKE_N is held asserted (R120, R124). -/
  hold : Bool
  vbatLatched : Bool
  /-- Reasons were latched, while no wake could take place, since the last episode (R123). -/
  vbatNew : Bool
  episode : BitVec 16
  episodeOpen : Bool
  /-- Instants of the episode's first and last DEV_WAKE edges and of its last device reason (R119, R120). -/
  devWakeFirst : Option Nat
  devWakeAt : Option Nat
  reasonAt : Option Nat
  /-- Level of DEV_WAKE as last seen (R104). -/
  devWakeHigh : Bool
  /-- IRQ_WAKE, NAP_RETURN and the enables, as PWR_WAKE_CFG [9:0] (R124). -/
  wakeCfg : BitVec 10
  pfailCount : BitVec 16
  lastComplete : Bool
  /-- Level of PORST_N. -/
  porstHigh : Bool
  /-- AON reset while PORST_N was high: the device waits as if PORST_N were low (R563). -/
  aonLost : Bool
  /-- TMODE was sampled high: firmware stopped (R90). -/
  halted : Bool
  /-- TIEBREAK as sampled (R87). -/
  tiebreak : Bool
  /-- MCLK_IN was selected rather than the crystal (R74). -/
  clkExt : Bool
  /-- A start has left an outage that the next booking takes up (R109). -/
  outageOpen : Bool
  /-- Meters whose outage waits for the first cadence measured again, each with the last cadence booked before it (R109). -/
  outageDue : Tab Nat
  /-- Domain losses whose domain has not come back: domain and first affected cadence (R98). -/
  losses : List (Nat × Nat)
  doms : Tab Dom
  cores : Cores
  /-- The metering engine as a unit (R116). -/
  metering : UnitEpoch
  /-- Units whose epoch has advanced at the present boundary (R116), as `unitNo` numbers them. -/
  advanced : List Nat
deriving DecidableEq, Repr

/-- Power at the first power-on while PORST_N is low: AON has cold-started, everything else is in reset
(R111, R124). -/
def Power.reset : Power where
  state := .trim
  held := .trim
  pending := none
  after := none
  hushWant := false
  hushDefer := false
  aonVbat := false
  mainWarn := false
  pfail := false
  pfailClosed := false
  afterPfail := false
  dryOk := false
  wetAOk := false
  wetBOk := false
  wetActive := false
  recovery := false
  coldAon := true
  coldPend := true
  firstPub := false
  portsReady := false
  warm := false
  startCount := 0
  firstPubMs := 0
  portsMs := 0
  startAt := 0
  startBoundary := false
  wakeCause := 0
  collided := false
  hold := false
  vbatLatched := false
  vbatNew := false
  episode := 0
  episodeOpen := false
  devWakeFirst := none
  devWakeAt := none
  reasonAt := none
  devWakeHigh := false
  wakeCfg := 0x010
  pfailCount := 0
  lastComplete := false
  porstHigh := false
  aonLost := false
  halted := false
  tiebreak := false
  clkExt := false
  outageOpen := false
  outageDue := []
  losses := []
  doms := [(0, { Dom.reset with state := .on })]
  cores := Cores.reset
  metering := UnitEpoch.reset
  advanced := []

/-! ## Self-timed fabric (02) -/

/-- Occupancy, capacity, voltage requests and shedding (R47 to R62). -/
structure Fabric where
  last : Nat
  resource : Nat
  shed : Nat
  vreq : Nat
  /-- Cadences of settle allowance left (R53). -/
  settleLeft : Nat
  atMax : Bool
  /-- Device occupancies of the last 125 closed cadences, newest first (AVG of R48). -/
  hist : List Nat
  peak : Nat
  cap : Nat
  ovrCnt : BitVec 32
  ovrLate : BitVec 32
  fixed : Bool
  fixedCode : Nat
  settle : Nat
  /-- Consecutive cadences below 512 (R52) and below 768 (R58). -/
  lowRun : Nat
  shedRun : Nat
  /-- Code 0b101 is forced (R50). -/
  forced : Bool
  /-- Overruns, highest occupancy and its resource in the open RTC second (R62). -/
  secOver : Nat
  secPeak : Nat
  secRes : Nat
  /-- Unfinished work of each resource at the last boundary, in master clocks of busy time (R62). -/
  carried : List Nat
deriving DecidableEq, Repr

/-- The fabric at reset (R48, R50). -/
def Fabric.reset : Fabric where
  last := 0
  resource := 0
  shed := 0
  vreq := 5
  settleLeft := 0
  atMax := false
  hist := []
  peak := 0
  cap := 0
  ovrCnt := 0
  ovrLate := 0
  fixed := false
  fixedCode := 5
  settle := 2
  lowRun := 0
  shedRun := 0
  forced := true
  secOver := 0
  secPeak := 0
  secRes := 0
  carried := []

/-! ## Events and logs (14, 17) -/

/-- An event entry (R422). -/
structure EventEntry where
  stamp : Nat
  source : Nat
  code : Nat
  data : BitVec 32
deriving DecidableEq, Repr

/-- An entry of the event log or the crest log (R489). -/
structure LogEntry where
  time : Nat
  owner : Nat
  source : Nat
  code : Nat
  lflags : BitVec 16
  data : BitVec 32
  seq : BitVec 32
  detail : BitVec 64
deriving DecidableEq, Repr

/-- An entry of a polder's audit log (R337, R339, R490). -/
inductive AuditEntry where
  /-- KIND 0x01: refusals of one reason and sluice. -/
  | refusal (time reason sluice opcode ticket : Nat) (nonce : BitVec 32) (count : Nat)
  /-- KIND 0x02: blocked accesses. -/
  | blocked (time count : Nat)
  /-- KIND 0x03 or 0x04: the bytes of a log entry. -/
  | entry (e : LogEntry)
deriving DecidableEq, Repr

/-- The event log and the crest log (R489 to R494). -/
structure Logs where
  /-- Newest last, at most 8,192. -/
  entries : List LogEntry
  seq : BitVec 32
  /-- Location the next entry goes to, and the failed locations (R491). -/
  pos : Nat
  failedLocs : List Nat
  failed : Bool
  /-- Newest last, at most 64 (R492). -/
  crest : List LogEntry
  crestSeq : BitVec 32
  overwrites : BitVec 16
  crestFailed : Bool
  /-- Readings carry LOG_COMPROMISED (R493), and its detection waiting for a boundary. -/
  compromised : Bool
  compromisedDue : Bool
  /-- Meters whose readings carry LOG_COMPROMISED because of a lost word (R488). -/
  lost : List Nat
deriving DecidableEq, Repr

/-- The logs at reset: empty. -/
def Logs.reset : Logs where
  entries := []
  seq := 0
  pos := 0
  failedLocs := []
  failed := false
  crest := []
  crestSeq := 0
  overwrites := 0
  crestFailed := false
  compromised := false
  compromisedDue := false
  lost := []

/-- Event status, enables and routing (R421 to R428). -/
structure Evt where
  enable : Bool
  whileOn : Bool
  /-- EVT_MODE: bit g set = group g is sequence-clear. -/
  mode : BitVec 32
  /-- Sequence counter of each group (R426). -/
  seq : Tab (BitVec 16)
  /-- Bit e: source e is pending. -/
  pending : BitVec 1024
  /-- Bit e: source e is disabled (R421). -/
  disabled : BitVec 1024
  /-- Polders routed to each HP_IRQ_N line (R428). -/
  route : Tab (BitVec 16)
deriving DecidableEq, Repr

/-- Events at reset (R425). -/
def Evt.reset : Evt where
  enable := true
  whileOn := false
  mode := 0xFFFFFFFF
  seq := []
  pending := 0
  disabled := 0
  route := []

/-! ## Polders (11) -/

/-- A frame in a polder's powerline queue (R395, R456, R457). -/
structure PlcFrame where
  src : Nat
  dest : Nat
  srcPolder : Nat
  destPolder : Nat
  priority : Nat
  mode : Nat
  stamp : Nat
  data : List Byte
  /-- Index of the outstanding `plc.send`, for a frame this device originates. -/
  order : Nat
deriving DecidableEq, Repr

/-- A polder: its record (R326), keys (R330), requests (R95), journal (R360), audit log (R337), event
queue (R424) and powerline receive queue (R395). -/
structure Polder where
  state : Nat
  priv : BitVec 16
  sluices : BitVec 32
  tickets : Nat
  options : BitVec 8
  ftripOut : BitVec 4
  cfOut : BitVec 16
  tripCh : BitVec 128
  pqCh : BitVec 128
  domains : BitVec 33
  poolShare : Nat
  streamShare : Nat
  keyGen : BitVec 32
  keyId : BitVec 32
  evt : BitVec 1024
  authKey : BitVec 256
  sessKey : BitVec 256
  /-- Private half of the signing key (R330). -/
  signKey : BitVec 256
  hasKeys : Bool
  /-- A `polder.rekey` has committed since creation (R324). -/
  rekeyed : Bool
  /-- Explicit ON and OFF requests (R95). -/
  on : BitVec 33
  off : BitVec 33
  /-- Nonces of the last 1,024 committed commands, oldest first (R360). -/
  journal : List (BitVec 32)
  /-- Every entry of the journal is treated as present (R488). -/
  journalAll : Bool
  /-- Newest last, at most 512 (R393). -/
  audit : List AuditEntry
  /-- Number of the newest entry, 0 = none. -/
  auditNo : BitVec 32
  refusals : BitVec 32
  /-- RTC second of the last audit entry about blocked accesses, and those counted since (R339). -/
  blockedSec : Option Nat
  blockedCount : Nat
  queue : List EventEntry
  dropped : Nat
  /-- The first drop since the last `event.read` has fired (R424). -/
  overflow : Bool
  rxq : List PlcFrame
deriving DecidableEq, Repr

/-- A polder without an owner (R321). -/
def Polder.free : Polder where
  state := 0
  priv := 0
  sluices := 0
  tickets := 0
  options := 0
  ftripOut := 0
  cfOut := 0
  tripCh := 0
  pqCh := 0
  domains := 0
  poolShare := 0
  streamShare := 0
  keyGen := 0
  keyId := 0
  evt := 0
  authKey := 0
  sessKey := 0
  signKey := 0
  hasKeys := false
  rekeyed := false
  on := 0
  off := 0
  journal := []
  journalAll := false
  audit := []
  auditNo := 0
  refusals := 0
  blockedSec := none
  blockedCount := 0
  queue := []
  dropped := 0
  overflow := false
  rxq := []

/-- The domains whose "Switched by" entry includes "command" (R94): MTR, MEM2, MEM3, PQE, PLA, PLD, TDM and
the wheels. -/
def commandDomains : BitVec 33 := BitVec.ofNat 33 (maskOf ([5, 8, 9, 12, 14, 15, 16] ++ (List.range 16).map (· + 17)))

/-- P00 from the factory: SL00, every privilege, every output, comparator and channel, no keys (R322, R326). -/
def Polder.foundation : Polder :=
  { Polder.free with
    state := 1
    priv := 0x00FF
    sluices := 1
    tickets := 256
    ftripOut := 0xF
    cfOut := 0xFFFF
    tripCh := BitVec.allOnes 128
    pqCh := BitVec.allOnes 128
    domains := commandDomains
    poolShare := 2560
    streamShare := 128 }

/-! ## Sluices (12) -/

/-- The envelope keys a command's completions are sealed under: those in force at its doorbell (R331, R333). -/
inductive Envelope where
  | clear
  | sealed (dry key256 : Bool) (polder : Nat) (keyGen : BitVec 32) (sess auth : BitVec 256)
deriving DecidableEq, Repr

/-- An outstanding command and its ticket (R357). -/
structure Held where
  sluice : Nat
  polder : Nat
  port : Nat
  /-- Ticket handle, 0 to 255; 0xFFFF = none. -/
  handle : Nat
  cindex : Nat
  nonce : BitVec 32
  tag : BitVec 32
  roff : Nat
  rmax : Nat
  env : Envelope
  /-- Number of the command in the order of taking. -/
  order : Nat
deriving DecidableEq, Repr

/-- A completion that is due (R354). -/
structure Completion where
  sluice : Nat
  ticket : Nat
  cindex : Nat
  nonce : BitVec 32
  tag : BitVec 32
  /-- The status posted in the entry. -/
  status : Nat
  final : Bool
  sealed : Bool
  roff : Nat
  /-- Bytes of the result or envelope. -/
  result : List Byte
  /-- The outstanding command it ends or reports on, by order of taking; none where no ticket was held. -/
  order : Option Nat
deriving DecidableEq, Repr

/-- A sluice (R347, R348). -/
structure Sluice where
  epoch : BitVec 16
  taken : BitVec 16
  posted : BitVec 16
  cons : BitVec 16
  /-- Completions posted since the epoch began (R355). -/
  posts : Nat
  staleDb : Bool
  overrun : Bool
  /-- Completions waiting for a free slot, in due order (R355). -/
  waiting : List Completion
deriving DecidableEq, Repr

/-- A sluice at the start of an epoch (R347). -/
def Sluice.reset : Sluice where
  epoch := 0
  taken := 0
  posted := 0
  cons := 0
  posts := 0
  staleDb := false
  overrun := false
  waiting := []

/-- A staged command (R362 to R364). -/
structure Staged where
  held : Held
  cmd : Cmd
  /-- Boundary, in `Time.bnd`, at which it commits. -/
  due : Nat
  /-- Staging instant in elapsed master clocks. -/
  at_ : Nat
  /-- Position in its batch. -/
  batch : Nat
  /-- The tandem stoker has not yet acknowledged its prepare frame (R521). -/
  unacked : Bool
deriving DecidableEq, Repr

/-- A refusal whose completion is due at D + 256 us (R336). -/
structure RefusalDue where
  held : Held
  due : Nat
deriving DecidableEq, Repr

/-- Commands the device has taken and not finished. -/
structure Outstanding where
  /-- Every outstanding command, in the order taken. -/
  held : List Held
  staged : List Staged
  refusals : List RefusalDue
  /-- Commands taken since reset. -/
  count : Nat
deriving DecidableEq, Repr

/-- Nothing outstanding. -/
def Outstanding.reset : Outstanding := { held := [], staged := [], refusals := [], count := 0 }

/-! ## Host ports (14) -/

/-- A port's last read of an event group (R426): the number, the bits returned and those that fired since. -/
structure LastRead where
  seq : BitVec 16
  bits : BitVec 32
  fired : BitVec 32
deriving DecidableEq, Repr

/-- A host port (R407, R414). -/
structure Port where
  qpi : Bool
  dummy : BitVec 6
  badInstr : Bool
  unaligned : Bool
  cross : Bool
  partialWord : Bool
  blocked : Bool
  perm : BitVec 16
  blockCount : BitVec 32
  frozen : Bool
  shadow : List (BitVec 32)
  lastRead : Tab LastRead
  /-- The word last served on the port. -/
  rdata : BitVec 32
deriving DecidableEq, Repr

/-- A host port at reset (R407). -/
def Port.reset : Port where
  qpi := false
  dummy := 0x20
  badInstr := false
  unaligned := false
  cross := false
  partialWord := false
  blocked := false
  perm := 0
  blockCount := 0
  frozen := false
  shadow := [0, 0, 0, 0]
  lastRead := []
  rdata := 0

/-! ## Parity test and live parity (14 R416, 17 R480, R482) -/

/-- The parity test block, the test rows and the live error counts. -/
structure Par where
  enable : Bool
  bank : BitVec 2
  word : BitVec 8
  data : BitVec 32
  chk : BitVec 4
  /-- The operation in progress, none when not BUSY. -/
  op : Option Nat
  err : Bool
  errBytes : BitVec 4
  overlap : Bool
  whileOn : Bool
  scrubErr : Nat
  /-- Test-row words by bank × 256 + word: data and parity bits. -/
  rows : Tab (BitVec 32 × BitVec 4)
  /-- PAR_LIVE per bank: ERRORS and SPARES. -/
  liveErrors : Tab Nat
  spares : Tab Nat
  /-- Errors found per row in use (bank × 4096 + row), and the spare row that stands for a remapped row (R482). -/
  rowErrors : Tab Nat
  remap : Tab Nat
  /-- The scrubber (R479): cadences of its pass that have closed, and the next word of each bank. -/
  scrubPhase : Nat
  scrubPos : Tab Nat
deriving DecidableEq, Repr

/-- The parity block at reset (R416). -/
def Par.reset : Par where
  enable := false
  bank := 0
  word := 0
  data := 0
  chk := 0
  op := none
  err := false
  errBytes := 0
  overlap := false
  whileOn := false
  scrubErr := 0
  rows := []
  liveErrors := []
  spares := []
  rowErrors := []
  remap := []
  scrubPhase := 0
  scrubPos := []

/-- The wheel broadcast block (R419). -/
structure Bcast where
  mask : BitVec 16
  bcastRead : Bool
deriving DecidableEq, Repr

/-- The broadcast block at reset. -/
def Bcast.reset : Bcast := { mask := 0xFFFF, bcastRead := false }

/-! ## Guards, tamper inputs and supply monitors (17) -/

/-- A guard source's response and PARAM (R498, R499). -/
structure GuardResp where
  response : Nat
  param : BitVec 8
deriving DecidableEq, Repr

/-- An unlock challenge (R398). -/
structure Challenge where
  id : BitVec 32
  bytes : BitVec 128
  /-- Elapsed master clocks at issue. -/
  issued : Nat
deriving DecidableEq, Repr

/-- The floodgate, guard responses, unlock key and fuses (R499 to R508). -/
structure Guard where
  resp : Tab GuardResp
  key : Option (List Byte)
  challenge : Option Challenge
  challengeNo : BitVec 32
  closed : Bool
  /-- Sources whose close response waits for a boundary (R504). -/
  due : List Nat
  fuses : BitVec 22
  /-- The fuse shadow in flash (R36, R503). -/
  shadow : BitVec 22
deriving DecidableEq, Repr

/-- Guards at reset: factory responses, no key, floodgate open. -/
def Guard.reset : Guard :=
  { resp := [], key := none, challenge := none, challengeNo := 0, closed := false, due := [], fuses := 0, shadow := 0 }

/-- An input's activations latched on VBAT (R498). -/
structure VbatLatch where
  time : Nat
  further : Nat
deriving DecidableEq, Repr

/-- Tamper inputs and supply monitors (R415, R495 to R498). -/
structure Tamper where
  /-- Inputs active after the filter (R497). -/
  active : BitVec 8
  /-- TMP_LEVEL.TAMP_IN: filtered levels. -/
  level : BitVec 8
  /-- When the filtered level of an input changed last, in elapsed master clocks (R497). -/
  changed : Tab Nat
  latch : BitVec 8
  glitch : BitVec 4
  slow : BitVec 4
  /-- Supplies whose monitors are armed: VDDC, VDDA33, VDDIO, VDDAON (R496). -/
  armed : BitVec 4
  /-- Elapsed master clocks of AON's return to VDDAON (R496). -/
  aonBack : Nat
  vbat : Tab VbatLatch
deriving DecidableEq, Repr

/-- Tamper inputs and monitors at reset. -/
def Tamper.reset : Tamper :=
  { active := 0, level := 0, changed := [], latch := 0, glitch := 0, slow := 0, armed := 0, aonBack := 0, vbat := [] }

/-! ## Flash and images (17 R483 to R486, 11 R340 to R344) -/

/-- One copy of a region that is held twice (R485): its generation, its erases, and whether a check of it has failed. -/
structure CopyState where
  gen : Nat
  erases : Nat
  bad : Bool
deriving DecidableEq, Repr

/-- The two copies of a region (R485). -/
structure TwoCopies where
  a : CopyState
  b : CopyState
deriving DecidableEq, Repr

/-- Regions held in two copies: 0 calibration sets, 1 keys and fuse shadow, 2 stored configuration; and those whose contents have changed
since they were last written (R485). -/
structure Doubles where
  regions : Tab TwoCopies
  due : BitVec 3
deriving DecidableEq, Repr

/-- A region as it leaves final test: generation 1 in copy A (log 14). -/
def TwoCopies.factory : TwoCopies := { a := { gen := 1, erases := 0, bad := false }, b := { gen := 0, erases := 0, bad := false } }

/-- One copy of an image package in flash: its programmed granules of 16 bytes by number from offset 0, the header first (R342, R483); a
granule that is not listed is erased. -/
structure ImageCopy where
  granules : Tab (List Byte)
deriving DecidableEq, Repr

/-- VERSION of a factory package (R342, R561): wet images are release 4.2, the dry image is 2.1; the build is the part's. -/
def factoryVersion (k : Nat) : BitVec 32 := (if k = 2 then 0x0201 else 0x0402 : BitVec 16) ++ Config.factoryBuild k

/-- A factory package (R342, R561): its first granule holds FORMAT, KIND, VERSION and SEC_VERSION. -/
def factoryCopy (k : Nat) : ImageCopy :=
  ⟨(Config.factoryImage k).put 0 (leBytes 4 1 ++ leBytes 4 (if k = 2 then 1 else 0) ++ leBytes 4 (factoryVersion k).toNat
    ++ leBytes 4 (Config.factorySecurity k).toNat)⟩

/-- Flash: the general store, sector wear, uncorrectable granules, and the image regions. -/
structure Flash where
  /-- Programmed granules of the general store by store granule number (address / 16): 16 bytes each. -/
  store : Tab (List Byte)
  /-- Erases of each sector of the general store and the image regions, by flash byte address / 4,096 (R486). -/
  wear : Tab Nat
  /-- Errors corrected on read (R484). -/
  corrected : Nat
  /-- Flash byte addresses of uncorrectable granules (R484). -/
  bad : List Nat
  wetA : ImageCopy
  wetB : ImageCopy
  dry : ImageCopy
  dryStaged : ImageCopy
  /-- Version and security version of the running wet and dry images (R342). -/
  wetVer : BitVec 32
  wetSec : BitVec 32
  dryVer : BitVec 32
  drySec : BitVec 32
  /-- First 8 bytes of the hash of the running dry image (R112). -/
  dryHash : BitVec 64
  /-- A wet trial: the instant it began (elapsed master clocks) and the former copy (R341). -/
  trial : Option (Nat × Bool)
  /-- A wet restart in progress, its activating polder, and whether a trial follows (R341). -/
  restarting : Option (Nat × Bool)
  /-- Elapsed master clocks of the last patrol (R484). -/
  patrolAt : Nat
deriving DecidableEq, Repr

end Sys2Proof.Machine
end

