-- ==== Sys2Proof/Machine/StSense.lean ====
section
/-! DEFINITION. The parts of the state that belong to wheels, channels, calibration, references and the seal
(05, 06, 07 fast trip, 09): plain data, each with its value at reset. -/
namespace Sys2Proof.Machine

/-! ## Slices and wheels (05) -/

/-- A fine sample with its flags (R128, R177). -/
structure Fine where
  x : Int
  climb : Bool
  overload : Bool
  bridged : Bool
  jockey : Bool
  suspect : Bool
  lost : Bool
  relief : Bool
deriving DecidableEq, Repr

/-- A first fine sample at the normaliser's output (R165, R135). -/
structure Norm where
  v : Int
  climb : Bool
  overload : Bool
  bridged : Bool
  missing : Bool
deriving DecidableEq, Repr

/-- No sample. -/
def Norm.absent : Norm := { v := 0, climb := false, overload := false, bridged := false, missing := true }

/-- A value of a channel at a meter instant: aligned, corrected, in volts or amperes (R195 to R198), with the flags of the
samples it was formed from. -/
structure Aligned where
  v : Rat
  climb : Bool
  overload : Bool
  bridged : Bool
  jockey : Bool
  suspect : Bool
  lost : Bool
  relief : Bool
deriving DecidableEq, Repr

/-- A fast sample of a channel with its flags (R127, R128): its value in the 48-bit fine convention, scaled by the calibration of its
gear (R224). -/
structure Fast where
  v : Rat
  climb : Bool
  overload : Bool
  shifting : Bool
  jockey : Bool
  suspect : Bool
  lost : Bool
  relief : Bool
deriving DecidableEq, Repr

/-- A missing fast sample: LOST, value zero. -/
def Fast.missing : Fast :=
  { v := 0, climb := false, overload := false, shifting := false, jockey := false, suspect := false, lost := true, relief := false }

/-- What a slice or channel delivered in the cadence that opened at boundary `at_`: the slice position, its 128 fine samples
and its values at the 128 meter instants. -/
structure Wave where
  at_ : Nat
  pos : Nat
  fine : List Fine
  /-- Fast samples of a channel by index, for captures and streams (R257). -/
  fast : List Fast
  al : List Aligned
deriving DecidableEq, Repr

/-- A missing sample: LOST, value zero. -/
def Fine.missing : Fine :=
  { x := 0, climb := false, overload := false, bridged := false, jockey := false, suspect := false, lost := true, relief := false }

/-- One first fine sample of a slice as the modulator and the two filter stages of the slice deliver it (R125 to R135, R164). -/
structure FirstFine where
  /-- The first-stage output of the gear in use. -/
  raw : Int
  /-- The gear in use: climb. -/
  climb : Bool
  /-- Its window includes an OVER clock (R126). -/
  overload : Bool
  /-- The slice delivered no sample (R129, R187). -/
  missing : Bool
  /-- The fast samples that replace a disturbed one (R135): one clean sample at its instant, or the last before and the first
  after the disturbance; each with its distance from the instant in fast periods, its value and its gear (climb). -/
  bridge : List (Int × Int × Bool)
deriving DecidableEq, Repr

/-- Registers of a cascaded integrator-comb filter (R162): the integrators, and the last input of each comb, modulo 2^64. -/
structure Cic where
  ints : List (BitVec 64)
  combs : List (BitVec 64)
deriving DecidableEq, Repr

/-- A filter of order `n` at rest. -/
def Cic.zero (n : Nat) : Cic := { ints := List.replicate n 0, combs := List.replicate n 0 }

/-- A change of gear: its instant in elapsed master clocks, the gear it left and the gear it took, and whether it is a shift of the
derailleur, whose transient is bridged (R134). -/
structure GearChange where
  at_ : Nat
  was : Bool
  climb : Bool
  shift : Bool
deriving DecidableEq, Repr

/-- No flag set, value zero. -/
def Fine.clear : Fine :=
  { x := 0, climb := false, overload := false, bridged := false, jockey := false, suspect := false, lost := false, relief := false }

/-- State of a slice (R130). -/
inductive SliceState where
  | serving
  | settling
  | dwell
  | covered
  | service
  | check
  | probation
  | failed
  | retired
  | idle
  | off
deriving DecidableEq, Repr

/-- A verdict of a comparison (R141). -/
inductive Verdict where
  | pass
  | fail
  | inconclusive
deriving DecidableEq, Repr

/-- A sensing slice: a spoke or the jockey. -/
structure Slice where
  state : SliceState
  suspect : Bool
  /-- It serves under an emergency return (R154). -/
  emergency : Bool
  epoch : BitVec 32
  retained : Option (BitVec 32)
  /-- It was re-initialised on its return and has not passed probation (R117). -/
  stale : Bool
  up : BitVec 32
  down : BitVec 32
  bridged : BitVec 64
  /-- Gear in use: true = climb (R125). -/
  climb : Bool
  /-- The last changes of gear, newest first (R134, R165). -/
  gears : List GearChange
  /-- Registers of the fast path and of the first fine stage at the opening of the cadence that is published next (R127, R162). -/
  fastCic : Cic
  fineCic : Cic
  /-- The last 512 levels of the modulator and the last 32 fast outputs before that opening, oldest first (R126, R135). -/
  tail : List Int
  fastTail : List Int
  /-- The failing instant and the instant of its detection, in elapsed master clocks, and the state the slice was in (R129). -/
  failedAt : Option (Nat × Nat)
  failedFrom : SliceState
  /-- Consecutive fast samples below 15 mV in cruise (R133). -/
  lowRun : Nat
  /-- The state it held when the wheel domain left ON (R155). -/
  kept : SliceState
  /-- DC estimate m in 96 bits (R174) and integrator state in 96 bits (R173), both 2^-44 of a fine LSB, and the integrator's last
  input. -/
  m : Int
  integ : Int
  integIn : Int
  /-- The last 213 first fine samples at the normaliser's output, oldest first. -/
  norm : List Norm
  /-- Fine samples for which a shift still freezes the estimate (R175). -/
  left : Nat
  /-- The last fine sample carried OVER or LOST (R175). -/
  lastBad : Bool
  /-- At the opening boundary named, the estimate and integrator are loaded from the slice named (R139, R150). -/
  load : Option (Nat × Nat)
  /-- What it delivered in its last cadences, newest first (R140, R204). -/
  past : List Wave
deriving DecidableEq, Repr

/-- A slice at reset: its wheel domain is not ON. -/
def Slice.reset : Slice where
  state := .off
  suspect := false
  emergency := false
  epoch := 0
  retained := none
  stale := false
  up := 0
  down := 0
  bridged := 0
  climb := false
  gears := []
  fastCic := Cic.zero 3
  fineCic := Cic.zero 5
  tail := []
  fastTail := []
  failedAt := none
  failedFrom := .off
  lowRun := 0
  kept := .serving
  m := 0
  integ := 0
  integIn := 0
  norm := []
  left := 0
  lastBad := false
  load := none
  past := []

/-- Counts of compared and failed cadences (R140). -/
structure Tally where
  compared : Nat
  failed : Nat
deriving DecidableEq, Repr

/-- A dwell of the jockey on a spoke that arrived at boundary `at_` (R139). -/
structure Visit where
  spoke : Nat
  at_ : Nat
  tally : Tally
deriving DecidableEq, Repr

/-- A takeover decided for boundary `bt` (R144), its action (R147) and whether AUTO decided it. -/
structure Takeover where
  spoke : Nat
  action : Nat
  bt : Nat
  auto : Bool
deriving DecidableEq, Repr

/-- Two halves of eight cadences: cadences and summed mean first fine response of each (R148, R272). -/
structure Halves where
  nA : Nat
  sumA : Rat
  nB : Nat
  sumB : Rat
deriving DecidableEq, Repr

/-- No cadence measured yet. -/
def Halves.zero : Halves := { nA := 0, sumA := 0, nB := 0, sumB := 0 }

/-- A service recalibration run (R148): the boundary BT at which it began, what its phases 0 to 3 have measured, and the means
of the phases accepted so far. -/
structure Service where
  spoke : Nat
  bt : Nat
  halves : Tab Halves
  means : List Rat
deriving DecidableEq, Repr

/-- A spoke in its return check or probation (R150): the boundary BR, the counts of its 16-cadence windows by number, and
how many windows have passed and been inconclusive. -/
structure Return where
  spoke : Nat
  br : Nat
  stale : Bool
  tallies : Tab Tally
  passed : Nat
  inconclusive : Nat
deriving DecidableEq, Repr

/-- Wheel probation (R153): its start BW, the spokes in PROBATION, the spoke of each visit begun by visit number, the counts of each
visit, and the visits judged. Visit i lasts from BW + 8 i for 8 cadences. -/
structure WheelProb where
  bw : Nat
  spokes : List Nat
  visits : Tab Nat
  tallies : Tab Tally
  verdicts : List (Nat × Verdict)
deriving DecidableEq, Repr

/-- The self-test block of a wheel (R417, R418). -/
structure WheelTest where
  spokes : BitVec 8
  jockey : Bool
  refcap : Bool
  mod : Bool
  open_ : Bool
  bias : BitVec 4
  enable : Bool
  done : Bool
  aborted : Bool
  whileOn : Bool
  pass : BitVec 9
  refcapOk : Bool
  openFound : BitVec 8
  /-- Boundary at which the running test began, none while no test runs. -/
  startAt : Option Nat
deriving DecidableEq, Repr

/-- The self-test block at reset (R417). -/
def WheelTest.reset : WheelTest where
  spokes := 0
  jockey := false
  refcap := false
  mod := false
  open_ := false
  bias := 4
  enable := false
  done := false
  aborted := false
  whileOn := false
  pass := 0
  refcapOk := false
  openFound := 0
  startAt := none

/-- Loaded coefficients of a bank (R183). -/
structure Coeffs where
  hb1 : List Int
  hb2 : List Int
  proto : List Int
  intGain : Nat
  intLeak : Nat
deriving DecidableEq, Repr

/-- A coefficient bank: its identifier and coefficients; none = the factory set (R182). -/
structure Bank where
  id : BitVec 32
  coeffs : Option Coeffs
deriving DecidableEq, Repr

/-- The factory bank (R182). -/
def Bank.factory : Bank := { id := 0, coeffs := none }

/-- A cross-fade: L_f fine samples from boundary `from_`, and whether its last sample has been stamped (R185). It is held to the end of
its cadence, through which the inactive bank stays in use (R186). -/
structure Fade where
  length : Nat
  from_ : Nat
  over_ : Bool
deriving DecidableEq, Repr

/-- A wheel. -/
structure Wheel where
  policy : Nat
  rel : Nat
  floorPpm : Nat
  slices : Tab Slice
  /-- The spoke whose pins the jockey is on. -/
  jockeyAt : Option Nat
  /-- 0 = own engine, 1 = relief engine, 2 = failed with no substitute (R385). -/
  engine : Nat
  temp : Int
  temps : List Int
  tstale : Bool
  settled : Bool
  takeover : Option Takeover
  visit : Option Visit
  /-- A dwell that has ended and whose verdict is known at the boundary `at_` (R141). -/
  verdictDue : Option Visit
  /-- Verdicts, newest first (R142, R143). -/
  verdicts : List (Nat × Verdict)
  /-- Verdicts that count toward a mark on the jockey, newest first (R142). -/
  jcount : List (Nat × Verdict)
  /-- Spokes judged without a FAIL since the jockey was marked (R142). -/
  clean : List Nat
  service : Option Service
  ret : Option Return
  prob : Option WheelProb
  test : WheelTest
  bankA : Bank
  bankB : Bank
  /-- Bank B is active. -/
  activeB : Bool
  fade : Option Fade
  engEpoch : BitVec 32
  engRetained : Option (BitVec 32)
  engFailed : Bool
  passRun : Nat
  /-- The stamp, in elapsed master clocks, of the first fine sample that a failed engine cannot vouch for: the wheel's samples are LOST
  from it on (R156, R159). -/
  lostFrom : Option Nat
  /-- A calibration run holds the wheel: its channel (R272, R278). -/
  calRun : Option Nat
deriving DecidableEq, Repr

/-- A wheel at reset: the factory policy AUTO and banks, its domain OFF (R138, R182). -/
def Wheel.reset : Wheel where
  policy := 2
  rel := 5
  floorPpm := 20
  slices := [(8, { Slice.reset with kept := .off })]
  jockeyAt := none
  engine := 0
  temp := 0
  temps := []
  tstale := true
  settled := false
  takeover := none
  visit := none
  verdictDue := none
  verdicts := []
  jcount := []
  clean := []
  service := none
  ret := none
  prob := none
  test := WheelTest.reset
  bankA := Bank.factory
  bankB := Bank.factory
  activeB := false
  fade := none
  engEpoch := 0
  engRetained := none
  engFailed := false
  passRun := 0
  lostFrom := none
  calRun := none

/-- What the relief engine does (R157, R158). -/
inductive ReliefPhase where
  | free
  /-- Substituting on failure: loaded at F, serving from F + 1. -/
  | loading
  /-- A planned substitution or return waits for the boundary `due`. -/
  | taking
  | serving
  | returning
deriving DecidableEq, Repr

/-- The relief engine. -/
structure Relief where
  phase : ReliefPhase
  wheel : Nat
  /-- Boundary at which the handover in progress takes place. -/
  due : Nat
  failed : Bool
  unit_ : UnitEpoch
deriving DecidableEq, Repr

/-- The relief engine at reset: free. -/
def Relief.reset : Relief := { phase := .free, wheel := 0, due := 0, failed := false, unit_ := UnitEpoch.reset }

/-! ## Calibration sets and candidates (09) -/

/-- A current-segment point: BREAK, GAMMA, TAU as encoded (R266). -/
structure SegPoint where
  break_ : Nat
  gamma : Int
  tau : Int
deriving DecidableEq, Repr

/-- A temperature point: THETA, GAMMA, TAU as encoded (R266). -/
structure TempPoint where
  theta : Int
  gamma : Int
  tau : Int
deriving DecidableEq, Repr

/-- A calibration set (R266). -/
structure CalSet where
  lastKind : Nat
  offset : Int
  gain : Nat
  refResp : Int
  calCount : BitVec 32
  svcCount : BitVec 32
  calTime : Nat
  svcTime : Nat
  seg : List SegPoint
  temp : List TempPoint
deriving DecidableEq, Repr

/-- Nominal GAIN of a gear, to the nearest Q18.14 step (R165, R265): 2^27 / 1,555.2 in cruise, a sixteenth in climb. -/
def nominalGain (climb : Bool) : Nat :=
  if climb then roundDiv (2 ^ 27 * 10 * 2 ^ 14) (15552 * 16) else roundDiv (2 ^ 27 * 10 * 2 ^ 14) 15552

/-- The factory values of a set (R265). -/
def CalSet.factory (climb : Bool) : CalSet where
  lastKind := 0xFF
  offset := 0
  gain := nominalGain climb
  refResp := 0
  calCount := 0
  svcCount := 0
  calTime := 0
  svcTime := 0
  seg := []
  temp := []

/-- Status of a candidate (R275, R389). -/
inductive CandStatus where
  | running
  | ready
  | disagree
  | insufficient
  | limit
  | failed
  | aborted
  | superseded
deriving DecidableEq, Repr

/-- What one path measured in one of the two runs: counted cadences and the sums of the coefficients. -/
structure RunSum where
  counted : Nat
  c1 : Rat
  c2 : Rat
deriving DecidableEq, Repr

/-- Nothing counted. -/
def RunSum.zero : RunSum := { counted := 0, c1 := 0, c2 := 0 }

/-- A candidate of a channel and gear (R275): the run, what it measured on each path and the sets it would commit. -/
structure Cand where
  status : CandStatus
  run : CalRun
  gear : Nat
  /-- BC (R272). -/
  bc : Nat
  /-- A reference leg belongs to the run. -/
  leg : Bool
  legHalves : Halves
  refResp : Option Int
  /-- Paths measured: spoke set, jockey set. -/
  spokePath : Bool
  jockeyPath : Bool
  a0 : RunSum
  b0 : RunSum
  a1 : RunSum
  b1 : RunSum
  /-- Sums of selector RMS and wheel temperature over the counted cadences. -/
  rSum : Rat
  thetaSum : Rat
  counted : Nat
  freqSum : Rat
  /-- Opening boundary of the last cadence published in the run. -/
  seen : Nat
  new0 : Option CalSet
  new1 : Option CalSet
  /-- Elapsed master clocks at READY. -/
  readyAt : Option Nat
  /-- The spoke failed its CHECK, or the leg disagreed. -/
  broken : Bool
deriving DecidableEq, Repr

/-! ## Channels (05 to 08) -/

/-- Crossing history of a frequency or cycle source (R179, R203): armed below the threshold, the last crossing in
units of 1/144,000 s from the epoch, lengths and end instants of the last valid cycles (newest first). -/
structure Cross where
  armed : Bool
  prev : Option (Rat × Rat)
  last : Option Rat
  cycles : List (Rat × Rat)
deriving DecidableEq, Repr

/-- No history. -/
def Cross.zero : Cross := { armed := false, prev := none, last := none, cycles := [] }

/-- Fast-trip settings of a comparator (R223). -/
structure TripCfg where
  mode : Nat
  tHi : Int
  tLo : Int
  count : Nat
  release : Nat
  latch : Bool
  lostTrip : Bool
  outMask : BitVec 4
deriving DecidableEq, Repr

/-- Comparator settings at reset: off, LOST_TRIP at its factory value 1 (R223). -/
def TripCfg.reset : TripCfg :=
  { mode := 0, tHi := 0, tLo := 0, count := 1, release := 1, latch := false, lostTrip := true, outMask := 0 }

/-- A comparator's state (R224, R225). -/
structure TripState where
  asserted : Bool
  latched : Bool
  /-- Consecutive exceeding and non-exceeding fast samples. -/
  run : Nat
  clear : Nat
  /-- Stamp of the first exceeding sample, and the sides crossed. -/
  first : Nat
  sides : BitVec 2
deriving DecidableEq, Repr

/-- A comparator that is not asserted. -/
def TripState.reset : TripState := { asserted := false, latched := false, run := 0, clear := 0, first := 0, sides := 0 }

/-- Power-quality settings of a channel (R230). -/
structure PqCfg where
  enable : Bool
  kind : Nat
  fNom : Nat
  ref : Nat
  udin : BitVec 32
  dip : Nat
  swell : Nat
  intr : Nat
  hyst : Nat
  harm : Bool
  iharm : Bool
deriving DecidableEq, Repr

/-- Factory power-quality settings of channel `c` (R230). -/
def PqCfg.reset (c : Nat) : PqCfg where
  enable := false
  kind := 0
  fNom := 0
  ref := c
  udin := 0
  dip := 9000
  swell := 11000
  intr := 500
  hyst := 200
  harm := false
  iharm := false

/-- A measured channel. -/
structure Chan where
  gearPolicy : Nat
  scale : BitVec 32
  corner : Nat
  dcFreeze : Bool
  intEnable : Bool
  cycleRef : Nat
  envAttack : Nat
  envDecay : Nat
  /-- Envelope, 2^-24 of a fine LSB (R180). -/
  env : Int
  /-- What it delivered in its last cadences, newest first (R29, R179, R197, R204). -/
  past : List Wave
  /-- The first samples of the cadence after the newest of them, as far as its publication looks ahead, and their position (R29, R236). -/
  ahead : List Fine
  aheadPos : Nat
  /-- Instant of the last shift while it freezes the estimate (R175). -/
  shiftAt : Option Nat
  /-- Instant from which a fast trip freezes the estimate, whether a trip was seen in the open cadence, and whether the last
  one closed without an assertion (R175). -/
  tripFrom : Option Nat
  tripSeen : Bool
  tripQuiet : Bool
  /-- Boundary at which the integrator was last enabled or disabled (R173). -/
  intAt : Option Nat
  trip : TripCfg
  tripState : TripState
  /-- Cadence RMS of the last cadence whose RMS is a valid selector, fine LSB (R198). -/
  rms : Option Nat
  /-- Cadence RMS of the last published cadence, fine LSB, and the OR of the flags of the samples of the cadence's detectors and of the
  cycle RMS (R178). -/
  rmsOut : Nat
  detFlags : Fine
  cycleFlags : Fine
  peakMax : Option (Int × Nat)
  peakMin : Option (Int × Nat)
  /-- Cycle RMS with its start stamp and length (R179), none = no cycle. -/
  cycle : Option (Nat × Nat × Nat)
  cycleX : Cross
  /-- Crossings of the channel itself, for an angle reference (R270). -/
  selfX : Cross
  envMax : Int
  /-- Calibration sets by gear × 2 + path (R265). -/
  sets : Tab CalSet
  /-- Candidates by gear (R275). -/
  cand : Tab Cand
  pq : PqCfg
deriving DecidableEq, Repr

/-- Channel `c` at reset. -/
def Chan.reset (c : Nat) : Chan where
  gearPolicy := 0
  scale := 0
  corner := 0
  dcFreeze := false
  intEnable := false
  cycleRef := c
  envAttack := 0
  envDecay := 0
  env := 0
  past := []
  ahead := []
  aheadPos := 0
  shiftAt := none
  tripFrom := none
  tripSeen := false
  tripQuiet := true
  intAt := none
  trip := TripCfg.reset
  tripState := TripState.reset
  rms := none
  rmsOut := 0
  detFlags := Fine.clear
  cycleFlags := Fine.clear
  peakMax := none
  peakMin := none
  cycle := none
  cycleX := Cross.zero
  selfX := Cross.zero
  envMax := 0
  sets := []
  cand := []
  pq := PqCfg.reset c

/-! ## References and the seal (09) -/

/-- State of the references (R281). -/
inductive RefState where
  | normal
  | warn
  | handover
  | unassured
deriving DecidableEq, Repr

/-- The three references: 0 = BG_A, 1 = BG_B, 2 = XREF. -/
structure Refs where
  sel : Nat
  pref : Nat
  autoHo : Bool
  kRef : Rat
  kTarget : Rat
  /-- Anchor: values of each anchored reference relative to S_a, S_a and k_a (R280). -/
  anchor : Tab Rat
  anchorSel : Nat
  anchorK : Rat
  /-- Last one-second values of each present reference relative to the selected one. -/
  ratios : Tab Rat
  failed : List Nat
  state : RefState
  /-- Consecutive means for which each row of R281 held or did not hold: warn, handover, unassured, normal. -/
  warnRun : Nat
  warnOff : Nat
  hoRun : Nat
  unRun : Nat
  clearRun : Nat
  /-- Non-selected references warned about (R281). -/
  devRun : Tab Nat
  /-- Consecutive means for which it has not deviated. -/
  devOff : Tab Nat
  deviant : List Nat
  /-- A handover is due at the next boundary (R281, R283). -/
  handoverDue : Bool
  /-- The selected reference failed; samples are LOST until the handover (R283). -/
  lost : Bool
  /-- k_ref changed, or a handover took place, at the last boundary (R140, R273). -/
  moved : Bool
  handed : Bool
deriving DecidableEq, Repr

/-- References at reset: BG_A selected, BG_A and BG_B anchored, XREF not (R280). -/
def Refs.reset : Refs where
  sel := 0
  pref := 0
  devOff := []
  autoHo := true
  kRef := 1
  kTarget := 1
  anchor := [(0, 1), (1, 1)]
  anchorSel := 0
  anchorK := 1
  ratios := []
  failed := []
  state := .normal
  warnRun := 0
  warnOff := 0
  hoRun := 0
  unRun := 0
  clearRun := 0
  devRun := []
  deviant := []
  handoverDue := false
  lost := false
  moved := false
  handed := false

/-- The seal (R285 to R289). -/
structure Seal where
  /-- The filtered level of SEAL_OPEN_N: the seal is open. -/
  open_ : Bool
  /-- Elapsed master clocks at which the filtered level last changed (R91). -/
  changedAt : Option Nat
  count : BitVec 32
  /-- Changes latched on VBAT: (open, RTC stamp) in order, at most 4, and those beyond. -/
  latched : List (Bool × Nat)
  further : Nat
  /-- The level of the last seal record. -/
  recorded : Bool
deriving DecidableEq, Repr

/-- The seal at reset: closed, no change counted. -/
def Seal.reset : Seal := { open_ := false, changedAt := none, count := 0, latched := [], further := 0, recorded := false }

end Sys2Proof.Machine
end

