-- ==== Sys2Proof/Machine/StMeter.lean ====
section
/-! DEFINITION. The parts of the state that belong to meters, CF outputs, ledgers, tariffs and signed readings
(07, 10): plain data, each with its value at reset. -/
namespace Sys2Proof.Machine

/-! ## Meters and results (07) -/

/-- A published result record (R215). -/
structure Result where
  cadence : Nat
  stamp : Nat
  meter : Nat
  owner : Nat
  type : Nat
  gates : BitVec 8
  flags : BitVec 32
  valid : Nat
  defGen : BitVec 16
  inc : List Nat
  odo : List Nat
  p : List Int
  q : List Int
  p1 : Int
  q1 : Int
  s : Nat
  vrms : List Nat
  irms : List Nat
  pf : Int
  dpf : Int
  freq : Nat
  angV : List Int
  angI : List Int
deriving DecidableEq, Repr

/-- Lifetime of a meter number (R194, R387). -/
inductive MeterState where
  | undefined
  | pending
  | defined
deriving DecidableEq, Repr

/-- A meter instance. -/
structure Meter where
  state : MeterState
  def_ : MeterDefine
  defGen : BitVec 16
  /-- The current gate is open (R213). -/
  gate : Bool
  /-- The gate decision of the last published cadence, applied at its closing boundary (R213). -/
  resid : List Rat
  /-- State of the all-pass networks by slot: V0–V3, then I0–I3 (R202). -/
  hilbert : Tab (List Rat)
  cross : Cross
  /-- At the opening boundary named, the networks of the slots named start from zero; with slot V0 the crossing history too
  (R202, R203). -/
  restart : Option (Nat × BitVec 8)
  /-- Frequency published for the last cadence, Hz (R203). -/
  freq : Option Rat
  lastPub : Nat
  /-- Opening boundary of the last published cadence (R204), and the boundary that created the meter (R194). -/
  pubAt : Option Nat
  born : Nat
  /-- The next published cadence carries REDEFINED (R194). -/
  redefined : Bool
  /-- The last published cadence carried GAP (R423). -/
  prevGap : Bool
  /-- No cadence of the present definition has been published (R194, R423). -/
  fresh : Bool
  /-- Unbalance enabled by `pq.set_meter` (R230). -/
  unbOn : Bool
  /-- Former owner while undefined (R293, R409). -/
  former : Option Nat
deriving DecidableEq, Repr

/-- A definition with nothing in it: what an undefined number holds. -/
def MeterDefine.blank (m : Nat) : MeterDefine where
  meter := m
  owner := 0
  type := 0
  options := 0
  vSlot := [0xFF, 0xFF, 0xFF, 0xFF]
  iSlot := [0xFF, 0xFF, 0xFF, 0xFF]
  invert := 0
  iStart := 0
  creep := 0

/-- Meter number `m` at reset: undefined. -/
def Meter.reset (m : Nat) : Meter where
  state := .undefined
  def_ := MeterDefine.blank m
  defGen := 0
  gate := false
  resid := List.replicate 16 0
  hilbert := []
  cross := Cross.zero
  restart := none
  freq := none
  lastPub := 0
  pubAt := none
  born := 0
  redefined := false
  prevGap := false
  fresh := true
  unbOn := false
  former := none

/-- A CF output's mapping (R217). -/
structure CfMap where
  meter : Nat
  q : Nat
  k : Nat
  width : Nat
deriving DecidableEq, Repr

/-- A placed edge: the instant it is due, in elapsed master clocks (a modulator clock is 8 of them), and the pulse
width H of its cadence (R219, R220). -/
structure CfEdge where
  at_ : Nat
  high : Nat
deriving DecidableEq, Repr

/-- A CF output (R217 to R221). -/
structure Cf where
  map : Option CfMap
  acc : Nat
  edges : List CfEdge
  level : Bool
  lastRise : Option Nat
  highUntil : Nat
  lost : BitVec 32
  /-- It is in kickstand (R114, R115). -/
  kick : Bool
  /-- An edge of it was delayed in the open cadence (CF_SAT, R221). -/
  sat : Bool
  /-- Increment carried into the next placement after a late cadence (R222). -/
  carry : Nat
deriving DecidableEq, Repr

/-- A CF output at reset: unmapped, in kickstand. -/
def Cf.reset : Cf where
  map := none
  acc := 0
  edges := []
  level := false
  lastRise := none
  highUntil := 0
  lost := 0
  kick := true
  sat := false
  carry := 0

/-! ## Ledgers (10) -/

/-- A TAMPER entry (R292) and its consecutive-cadence counts (R311). -/
structure TamperEnt where
  count : BitVec 32
  active : Bool
  lastStart : Nat
  onRun : Nat
  offRun : Nat
deriving DecidableEq, Repr

/-- A TAMPER entry of a cleared ledger. -/
def TamperEnt.zero : TamperEnt := { count := 0, active := false, lastStart := 0, onRun := 0, offRun := 0 }

/-- The RECORDS block (R292). -/
structure Records where
  sealCount : BitVec 32
  sealState : BitVec 32
  sealTime : Nat
  outageCount : BitVec 32
  dlossCount : BitVec 32
  outageLast : Nat
  outageFirst : Nat
  dlossFirst : Nat
  dlossLast : Nat
  defaultCadences : Nat
  defaultFirst : Nat
  defaultLast : Nat
deriving DecidableEq, Repr

/-- The RECORDS block of a cleared ledger. -/
def Records.zero : Records where
  sealCount := 0
  sealState := 0
  sealTime := 0
  outageCount := 0
  dlossCount := 0
  outageLast := 0
  outageFirst := 0
  dlossFirst := 0
  dlossLast := 0
  defaultCadences := 0
  defaultFirst := 0
  defaultLast := 0

/-- A billing-period snapshot (R308). -/
structure Snapshot where
  period : Nat
  cause : Nat
  sflags : BitVec 16
  open_ : Nat
  close : Nat
  tot : List Nat
  rate : List Nat
  md : List (Nat × Option Nat)
  /-- The totals in full, from which a takeover rewrites TOT and RATE (R528). -/
  totFull : List Nat
  rateFull : List Nat
deriving DecidableEq, Repr

/-- A demand quantity: its configuration and its sub-intervals (R304 to R306). -/
structure Demand where
  cfg : DemandEntry
  /-- Energy of the open sub-interval, and whether it is short. -/
  acc : Nat
  short : Bool
  /-- Closed sub-intervals, newest first: energy and whether short. -/
  hist : List (Nat × Bool)
  /-- Sub-intervals closed so far (R528). -/
  closes : Nat
deriving DecidableEq, Repr

/-- An unused demand quantity (R304). -/
def Demand.unused : Demand :=
  { cfg := { q := 0xFF, l := 0, s := 0, rateMask := 0 }, acc := 0, short := true, hist := [], closes := 0 }

/-- What a boundary does to a ledger, applied when the cadence that closed there has been booked (R28). -/
inductive LedgerOp where
  /-- Close the sub-intervals of the listed demand quantities at an RTC stamp: whether the one that ends, and the one that
  begins, is short (R305, R306). -/
  | subClose (which : List Nat) (stamp : Nat) (endShort startShort : Bool)
  /-- Close the billing period with a cause at an RTC stamp (R307, R308). -/
  | periodClose (cause stamp : Nat)
  /-- Take new rate quantities and zero the rate registers (R296). -/
  | rateQ (q0 q1 : Nat)
  /-- Take a new demand configuration (R304). -/
  | demand (entries : List DemandEntry)
  /-- The sub-intervals in progress become short (R306). -/
  | cut
deriving DecidableEq, Repr

/-- A meter's ledger (R290 to R292) with its tariff, demand and tamper configuration. -/
structure Ledger where
  /-- The ledger belongs to a meter that is or was defined. -/
  exists_ : Bool
  owner : Nat
  sealed : Bool
  defGen : BitVec 16
  defaultActive : Bool
  activeRate : Nat
  /-- The open cadence is at the default rate (R303). -/
  nowDefault : Bool
  rateQ0 : Nat
  rateQ1 : Nat
  booked : Nat
  readSeq : Nat
  period : Nat
  stickyRead : BitVec 16
  stickyPeriod : BitVec 16
  periodOpen : Nat
  gapCadences : Nat
  total : List Nat
  rate : List Nat
  md : List (Nat × Nat)
  tamper : List TamperEnt
  records : Records
  snap : Tab Snapshot
  /-- Rate mode and the fixed rate (R296). -/
  mode : Nat
  fixedRate : Nat
  demand : List Demand
  cfg : TamperCfg
  /-- Sticky bits and highest demands since the reference values were last taken (R527). -/
  sinceRead : BitVec 16
  sincePeriod : BitVec 16
  sinceMd : List (Nat × Nat)
  /-- Waiting boundary effects: (boundary, effect), oldest first. -/
  ops : List (Nat × LedgerOp)
  /-- The boundary at which sub-intervals closed last. -/
  subAt : Option Nat
deriving DecidableEq, Repr

/-- Factory tamper configuration (R309): 10 W is 0x41200000, 230 V is 0x43660000. -/
def TamperCfg.factory : TamperCfg where
  enable := 0
  revMask := 0
  pRev := 0x41200000
  iRev := 100
  bypRel := 100
  neuLow := 400
  iByp := 500
  uNom := 0x43660000
  neuPe := 200
  neuZs := 150
  tOn := 1250
  tOff := 1250

/-- A cleared ledger with sequence number `seq` kept (R293), at the factory tariff setting (R296). -/
def Ledger.cleared (seq : Nat) : Ledger where
  exists_ := false
  owner := 0
  sealed := false
  defGen := 0
  defaultActive := false
  activeRate := 0
  nowDefault := false
  rateQ0 := 0
  rateQ1 := 1
  booked := 0
  readSeq := seq
  period := 0
  stickyRead := 0
  stickyPeriod := 0
  periodOpen := 0
  gapCadences := 0
  total := List.replicate 16 0
  rate := List.replicate 16 0
  md := List.replicate 4 (0, 0)
  tamper := List.replicate 5 TamperEnt.zero
  records := Records.zero
  snap := []
  mode := 1
  fixedRate := 0
  demand := List.replicate 4 Demand.unused
  cfg := TamperCfg.factory
  sinceRead := 0
  sincePeriod := 0
  sinceMd := List.replicate 4 (0, 0)
  ops := []
  subAt := none

/-! ## Booking, tariffs, signing (10) -/

/-- One meter's published cadence on its way to the ledger: its record, the rate in force when it opened, and the
inputs of the tamper tests (R294, R310). -/
structure Published where
  meter : Nat
  /-- The boundary that created the meter, which may have been defined anew since (R194). -/
  born : Nat
  result : Result
  rate : Nat
  default : Bool
  /-- RMS of the residual r[j], fundamental magnitudes |V_k| and |V_0 + V_1 + V_2|, for R310. -/
  residual : Option Rat
  /-- Slot V3 is used. -/
  v3 : Bool
  fund : List Rat
  fundSum : Rat
deriving DecidableEq, Repr

/-- A published cadence waiting to be booked, with the boundary that closed it (R24). -/
structure PubCadence where
  cadence : Nat
  closedAt : Nat
  meters : List Published
deriving DecidableEq, Repr

/-- Booking (R22, R24, R109). -/
structure Booking where
  count : Nat
  awaiting : List PubCadence
  lastCadence : Option Nat
deriving DecidableEq, Repr

/-- Nothing booked (R22). -/
def Booking.reset : Booking := { count := 0, awaiting := [], lastCadence := none }

/-- A calendar (R298). -/
structure Calendar where
  id : BitVec 32
  nweek : Nat
  defaultRate : Nat
  billDay : Nat
  billSecond : Nat
  closeAtActivation : Bool
  /-- EFFECTIVE and OFFSET. -/
  offsets : List (Nat × Int)
  /-- MONTH, DAY, WEEK. -/
  seasons : List (Nat × Nat × Nat)
  /-- Day profile indices, Monday to Sunday. -/
  weeks : List (List Nat)
  /-- Points: second of day and rate. -/
  days : List (List (Nat × Nat))
  /-- YEAR, MONTH, DAY, PROFILE. -/
  special : List (Nat × Nat × Nat × Nat)
deriving DecidableEq, Repr

/-- The active copy of a polder that has staged no calendar: every day rate 0 (R297). -/
def Calendar.blank : Calendar where
  id := 0
  nweek := 1
  defaultRate := 0
  billDay := 0
  billSecond := 0
  closeAtActivation := false
  offsets := [(0, 0)]
  seasons := [(1, 1, 0)]
  weeks := [[0, 0, 0, 0, 0, 0, 0]]
  days := [[(0, 0)]]
  special := []

/-- A polder's calendars (R297, R302, R307). -/
structure Tariff where
  active : Calendar
  passive : Calendar
  passiveValid : Bool
  pendingT : Option Nat
  /-- The last billing instant done, as 12 x year + month (R307). -/
  billDone : Option Int
  /-- A billing-date close waits for a trusted clock. -/
  billWait : Bool
  /-- The local offset of the last second, in seconds (R306). -/
  offset : Int
deriving DecidableEq, Repr

/-- A polder's calendars at reset. -/
def Tariff.reset : Tariff :=
  { active := Calendar.blank, passive := Calendar.blank, passiveValid := false, pendingT := none, billDone := none,
    billWait := false, offset := 0 }

/-- A reading waiting for the signer (R312). -/
structure SignReq where
  held : Held
  req : LedgerReadSigned
deriving DecidableEq, Repr

/-- A composed reading being signed (R313, R314): its record without the signature. -/
structure SignRec where
  held : Held
  meter : Nat
  seq : Nat
  record : List Byte
  signKey : BitVec 256
deriving DecidableEq, Repr

/-- The signing queue (R312). -/
structure Signing where
  queue : List SignReq
  busy : Option SignRec
deriving DecidableEq, Repr

end Sys2Proof.Machine
end

