-- ==== Sys2Proof/Machine/StService.lean ====
section
/-! DEFINITION. The parts of the state that belong to power quality, capture, streams, the powerline link and
tandem operation (08, 15, 18): plain data, each with its value at reset. -/
namespace Sys2Proof.Machine

/-! ## Power quality (08) -/

/-- A half-cycle value in its ring (R248): refresh instant, square of the value, PQFLAGS. -/
structure HcVal where
  at_ : Nat
  sq : Rat
  flags : BitVec 32
deriving DecidableEq, Repr

/-- A window or aggregate record (R249); every RMS-like value is held as its square. -/
structure WinRec where
  seq : Nat
  start : Nat
  end_ : Nat
  /-- The instant of its end, in fine samples since reset (R61). -/
  endT : Rat
  flags : BitVec 32
  rmsSq : Rat
  freq : Rat
  count : Nat
  thdSq : Rat
  hg : List Rat
  hsg : List Rat
  ig : List Rat
  isg : List Rat
deriving DecidableEq, Repr

/-- An open dip, swell or interruption (R241 to R243). -/
structure OpenEvent where
  /-- START; none for an event whose condition held when detection began. -/
  start : Option Nat
  /-- Squares of the extreme value and of its ratio to UDIN. -/
  extreme : Rat
  rel : Rat
  extremeAt : Nat
  eflags : BitVec 32
  /-- Meter scope: slots that took part. -/
  slots : BitVec 4
deriving DecidableEq, Repr

/-- An event-ring entry (R252); EXTREME held as its square. -/
structure RingEntry where
  seq : Nat
  start : Nat
  stop : Nat
  duration : Nat
  kind : Nat
  scope : Nat
  source : Nat
  slots : BitVec 8
  eflags : BitVec 32
  extreme : Rat
  extremeRel : Rat
  extremeAt : Nat
deriving DecidableEq, Repr

/-- An instant of the samples: in fine samples of 62.5 us since reset, exact, and its exported stamp (R170). -/
structure Instant where
  t : Rat
  stamp : Nat
deriving DecidableEq, Repr

/-- The search for zero crossings of a reference (R231): the instant of the last sample examined and that sample where it was valid,
whether the reference has been below -0.5 % and above +0.5 % of full scale since the last crossing, and the crossings, newest first, that
bound the next one-cycle value. -/
structure Edges where
  upto : Rat
  prev : Option Rat
  low : Bool
  high : Bool
  crossings : List Instant
deriving DecidableEq, Repr

/-- A window in progress: its start, positive crossings so far, whether a refresh in it was synthetic and whether it began at one, and
the settings it runs under (R233, R263). -/
structure Window where
  start : Instant
  cycles : Nat
  noSync : Bool
  synth : Bool
  cfg : PqCfg
deriving DecidableEq, Repr

/-- The power-quality record and working state of a channel (R231 to R250). -/
structure PqRec where
  /-- The settings that the engine works under, and changes that have committed and wait for the samples of their boundary: the instant of
  the boundary and the settings from it on (R230, R263). -/
  cfg : PqCfg
  due : List (Rat × PqCfg)
  /-- Detection has seen a valid value since it began (R243). -/
  primed : Bool
  /-- Open events by kind: 1 dip, 2 swell, 3 interruption. -/
  open_ : Tab OpenEvent
  dips : BitVec 32
  swells : BitVec 32
  intrs : BitVec 32
  orphans : BitVec 32
  hcSeq : Nat
  hc : List HcVal
  /-- The last refresh, at first the instant from which the channel is measured, and the search for the next crossing (R231, R232). -/
  refresh : Option Rat
  edges : Edges
  /-- Instant of the last valid value (R243). -/
  validAt : Option Nat
  /-- STOP of the last counted event (R244). -/
  evStop : Option Nat
  winSeq : Nat
  win : Option Window
  /-- A window in progress at a 10-minute tick runs to its end (R234). -/
  oldWin : Option Window
  /-- The last windows published, newest first. -/
  wins : List WinRec
  /-- Windows held for the 150/180-cycle and 10-minute aggregates (R234, R235). -/
  held150 : List WinRec
  held10 : List WinRec
  agg150Seq : Nat
  agg10Seq : Nat
  /-- Start and end of the 10-minute interval that is being closed. -/
  tenFrom : Nat
  tenTo : Nat
  freq10 : Rat
  freq10Flags : BitVec 32
  freq10Start : Nat
  /-- Stamps of the two ends, and lengths in fine samples, of whole cycles since the last 10-second tick, newest first. -/
  cycles : List (Nat × Nat × Rat)
  /-- RTC seconds of the last 10-minute and 10-second ticks taken (R234, R235). -/
  tick600 : Option Nat
  tick10 : Option Nat
deriving DecidableEq, Repr

/-- A channel record with nothing measured. -/
def PqRec.reset : PqRec where
  cfg := PqCfg.reset 0
  due := []
  primed := false
  open_ := []
  dips := 0
  swells := 0
  intrs := 0
  orphans := 0
  hcSeq := 0
  hc := []
  refresh := none
  edges := { upto := 0, prev := none, low := false, high := false, crossings := [] }
  validAt := none
  evStop := none
  winSeq := 0
  win := none
  oldWin := none
  wins := []
  held150 := []
  held10 := []
  agg150Seq := 0
  agg10Seq := 0
  tenFrom := 0
  tenTo := 0
  freq10 := 0
  freq10Flags := 0
  freq10Start := 0
  cycles := []
  tick600 := none
  tick10 := none

/-- One window's unbalance: stamps, flags and the squares of u2 and u0 (R238, R251). -/
structure UnbWin where
  seq : Nat
  start : Nat
  end_ : Nat
  flags : BitVec 32
  u2 : Rat
  u0 : Rat
deriving DecidableEq, Repr

/-- Unbalance record of a meter and its windows held for the aggregates (R251). -/
structure UnbRec where
  last : Option UnbWin
  held150 : List UnbWin
  held10 : List UnbWin
  u2_150 : Rat
  u2_10 : Rat
  u0_150 : Rat
  u0_10 : Rat
  /-- Open meter-scope events by kind, and the slots with such an event open (R242). -/
  open_ : Tab OpenEvent
  slotsOpen : Tab (BitVec 4)
deriving DecidableEq, Repr

/-- An unbalance record of zeros. -/
def UnbRec.reset : UnbRec where
  last := none
  held150 := []
  held10 := []
  u2_150 := 0
  u2_10 := 0
  u0_150 := 0
  u0_10 := 0
  open_ := []
  slotsOpen := []

/-- Event ring of a polder (R252): newest first, at most 127. -/
structure Ring where
  seq : Nat
  entries : List RingEntry
deriving DecidableEq, Repr

/-- An empty ring. -/
def Ring.reset : Ring := { seq := 0, entries := [] }

/-- A block of 16 samples of one channel, with the exported stamp of its first (R257). -/
structure Block where
  stamp : Nat
  channel : Nat
  samples : List Int
  bflags : BitVec 16
  lostMask : BitVec 16
deriving DecidableEq, Repr

/-- A row: one block for each channel at the same instants (R257): its number, counted from reset in rows of its rate, and the stamp of its
first block. -/
structure Row where
  index : Nat
  stamp : Nat
  blocks : List Block
deriving DecidableEq, Repr

/-- State of a segment (R255, R259). -/
inductive SegState where
  | free
  | armed
  | post
  | frozen
deriving DecidableEq, Repr

/-- Where a row lies in a data area: its number and stamp, the offsets and sizes of its blocks, and whether it holds a LOST sample or a
block written full because of shedding. -/
structure Laid where
  index : Nat
  stamp : Nat
  parts : List (Nat × Nat)
  lost : Bool
  shed : Bool
deriving DecidableEq, Repr

/-- A segment (R255, R259): its header's fields, and while it records the offset of the next block and the rows that are whole, oldest
first. -/
structure Segment where
  pos : Nat
  kept : List Laid
  state : SegState
  ntrig : Nat
  cflags : BitVec 32
  triggers : List (Nat × Nat × Nat)
  firstStamp : Nat
  lastStamp : Nat
  /-- T + post of the first trigger while POST. -/
  endAt : Nat
  armedAt : Nat
  seq : Nat
deriving DecidableEq, Repr

/-- A FREE segment. -/
def Segment.free : Segment where
  pos := 0
  kept := []
  state := .free
  ntrig := 0
  cflags := 0
  triggers := []
  firstStamp := 0
  lastStamp := 0
  endAt := 0
  armedAt := 0
  seq := 0

/-- A capture (R253 to R256). -/
structure Capture where
  owner : Nat
  cfg : PqSetCapture
  base : Nat
  segSize : Nat
  enabled : Bool
  segs : Tab Segment
  missed : BitVec 32
  frozen : Nat
  /-- A selected meter flag was carried by the last cadence, or none has been seen since the definition (trigger kind 8). -/
  flagSeen : Bool
deriving DecidableEq, Repr

/-- A stream (R260 to R262). -/
structure Stream where
  owner : Nat
  cfg : PqStreamOpen
  base : Nat
  prod : BitVec 32
  cons : BitVec 32
  spilling : Bool
  dropped : Nat
  spills : Nat
  staged : List Row
  /-- First and last dropped stamps and the rows dropped in the episode. -/
  episode : Option (Nat × Nat × Nat)
  /-- The stream has ended at a boundary (R264). -/
  ended : Bool
  /-- The number of its next row. -/
  next : Nat
deriving DecidableEq, Repr

/-- Power quality, capture and streams. -/
structure Pq where
  recs : Tab PqRec
  unb : Tab UnbRec
  rings : Tab Ring
  captures : Tab Capture
  streams : Tab Stream
  /-- The cadences of the sample copy, newest first: opening boundary and number (R29). -/
  copy : List (Nat × Nat)
  /-- The power-quality engine as a unit (R116). -/
  unit_ : UnitEpoch
deriving DecidableEq, Repr

/-- Power quality at reset: nothing configured. -/
def Pq.reset : Pq :=
  { recs := [], unb := [], rings := [], captures := [], streams := [], copy := [], unit_ := UnitEpoch.reset }

/-! ## Powerline link (15) -/

/-- A tone map (R435): number, rate 16/21, codes of carriers 40 to 245, instant of issue, and the SNR its entries were based on. -/
structure ToneMap where
  num : Nat
  high : Bool
  codes : List Nat
  issued : Nat
  snr : List Rat
deriving DecidableEq, Repr

/-- A neighbour (R434, R435, R451, R452, R454). -/
structure Neigh where
  stratum : Nat
  trusted : Bool
  coordinator : Bool
  deviceId : BitVec 128
  heard : Nat
  beaconAt : Option Nat
  /-- Maps this device issued, newest first, and the map it sends under. -/
  mapsIn : List ToneMap
  mapOut : Option ToneMap
  loss : Rat
  /-- Outcome of the last 64 blocks received: true = failed. -/
  blocks : List Bool
  phase : Option Nat
  /-- Receive stamps kept by beacon number (R451). -/
  stamps : Tab Nat
  /-- Number of the last map issued to it (R435). -/
  mapNum : Nat
  /-- SNR of carriers 40 to 245, in dB, of its last 16 frames, newest first (R434). -/
  snrs : List (List Rat)
deriving DecidableEq, Repr

/-- A route: destination sequence number, next hop, cost, hops (R455). -/
structure Hop where
  next : Nat
  cost : Nat
  hops : Nat
deriving DecidableEq, Repr

/-- The routes to one destination (R455). -/
structure Route where
  seq : Nat
  primary : Hop
  alternate : Option Hop
  heard : Nat
deriving DecidableEq, Repr

/-- A MAC frame (R448) waiting to be sent. -/
structure MacFrame where
  type : Nat
  hops : Nat
  orig : Nat
  final : Nat
  destPolder : Nat
  srcPolder : Nat
  mseq : Nat
  cls : Nat
  mode : Nat
  body : List Byte
  /-- The `plc.send` it belongs to, by order of taking. -/
  order : Option Nat
deriving DecidableEq, Repr

/-- The frame being sent (R443 to R446). -/
structure TxCur where
  frame : MacFrame
  pn : Nat
  next : Nat
  try_ : Nat
  backoff : Option Nat
  nblk : Nat
  acked : List Bool
  altTried : Bool
  /-- Transmissions on the first hop so far, on both entries (R455, R456). -/
  total : Nat
  /-- It won priority resolution and contends; it has been sent and awaits its SACK. -/
  contending : Bool
  sent : Bool
deriving DecidableEq, Repr

/-- A `plc.send` whose confirmation is awaited (R456). -/
structure Awaiting where
  order : Nat
  tries : Nat
  hops : Nat
  /-- Elapsed master clocks of the first hop's full SACK. -/
  since : Option Nat
  mseq : Nat
deriving DecidableEq, Repr

/-- What the device puts on the line (R431, R436 to R438): frame control, data of its PHY blocks (none in a SACK), the phases that transmit,
whether phase p is shifted by 64 p samples, the power of each carrier relative to the nominal one, the first sample's instant in elapsed
master clocks, its length in samples, and whether its end has been acted on. -/
structure OnAir where
  control : List Byte
  payload : List Byte
  phases : BitVec 3
  cyclic : Bool
  levels : List Rat
  start : Nat
  samples : Nat
  done : Bool
deriving DecidableEq, Repr

/-- The network a device has joined (R447). -/
structure Net where
  name : BitVec 64
  node : Nat
  coordinator : Bool
  key : BitVec 128
deriving DecidableEq, Repr

/-- The powerline link. -/
structure Plc where
  link : PlcSetLink
  net : Option Net
  notches : List (Nat × Nat)
  psd : List Int
  /-- 0 off, 1 searching, 2 joined. -/
  state : Nat
  lastBeacon : Nat
  lock : Bool
  chosen : Option Nat
  silent : Bool
  acting : Bool
  pn : Nat
  pnStored : Nat
  neigh : Tab Neigh
  routes : Tab Route
  ownSeq : Nat
  relay : List MacFrame
  /-- Firmware frames: beacons, tone maps, advertisements, confirmations (CA3). -/
  mgmt : List MacFrame
  txq : Tab (List MacFrame)
  /-- Polder served last within a class (R456). -/
  lastServed : Nat
  cur : Option TxCur
  /-- The medium is busy (R445) and since when, EOF of the last frame decoded or sent, and where the contention slots that follow begin and
  how many have been counted (R441, R444). -/
  busy : Bool
  busyAt : Nat
  eof : Option Nat
  slots0 : Option Nat
  slots : Nat
  /-- A SACK to send: node, bitmap, BUSY (R442). -/
  sackDue : Option (Nat × BitVec 16 × Bool)
  /-- Energy ended without a frame control: the extended gap runs (R445). -/
  gap : Bool
  txFrames : BitVec 32
  rxFrames : BitVec 32
  ackFail : BitVec 32
  mseq : Nat
  bseq : Nat
  /-- Stamp of the previous beacon's first sample, and ZC_AGE at it (R450). -/
  prevTx : Nat
  prevZc : Nat
  /-- Stamp of the last rising edge on PLC_ZC0, and the interval before it (R452). -/
  zcAt : Option Nat
  zcPeriod : Nat
  /-- RTC second of the last beacon queued (R450). -/
  beaconSec : Option Nat
  /-- Discards of the RTC second in progress (R458). -/
  discCount : Nat
  fullTold : Option Nat
  advAt : Nat
  awaiting : List Awaiting
  /-- Last packet number accepted from each transmitter (R449). -/
  seen : Tab Nat
  /-- The last transmission, and whether the DAC outputs are enabled (R437). -/
  tx : Option OnAir
  dac : Bool
deriving DecidableEq, Repr

/-- The powerline link at reset: disabled, no network, no notch (R438). -/
def Plc.reset : Plc where
  link := { enable := 0, txMode := 0, txPhase := 0, rxMode := 0, rxPhase := 0 }
  net := none
  notches := []
  psd := List.replicate 206 0
  state := 0
  lastBeacon := 0
  lock := false
  chosen := none
  silent := false
  acting := false
  pn := 0
  pnStored := 0
  neigh := []
  routes := []
  ownSeq := 0
  relay := []
  mgmt := []
  txq := []
  lastServed := 15
  cur := none
  busy := false
  busyAt := 0
  eof := none
  slots0 := none
  slots := 0
  sackDue := none
  gap := false
  txFrames := 0
  rxFrames := 0
  ackFail := 0
  mseq := 0
  bseq := 0
  prevTx := 0
  prevZc := 0
  zcAt := none
  zcPeriod := 0
  beaconSec := none
  discCount := 0
  fullTold := none
  advAt := 0
  awaiting := []
  seen := []
  tx := none
  dac := false

/-! ## Tandem operation (18) -/

/-- Role of a device (R513). -/
inductive Role where
  | single
  | captain
  | stoker
  | neither
deriving DecidableEq, Repr

/-- The authority state a checkpoint carries (R523). -/
structure Authority where
  meters : Tab Meter
  ledgers : Tab Ledger
  tariffs : Tab Tariff
  polders : Tab Polder
  guardResp : Tab GuardResp
  guardKey : Option (List Byte)
  mark : Bool
  /-- k_e: the booking count at capture, and the boundary of capture. -/
  count : Nat
  term : BitVec 32
  /-- Event-log entries written since the previous epoch. -/
  log : List LogEntry
deriving DecidableEq, Repr

/-- Reference values of one meter for an epoch (R527). -/
structure RefVal where
  total : List Nat
  rate : List Nat
  /-- Accumulator of each demand quantity and its sub-intervals closed. -/
  acc : List (Nat × Nat)
  md : List (Nat × Nat)
  tamper : List (BitVec 32)
  records : Records
  stickyRead : BitVec 16
  stickyPeriod : BitVec 16
deriving DecidableEq, Repr

/-- A checkpoint the stoker holds complete, with its reference values (R525, R527). -/
structure Ckpt where
  epoch : BitVec 32
  content : Authority
  refs : Tab RefVal
  at_ : Nat
deriving DecidableEq, Repr

/-- A prepare or journal entry kept for re-application (R522, R525): the command as staged, its polder and nonce. -/
structure Mirror where
  cmd : Cmd
  polder : Nat
  sluice : Nat
  nonce : BitVec 32
  /-- Keys that the command carried, and a reading's READ_SEQ (R521, R522). -/
  keys : Option (BitVec 256 × BitVec 256)
  readSeq : Option Nat
  /-- Boundary at which it applies; none for a journal entry, applied on receipt. -/
  due : Option Nat
  /-- Boundary count when it was applied or is due. -/
  at_ : Nat
deriving DecidableEq, Repr

/-- A frame sent and not yet acknowledged: its SEQ and instant, and the order of the command it carries. -/
structure TdmFrame where
  seq : BitVec 32
  sent : Nat
  order : Nat
  prepare : Bool
deriving DecidableEq, Repr

/-- A heartbeat as it leaves the device (R519): the header's term, and the payload. -/
structure HeartOut where
  term : BitVec 32
  cadence : Nat
  role : Role
  preferred : Bool
  witness : Bool
  floodgate : Bool
  ckptEpoch : BitVec 32
  commits : Nat
  bcount : BitVec 32
  digest : BitVec 64
deriving DecidableEq, Repr

/-- Tandem operation. -/
structure Tdm where
  enabled : Bool
  partnerId : BitVec 128
  role : Role
  term : BitVec 32
  /-- Highest term seen in any frame from the partner (R514). -/
  seenTerm : BitVec 32
  link : Bool
  /-- LINK of `tandem.status` reads 0 although the lanes run (R529, R530). -/
  linkDown : Bool
  lanes : Nat
  trainings : Nat
  retraining : Bool
  /-- Whether a link has come up since enabling (R516). -/
  everUp : Bool
  txSeq : BitVec 32
  rxSeq : BitVec 32
  unacked : List TdmFrame
  /-- Heartbeats: sent and received in the open cadence, consecutive missed, acknowledgements of recent cadences
  (newest first), consecutive unacknowledged. -/
  hbSent : Bool
  /-- The last heartbeat sent (R519). -/
  hbOut : Option HeartOut
  hbGot : Bool
  missedRun : Nat
  acks : List Bool
  unackRun : Nat
  suspect : Bool
  witness : Bool
  /-- Captain: epoch in transfer, its content, the boundary of capture. -/
  outgoing : Option (BitVec 32 × Authority × Nat)
  epoch : BitVec 32
  /-- Captain: the last complete epoch that the stoker has reported, 0 for none (R399, R519). -/
  heldEpoch : BitVec 32
  /-- Receiver: blocks received of the epoch in transfer. -/
  incoming : Option (BitVec 32 × Tab (List Byte))
  refsNext : Tab RefVal
  ckpt : Option Ckpt
  mirrors : List Mirror
  commits : Nat
  digest : BitVec 64
  /-- A staged handover: boundary of commit and whether its checkpoint completed (R531). -/
  handover : Option (Nat × Bool)
  standDown : Bool
  yieldTo : Option (BitVec 32)
  /-- Authority commands held until the stoker acknowledges their journal frame (R521). -/
  waiting : List (Held × Cmd × Nat)
  /-- First complete checkpoint received: becomes stoker at the next boundary (R516, R522). -/
  stokerDue : Bool
  /-- A role decided for the next boundary: at the first link-up, or neither after a mismatch (R516, R522). -/
  roleNext : Option Role
  /-- This cadence's heartbeat has been counted missed, or unacknowledged. -/
  missDone : Bool
  unackDone : Bool
  /-- Boundary at which the device last became captain (R538). -/
  captainAt : Option Nat
  /-- Own booking count when `refsNext` was taken (R525), and the boundary it was taken at. -/
  countAt : Nat
  refsAt : Nat
  /-- SEQ of the event log at the last capture. -/
  logAt : BitVec 32
deriving DecidableEq, Repr

/-- Tandem operation at reset: disabled (R513). -/
def Tdm.reset : Tdm where
  enabled := false
  partnerId := 0
  role := .single
  term := 0
  seenTerm := 0
  link := false
  linkDown := false
  lanes := 0
  trainings := 0
  retraining := false
  everUp := false
  txSeq := 0
  rxSeq := 0
  unacked := []
  hbSent := false
  hbOut := none
  hbGot := false
  missedRun := 0
  acks := []
  unackRun := 0
  suspect := false
  witness := false
  outgoing := none
  epoch := 0
  heldEpoch := 0
  incoming := none
  refsNext := []
  ckpt := none
  mirrors := []
  commits := 0
  digest := 0
  handover := none
  standDown := false
  yieldTo := none
  waiting := []
  stokerDue := false
  roleNext := none
  missDone := false
  unackDone := false
  captainAt := none
  countAt := 0
  refsAt := 0
  logAt := 0

end Sys2Proof.Machine
end

