-- ==== Sys2Proof/Inputs.lean ====
section
/-! DEFINITION. What the rows that are events bring from outside the block: samples, measured levels, decoded frames and
the outcomes of checks that the device makes on data the model does not hold. -/
namespace Sys2Proof
open Sys2Proof.Machine

/-- The levels of the modulators through the cadence being published and its look-ahead, by slice number 9 w + k: one level, -8 to 8, for
each of the 62,374 modulator clocks from the opening boundary on (R125, R161). A shorter list is a slice that delivers nothing after
its end. -/
structure PubIn where
  levels : Tab (List Int)
deriving DecidableEq, Repr

/-- A piece of work that a resource has to finish within the cadence (R47): the instant it arrives, in master clocks from the opening
boundary, and the busy time it takes at the present capacity. -/
structure Job where
  at_ : Nat
  clocks : Nat
deriving DecidableEq, Repr

/-- What a cadence boundary finds. -/
structure BoundaryIn where
  /-- Work of the closing cadence by resource, in order of arrival (R47). -/
  work : List (List Job)
  /-- Busy time of the crossbar for one visit of the scrubber at the present capacity, in 1/1,024 of a master clock (R39, R479). -/
  visit : Nat
  /-- Readings of the replica delay lines (R43). -/
  cap : List Nat
  /-- Temperature sensors of the wheels, 1/64 degree (R160). -/
  temps : Tab Int
  /-- Wheels whose engine fails the known-answer test of the closing cadence (R156). -/
  katFailed : List Nat
  /-- The warning comparator has released since the last boundary (R107, R124). -/
  mainOk : Bool
  /-- An application core that firmware retires (R19). -/
  retireCore : Option Nat
  /-- Levels of DEV_WAKE and WITNESS. -/
  devWake : Bool
  witness : Bool
  /-- The fine samples of the closing cadence, which a dry-image activation at this boundary publishes at once (R344). -/
  last : PubIn
deriving DecidableEq, Repr

/-- What the modulator of the serving slice delivered for the fast samples that a comparator judges, oldest first: for each the 46 levels
of its window and the 7 before it (R126, R127, R224). A shorter list is a slice that has delivered nothing after its end. -/
structure TripIn where
  samples : List (List Int)
deriving DecidableEq, Repr

/-- What a start finds: the straps, the rising edges counted on MCLK_IN in the first 100 us, and the checks of the dry image and the
wet copies (R87, R90, R74, R113). -/
structure StartIn where
  tiebreak : Bool
  tmode : Bool
  mclk : Nat
  dryOk : Bool
  wetAOk : Bool
  wetBOk : Bool
deriving DecidableEq, Repr

/-- A return of the main supplies (R110): its instant, and whether VDDC has been present throughout (R102). -/
structure ReturnIn where
  t : Nat
  kept : Bool
deriving DecidableEq, Repr

/-- A slice that fails its self-check (R129): its position, and the master clocks since which it has. -/
structure CheckIn where
  position : Nat
  back : Nat
deriving DecidableEq, Repr

/-- An engine that fails (R156): its wheel, and whether by a full elastic buffer instead of a wrong known answer. -/
structure EngineIn where
  wheel : Nat
  full : Bool
deriving DecidableEq, Repr

/-- The seal input (R91): its level, and for how many consecutive samples of the 32.768 kHz clock it has shown it. -/
structure SealIn where
  opened : Bool
  held : Nat
deriving DecidableEq, Repr

/-- A tamper input (R497): its number, and its levels as AON has sampled them, the newest last. -/
structure TamperIn where
  input : Nat
  samples : List Bool
deriving DecidableEq, Repr

/-- The sending of a heartbeat (R519): its instant, and the level of WITNESS. -/
structure BeatIn where
  t : Nat
  witness : Bool
deriving DecidableEq, Repr

/-- What the ratio converter has measured in the cadences of the second that ends: each present reference relative to the selected one (R279,
R280): 0 = BG_A, 1 = BG_B, 2 = XREF. -/
structure RatioIn where
  samples : Tab (List Rat)
deriving DecidableEq, Repr

/-- What a wheel's self-test finds: the slices that pass, REFCAP_n, and the position pins found open (R418, R419). -/
structure TestIn where
  pass : BitVec 9
  refcapOk : Bool
  openFound : BitVec 8
deriving DecidableEq, Repr

/-- A start of frame as the receiver's decoder leaves it (R432, R434, R441): the 12 bytes of frame control, the CRC outcome of each PHY
block it carried, the bytes of its MAC frame once every block of it has come in, over all its transmissions (log 57), and the SNR of
carriers 40 to 245, in dB, measured from its preamble and pilots. -/
structure FrameIn where
  control : List Byte
  blocks : List Bool
  mac : Option (List Byte)
  snr : List Rat
deriving DecidableEq, Repr

/-- A SACK as decoded: the 12 bytes of frame control (R432, R442). -/
structure SackIn where
  control : List Byte
deriving DecidableEq, Repr

/-- What a training of the tandem link finds: the lanes it runs on, equal straps, the identity check, and the partner's stored term
(R515 to R517). -/
structure TrainIn where
  lanes : Nat
  strapsEqual : Bool
  identityOk : Bool
  term : BitVec 32
deriving DecidableEq, Repr

/-- A heartbeat from the partner (R518, R519). -/
structure HeartIn where
  term : BitVec 32
  cadence : Nat
  role : Role
  ckptEpoch : BitVec 32
  commits : Nat
  bcount : BitVec 32
  digest : BitVec 64
deriving DecidableEq, Repr

/-- A prepare or journal frame (R518, R521, R522): the command as staged, with the keys it carries; a prepare names the cadence at
whose opening it applies, a reading its READ_SEQ. -/
structure MirrorIn where
  term : BitVec 32
  seq : BitVec 32
  cmd : Cmd
  polder : Nat
  sluice : Nat
  nonce : BitVec 32
  keys : Option (BitVec 256 × BitVec 256)
  readSeq : Option Nat
  due : Nat
deriving DecidableEq, Repr

/-- A checkpoint trailer and what its blocks decode to (R523 to R525). -/
structure CkptIn where
  epoch : BitVec 32
  hashOk : Bool
  content : Authority
deriving DecidableEq, Repr

/-- A parity error (R480 to R482): bank, row (spare rows from 2,048 on) and aperture address, whether the same word of the other
working copy is in error too, and the channels whose power-quality working state a word of it holds. -/
structure ParityIn where
  bank : Nat
  row : Nat
  address : Nat
  both : Bool
  channels : List Nat
deriving DecidableEq, Repr

/-- An error that a read of flash finds (R484): byte address, and whether it was corrected. -/
structure FlashIn where
  address : Nat
  corrected : Bool
deriving DecidableEq, Repr

/-- What a word of ledger MRAM holds (R488). -/
inductive MramPart where
  /-- HEADER, TOTAL, RATE or MD. -/
  | block (meter : Nat)
  /-- TAMPER, RECORDS or SNAP: the 64-bit word counted from the first of TAMPER on (R292, R308). -/
  | record (meter word : Nat)
  | journal (polder : Nat)
  | config
  | log (location : Nat)
  /-- The state that tells where the event log stands. -/
  | logState
  | crest
deriving DecidableEq, Repr

/-- An error in an MRAM word (R488): word address, part, and whether it was corrected. -/
structure MramIn where
  address : Nat
  part : MramPart
  corrected : Bool
deriving DecidableEq, Repr

end Sys2Proof
end

