-- ==== Sys2Proof/Syntax.lean ====
section
/-! DEFINITION. The commands the block takes, one constructor per row of the operation table: mailbox commands carry the
submission and the payload, host accesses the port and the words, events what they bring from outside. -/
namespace Sys2Proof
open Sys2Proof.Machine

/-- A command of the block. A number `t` is the instant at which it happens, in master clocks from the boundary that
opened the cadence (R560). An event of a series names which one it is: a row that names another than the next changes nothing (log 129). -/
inductive Instr where
  /-- CADENCE_BOUNDARY (R27): At each 8 ms cadence boundary the device closes a cadence and applies its changes in the fixed order of handovers, bank switches, staged commits, calendar activation, switch points, closes and checkpoint capture. -/
  | cadenceBoundary (b : BoundaryIn)
  /-- VOLTAGE_REQUEST_LOWER (R52): After 125 consecutive cadences below 50 % occupancy with no settle pending and a prediction below 70 %, the request is lowered one step. -/
  | voltageRequestLower
  /-- SETTLE_ALLOWANCE_END (R53): When SETTLE cadences have passed after a voltage change, the device relies on the new level and SYS_OCC.SETTLING clears. -/
  | settleAllowanceEnd
  /-- SHEDDING_FALL (R58): After 125 consecutive cadences below 75 % occupancy the shedding level falls by one. -/
  | sheddingFall
  /-- PUBLICATION (R23): At B(n+1) + 4.000 ms the metering engine publishes every defined meter's result record for cadence n and the CF generators schedule its edges. -/
  | publication (p : PubIn)
  /-- LATE_PUBLICATION (R46): When close-out was not complete at the release instant, the whole cadence is published as soon as the last meter completes, flagged LATE and counted. -/
  | latePublication (t : Nat) (p : PubIn)
  /-- BOOKING (R294): The supervisor cores book a published cadence of each defined meter atomically into totals, rate registers, demand accumulators, sticky flags and tamper criteria. -/
  | booking
  /-- CF_EDGE (R220): A placed CF edge falls due and the output goes high, after a short low if it was still high, subject to the 20 kHz spacing and backlog. -/
  | cfEdge (t cf : Nat)
  /-- CF_PULSE_END (R220): A CF output goes low after its pulse width H. -/
  | cfPulseEnd (t cf : Nat)
  /-- FAST_TRIP_ASSERT (R225): After COUNT consecutive exceeding fast samples a comparator asserts, drives its FASTTRIP_N outputs low and raises its event. -/
  | fastTripAssert (t channel : Nat) (x : TripIn)
  /-- FAST_TRIP_DEASSERT (R225): After RELEASE consecutive non-exceeding fast samples an unlatched comparator deasserts. -/
  | fastTripDeassert (t channel : Nat) (x : TripIn)
  /-- DOMAIN_RISE_COMPLETE (R100): A RISING domain finishes its rise and becomes ON, or DRAINING if a turn-off is pending. -/
  | domainRiseComplete (t domain : Nat)
  /-- DOMAIN_DRAIN_COMPLETE (R101): A draining domain ends its remaining work within its bound and goes OFF, rising again after 10 µs if a turn-on is pending. -/
  | domainDrainComplete (t domain : Nat)
  /-- DOMAIN_LOSS (R98): A switched domain that loses power without being decided OFF is treated as a fault, raises EV0650, ends its service work and is brought back with a new epoch. -/
  | domainLoss (t domain : Nat) (epoch : BitVec 32)
  /-- DEFERRED_HUSH_ENTRY (R104): A HUSH request deferred by DEV_WAKE high takes effect at the first boundary at which DEV_WAKE is low. -/
  | deferredHushEntry
  /-- MAIN_SUPPLY_WARNING (R107): VDDA33 falling below 3.18 V starts the power-fail sequence, which stops admitting doorbells. -/
  | mainSupplyWarning (t : Nat)
  /-- POWER_FAIL_CLOSE (R107): At the first boundary after the warning metering closes, the last cadence is published and booked, power-down records are written, and the device goes to kickstand and NAP. -/
  | powerFailClose (p : PubIn)
  /-- MAIN_RETURN (R110): Main supplies back within range for 2 ms after a power-fail sequence wake the device from NAP with the MAIN_RETURN reason. -/
  | mainReturn (x : ReturnIn)
  /-- PORST_ASSERT (R111): PORST_N low holds every domain but AON in reset and puts every powered output into kickstand within 1 µs. -/
  | porstAssert (t : Nat)
  /-- PORST_RELEASE (R112): Release of PORST_N starts the full start-up sequence of clock selection, image checks, configuration commit, first publication and ports ready. -/
  | porstRelease (r : StartIn)
  /-- AON_COLD_START (R563): Loss of both VDDAON and VBAT resets AON, and once supplies return the device makes a full start with the RTC from zero and the clock untrusted. -/
  | aonColdStart
  /-- DEV_WAKE (R118): A rising edge on DEV_WAKE opens or joins a wake episode from HUSH or NAP. -/
  | devWake (t : Nat)
  /-- HOST_PORTS_READY (R121): The host ports become ready, ending the wake episode, releasing HP_IRQ_N from kickstand and setting PORTS_READY and SYS_REV. -/
  | hostPortsReady (t : Nat)
  /-- FIRST_SLUICE_ACCESS (R120): The host's first read or write of a sluice window after ports ready releases a held HOST_WAKE_N within 1 µs. -/
  | firstSluiceAccess (t port sluice : Nat)
  /-- TRANSFER_BEFORE_READY (R121): A host transfer before the ports are ready, or in HUSH, is not answered and its write data are discarded. -/
  | transferBeforeReady (t port : Nat)
  /-- AON_VBAT_CHANGEOVER (R122): VDDAON falling below range switches AON to VBAT without losing RTC count or state. -/
  | aonVbatChangeover (t : Nat)
  /-- AON_VDDAON_RETURN (R122): After VDDAON has been in range for 2 ms AON switches back from VBAT. -/
  | aonVddaonReturn (t : Nat)
  /-- SLICE_SELF_CHECK_FAILURE (R129): A slice whose modulator holds one level for 4,096 clocks or whose first-stage samples stop enters FAILED at once and its samples carry LOST. -/
  | sliceSelfCheckFailure (t wheel : Nat) (x : CheckIn)
  /-- UP_SHIFT (R133): In climb a fast sample above 75 % of climb full scale shifts the slice to cruise at the next modulator clock. -/
  | upShift (t wheel position magnitude : Nat)
  /-- DOWN_SHIFT (R133): After 6,144 consecutive fast samples below 15 mV in cruise the slice shifts to climb. -/
  | downShift (t wheel position run : Nat)
  /-- DC_FREEZE_END (R175): The DC-block estimate resumes adapting 32 fine samples after the last BRIDGED sample, or after a cadence with no fast trip asserted. -/
  | dcFreezeEnd (t channel : Nat)
  /-- DWELL_VERDICT (R141): After a 16-cadence dwell the jockey's comparison ends PASS, FAIL or INCONCLUSIVE at the next boundary. -/
  | dwellVerdict (wheel : Nat)
  /-- JOCKEY_TAKEOVER (R144): At BT the channel's samples and derailleur come from the jockey and the spoke enters COVERED, SERVICE or RETIRED. -/
  | jockeyTakeover (wheel : Nat)
  /-- SERVICE_RECALIBRATION_PHASE_END (R148): Each 17-cadence service phase ends and is accepted or not under the repeat-agreement test. -/
  | serviceRecalibrationPhaseEnd (wheel : Nat)
  /-- SERVICE_RECALIBRATION_COMMIT (R148): At BT + 69 an accepted service recalibration commits new offset and gain, or the spoke enters FAILED. -/
  | serviceRecalibrationCommit (wheel : Nat)
  /-- SPOKE_RETURN (R150): At BR the spoke reconnects, settles and enters CHECK or, if stale, PROBATION. -/
  | spokeReturn (wheel : Nat)
  /-- RETURN_CHECK_VERDICT (R150): A 16-cadence return-check window ends PASS, FAIL or INCONCLUSIVE. -/
  | returnCheckVerdict (wheel : Nat)
  /-- PROBATION_VERDICT (R150): Each 16-cadence probation verdict of a stale spoke is judged, with FAIL or a fifth INCONCLUSIVE putting it in FAILED. -/
  | probationVerdict (wheel : Nat)
  /-- HANDBACK (R152): After a passed check or probation the spoke serves its channel again and the jockey moves to the next spoke or goes IDLE. -/
  | handback (wheel : Nat)
  /-- WHEEL_SETTLED (R187): At the first boundary at least 4 ms after a wheel domain reaches ON its channels count as settled. -/
  | wheelSettled (wheel : Nat)
  /-- WHEEL_PROBATION_VISIT_VERDICT (R153): Each 8-cadence visit of wheel probation is judged PASS, FAIL or INCONCLUSIVE and raises the wheel event with CODE 10. -/
  | wheelProbationVisitVerdict (wheel : Nat)
  /-- WHEEL_PROBATION_OUTCOME (R153): At BE spokes return to SERVING or enter FAILED, or the jockey fails and spokes make emergency returns, with CODE 11. -/
  | wheelProbationOutcome (wheel : Nat)
  /-- EMERGENCY_RETURN (R154): When the jockey fails while serving a COVERED, CHECK or PROBATION spoke's channel, the channel returns to the spoke at the next boundary flagged SUSPECT. -/
  | emergencyReturn (wheel : Nat)
  /-- WHEEL_ENGINE_FAILURE (R156): A wrong known-answer signature or a full elastic buffer declares the wheel engine failed and its fine samples LOST. -/
  | wheelEngineFailure (t : Nat) (x : EngineIn)
  /-- RELIEF_SUBSTITUTION (R157): At F the relief engine rises, is loaded with the wheel's banks and offsets, and fills its histories. -/
  | reliefSubstitution
  /-- RELIEF_IN_SERVICE (R157): At F + 1 the relief engine serves the wheel and its samples carry RELIEF. -/
  | reliefInService
  /-- PLANNED_ENGINE_HANDOVER (R158): After a parallel cadence, or 16 passing tests for a repaired engine, the planned handover between relief and wheel engine takes place with no sample lost. -/
  | plannedEngineHandover
  /-- RELIEF_ENGINE_FAILURE (R159): A failure of the relief engine while serving makes the served wheel's channels LOST and raises an event. -/
  | reliefEngineFailure (t : Nat)
  /-- CROSS_FADE_END (R185): After L_f fine samples the engine releases the new bank's output alone. -/
  | crossFadeEnd (t wheel : Nat)
  /-- HALF_CYCLE_REFRESH (R231): At each zero crossing of the reference the half-cycle RMS over the last cycle is refreshed and evaluated for events. -/
  | halfCycleRefresh (t channel : Nat) (rising : Bool)
  /-- SYNTHETIC_REFRESH (R232): With no crossing within 1.5 nominal half-periods the engine refreshes the half-cycle value flagged NO_SYNC. -/
  | syntheticRefresh (t channel seq : Nat)
  /-- NO_CYCLE_TIMEOUT (R179): When no valid cycle completes within 100 ms the cycle-RMS detector reports no cycle. -/
  | noCycleTimeout (t channel : Nat)
  /-- AGGREGATE_150_CLOSE (R235): After 15 windows the 150/180-cycle aggregate is formed and published. -/
  | aggregate150Close (t channel : Nat)
  /-- TEN_MINUTE_TICK (R234): At RTC seconds multiple of 600 the 10-minute aggregate and the running 150/180-cycle sequence close. -/
  | tenMinuteTick (t : Nat)
  /-- TEN_SECOND_FREQUENCY_INTERVAL (R235): At RTC seconds multiple of 10 the 10-second frequency is computed and written to FREQ10. -/
  | tenSecondFrequencyInterval (t : Nat)
  /-- TRUNCATED_EVENT (R243): An open event with no valid value for 1 s closes TRUNCATED. -/
  | truncatedEvent (t channel : Nat)
  /-- CAPTURE_FREEZE (R255): Once the row containing T + post is written the segment becomes FROZEN, raises its event and the next FREE segment is armed. -/
  | captureFreeze (t capture segment : Nat)
  /-- STREAM_ROW (R261): A completed row of a stream is written to the ring when credit allows, or staged in the spillway. -/
  | streamRow (t stream row : Nat)
  /-- STREAM_CONS_WRITE (R261): A host write of a stream descriptor's CONS grants credit, or is ignored with an event if it exceeds SIZE. -/
  | streamConsWrite (t port stream : Nat) (value : BitVec 32)
  /-- CALIBRATION_RUN_END (R275): At the publication of a run's last cadence the candidate's status becomes READY, DISAGREE, INSUFFICIENT, LIMIT or FAILED. -/
  | calibrationRunEnd (channel gear : Nat)
  /-- REFERENCE_LEG_END (R272): After 17 cadences the GAIN reference leg records REF_RESP and the spoke returns under R150. -/
  | referenceLegEnd (channel gear : Nat)
  /-- CANDIDATE_EXPIRY (R275): A READY candidate not committed within 3,600 s is removed. -/
  | candidateExpiry (t channel gear : Nat)
  /-- REFERENCE_RATIO_MEAN (R280): At each whole RTC second one-second reference ratios are taken and the reference state table is evaluated. -/
  | referenceRatioMean (r : RatioIn)
  /-- REFERENCE_FAILURE (R283): A present reference leaving its ±1 % window is FAILED and, if selected, handed over at the next boundary with samples LOST meanwhile. -/
  | referenceFailure (t reference : Nat)
  /-- SEAL_CHANGE (R288): A filtered change of SEAL_OPEN_N increments the seal count, writes seal records and log entries, and raises the seal event. -/
  | sealChange (t : Nat) (x : SealIn)
  /-- CALENDAR_ACTIVATION (R302): At the boundary beginning second T the passive and active calendar copies exchange, closing periods if CLOSE_AT_ACTIVATION is set. -/
  | calendarActivation (polder : Nat)
  /-- DEFERRED_CALENDAR_ACTIVATION (R303): An activation whose T arrived while the clock was untrusted takes place at the first second boundary with the clock trusted. -/
  | deferredCalendarActivation (polder : Nat)
  /-- DEMAND_SUBINTERVAL_CLOSE (R305): At a boundary whose local time is a multiple of L minutes the sub-interval closes and an eligible window may update MAX and MAX_AT. -/
  | demandSubintervalClose (meter : Nat)
  /-- BILLING_DATE_CLOSE (R307): At the billing date and second the billing period of each mode-0 meter closes with cause 1. -/
  | billingDateClose (polder : Nat)
  /-- DEFERRED_BILLING_DATE_CLOSE (R307): A billing-date close that waited for a trusted clock takes place with cause 5. -/
  | deferredBillingDateClose (polder : Nat)
  /-- TAMPER_CRITERION_START (R311): After T_ON consecutive met cadences a tamper criterion becomes ACTIVE, is counted, flagged and raises the meter's tamper event. -/
  | tamperCriterionStart (meter entry : Nat)
  /-- TAMPER_CRITERION_END (R311): After T_OFF consecutive cadences not met the criterion ends. -/
  | tamperCriterionEnd (meter entry : Nat)
  /-- READING_COMPOSITION (R313): When a queued reading is taken from the signing queue the record is composed from the last booked state and passed to the signer. -/
  | readingComposition (t : Nat)
  /-- READING_SIGNED (R318): When the signature is complete READ_SEQ advances, STICKY_READ clears and the completion carrying the record is posted. -/
  | readingSigned (t : Nat)
  /-- DOORBELL (R349): A write to HPT_DBn observed at CS_N rise takes the new command entries as one batch, or is ignored as stale or overrun. -/
  | doorbell (t port sluice : Nat) (value : BitVec 32)
  /-- REFUSAL_COMPLETION (R336): At D + 256.000 µs the refusal's ST_REFUSED completion is posted in clear. -/
  | refusalCompletion (t : Nat)
  /-- COMPLETION_ACKNOWLEDGE (R355): A host write of HPT_CACKn.CONS frees completion-ring slots, or is ignored if it exceeds POSTED. -/
  | completionAcknowledge (t port sluice : Nat) (value : BitVec 32)
  /-- DEFERRED_COMPLETION_POST (R355): A completion waiting for a free ring slot is posted in order once the slot frees, with CSEQ and the completion event. -/
  | deferredCompletionPost (t sluice : Nat)
  /-- LOCKSTEP_MISMATCH (R369): A mismatch between the supervisor cores restarts the dry side, discarding every ticket of every sluice. -/
  | lockstepMismatch (t : Nat)
  /-- WET_RESTART_COMPLETE (R341): The restarted wet side makes the host ports ready, raises its event and begins the 600 s trial. -/
  | wetRestartComplete (t : Nat) (checkOk : Bool)
  /-- WET_TRIAL_EXPIRY (R341): Without image.confirm within 600 s the device restarts into the former wet copy. -/
  | wetTrialExpiry
  /-- BAD_INSTRUCTION (R403): An unknown instruction on a host port sets BAD_INSTR and leaves IO in high impedance until CS_N rises. -/
  | badInstruction (t port : Nat) (instruction : Byte)
  /-- UNALIGNED_ADDRESS (R404): A transaction with an address not a multiple of 4 sets UNALIGNED and is ignored. -/
  | unalignedAddress (t port address : Nat)
  /-- BLOCKED_ACCESS (R409): A host aperture access that the port may not make returns zero or has no effect, increments HPT_BLOCKn and sets BLOCKED. -/
  | blockedAccess (t port address : Nat) (write : Bool)
  /-- REGISTER_WRITE (R12): A host write to a foundation register with no behaviour of its own updates its RW fields and ignores read-only and reserved bits. -/
  | registerWrite (t port address : Nat) (data : List Byte)
  /-- HPT_SLSTAT_READ (R348): A read of HPT_SLSTATn returns and clears STALE_DB and OVERRUN. -/
  | hptSlstatRead (t port sluice : Nat)
  /-- HPT_STAT_READ (R407): A read of HPT_STATn returns and clears the host-port error flags. -/
  | hptStatRead (t port n : Nat)
  /-- SYS_OCC_STATS_READ (R48): A read of SYS_OCC_STATS returns and clears PEAK. -/
  | sysOccStatsRead (t port : Nat)
  /-- EVT_STAT_READ (R426): A read of EVT_STATg returns the pending bits visible to the port, advances the group counter and clears them in read-clear mode. -/
  | evtStatRead (t port group : Nat)
  /-- EVT_SEQ_WRITE (R427): A write of the port's last SEQ to EVT_SEQg clears the bits it read that have not fired since. -/
  | evtSeqWrite (t port group : Nat) (value : BitVec 32)
  /-- EVT_CTRL_WRITE (R428): A write to EVT_CTRL enables or holds released every HP_IRQ_N line. -/
  | evtCtrlWrite (t port : Nat) (value : BitVec 32)
  /-- EVT_CTRL_READ (R425): A read of EVT_CTRL returns and clears WHILE_ON. -/
  | evtCtrlRead (t port : Nat)
  /-- EVT_MODE_WRITE (R412): A write to EVT_MODE applies only while EVT_CTRL.ENABLE is 0, otherwise sets WHILE_ON and fires EV0651 if it differs. -/
  | evtModeWrite (t port : Nat) (value : BitVec 32)
  /-- RTC_LO_READ (R414): A read of RTC_LO loads and freezes the port's RTC shadow. -/
  | rtcLoRead (t port age : Nat)
  /-- RTC_WAKE_READ (R414): A read of RTC_WAKE returns the shadow and unfreezes it. -/
  | rtcWakeRead (t port : Nat)
  /-- PAR_CTRL_WRITE (R412): A write to PAR_CTRL changes BANK only while ENABLE was 0, else sets WHILE_ON and fires EV0651. -/
  | parCtrlWrite (t port : Nat) (value : BitVec 32)
  /-- PAR_RAW_WRITE (R416): PAR_OP 1 writes PAR_DATA and PAR_CHK raw into the test row. -/
  | parRawWrite (t port : Nat)
  /-- PAR_RAW_READ (R416): PAR_OP 2 reads a test-row word and its parity bits raw into PAR_DATA and PAR_CHK. -/
  | parRawRead (t port : Nat)
  /-- PAR_CHECKED_READ (R416): PAR_OP 3 reads a test-row word through the normal path, setting ERR and ERR_BYTES on parity error. -/
  | parCheckedRead (t port : Nat)
  /-- PAR_SCRUB_PASS (R416): PAR_OP 4 scrubs the test row and reports words in error in SCRUB_ERR. -/
  | parScrubPass (t port : Nat)
  /-- PAR_OP_OVERLAP (R416): A write of PAR_OP while BUSY is ignored and sets OVERLAP. -/
  | parOpOverlap (t port : Nat) (value : BitVec 32)
  /-- PAR_OPERATION_COMPLETE (R416): A parity test operation ends within 1 µs, or 20 µs for a scrub pass, and BUSY clears. -/
  | parOperationComplete (t : Nat)
  /-- PAR_STAT_READ (R416): A read of PAR_STAT returns and clears ERR, ERR_BYTES, OVERLAP, WHILE_ON and SCRUB_ERR. -/
  | parStatRead (t port : Nat)
  /-- WHL_TEST_CFG_WRITE (R412): A write to WHL_TEST_CFG applies only while the wheel's test enable was 0, else sets WHILE_ON and fires the wheel source with CODE 8. -/
  | whlTestCfgWrite (t port wheel : Nat) (value : BitVec 32)
  /-- WHEEL_TEST_START (R418): Raising WHL_TEST_CTRL.ENABLE starts a 32-cadence self-test on a free wheel, or sets ABORTED at once. -/
  | wheelTestStart (t port wheel : Nat)
  /-- WHEEL_TEST_CLEAR (R417): Writing 0 to WHL_TEST_CTRL.ENABLE clears DONE and ABORTED. -/
  | wheelTestClear (t port wheel : Nat)
  /-- WHL_TEST_CTRL_READ (R417): A read of WHL_TEST_CTRL returns and clears WHILE_ON. -/
  | whlTestCtrlRead (t port wheel : Nat)
  /-- WHEEL_TEST_DONE (R418): After 32 cadences the self-test sets DONE with valid results and advances the epochs of the wheel and its slices. -/
  | wheelTestDone (wheel : Nat) (r : TestIn)
  /-- BROADCAST_WRITE (R419): A write to the WHL broadcast window is applied to every wheel selected by WHL_BMASK, each judged against its own enable. -/
  | broadcastWrite (t port offset : Nat) (value : BitVec 32)
  /-- BROADCAST_READ (R419): A read from the broadcast window returns zero and sets BCAST_READ. -/
  | broadcastRead (t port offset : Nat)
  /-- WHL_BSTAT_READ (R419): A read of WHL_BSTAT returns and clears BCAST_READ. -/
  | whlBstatRead (t port : Nat)
  /-- FRAME_RECEIVED (R441): A powerline frame whose frame control is decoded sets the access grid from its EOF and is checked, decrypted, relayed or delivered. -/
  | frameReceived (t : Nat) (f : FrameIn)
  /-- SACK_TRANSMIT (R442): At EOF + 30.72 µs the addressed receiver sends a SACK marking good blocks, or BUSY. -/
  | sackTransmit (t : Nat)
  /-- SACK_RECEIVED (R442): A transmitter receives a SACK in its window and records the acknowledged blocks. -/
  | sackReceived (t : Nat) (k : SackIn)
  /-- NO_SACK (R446): No valid SACK in its window counts as a transmission with nothing acknowledged and a retransmission is scheduled. -/
  | noSack (t : Nat)
  /-- PRIORITY_RESOLUTION (R443): In class slots CS1 and CS2 stations signal their class bits and lower classes withdraw. -/
  | priorityResolution (t : Nat) (heard : Nat)
  /-- CONTENTION_SLOT (R444): At the end of an idle contention slot the backoff count decrements and a station whose count reaches zero transmits. -/
  | contentionSlot (t slot : Nat)
  /-- EXTENDED_GAP_END (R445): 1.50 ms after undecoded energy ends the medium is free and priority resolution begins. -/
  | extendedGapEnd (t : Nat)
  /-- TONE_MAP_ISSUE (R435): A receiver issues a new tone map after 20 s, on a high block failure ratio or on an SNR change, at most once per second. -/
  | toneMapIssue (t node number : Nat)
  /-- TONE_MAP_EXPIRY (R435): A tone map expires 30 s after issue and the transmitter falls back to ROBUST-4. -/
  | toneMapExpiry (t node : Nat)
  /-- BEACON_SEND (R450): Once per RTC second at its node's cadence index a joined device queues a broadcast ROBUST-6 beacon. -/
  | beaconSend (t : Nat)
  /-- SEARCH_TIMEOUT (R447): A joined node with no authenticated beacon for 35 s returns to searching. -/
  | searchTimeout (t : Nat)
  /-- BEACON_LOCK_LOSS (R451): No beacon from the chosen neighbour within 3 s clears BEACON_LOCK. -/
  | beaconLockLoss (t : Nat)
  /-- ROUTE_ADVERTISEMENT (R455): Every 10 s plus jitter a joined device broadcasts its route table in ROBUST-4. -/
  | routeAdvertisement (t : Nat)
  /-- ROUTE_EXPIRY (R455): A route entry or neighbour not refreshed within 35 s expires. -/
  | routeExpiry (t : Nat)
  /-- DELIVERY_TIMEOUT (R456): No confirmation within 250 ms × HOPS completes plc.send with OUTCOME 1. -/
  | deliveryTimeout (t : Nat)
  /-- PPS_EDGE (R464): A rising PPS_IN edge is stamped and, if valid, gives an offset sample acted on under R466. -/
  | ppsEdge (t : Nat)
  /-- PPS_LOSS (R464): No valid PPS edge for 1.5 s loses the PPS source and the device changes source or enters holdover. -/
  | ppsLoss (t : Nat)
  /-- STEP (R468): At a boundary the timebase steps by whole cadences, renumbering cadences without losing samples, and raises CODE 4. -/
  | step
  /-- SLEW_COMPLETE (R467): A slew ends when its remaining offset reaches zero and the frequency returns to the estimate. -/
  | slewComplete (t : Nat)
  /-- STEERING_WORD_STORE (R471): Once per hour while locked the steering word is written to stored configuration. -/
  | steeringWordStore (t : Nat)
  /-- CLOCK_TRUST_CHANGE (R473): A detected trust cause takes effect at the first boundary after detection, changing billing, flags and beacons, with CODE 1 or 2. -/
  | clockTrustChange
  /-- ALARM (R474): The seconds count entering a matching second fires the alarm, raising CODE 6 and the ALARM wake reason if enabled. -/
  | alarm (t : Nat)
  /-- PERIODIC_WAKE (R475): At each whole multiple of 2^(k−8) s the periodic wake fires and sets the PERIODIC reason if enabled. -/
  | periodicWake (t : Nat)
  /-- SRAM_PARITY_ERROR (R480): A parity error found by a read or the scrubber is counted, fires EV0648 and takes the consequence of its region. -/
  | sramParityError (t : Nat) (e : ParityIn)
  /-- FLASH_ECC_ERROR (R484): A flash read corrects a single-bit error or meets an uncorrectable one with its region's consequence and EV0649. -/
  | flashEccError (t : Nat) (e : FlashIn)
  /-- FLASH_PATROL (R484): Every 24 h the dry side reads every programmed granule of the image regions and rewrites failed copies. -/
  | flashPatrol (t : Nat) (found : List FlashIn)
  /-- MRAM_ECC_ERROR (R488): A ledger MRAM word with an error is corrected, restored, zeroed or treated as a failed location, with an entry and EV0647. -/
  | mramEccError (t : Nat) (e : MramIn)
  /-- LOG_COMPROMISED (R493): From the first boundary after the first crest entry every reading carries LOG_COMPROMISED for the rest of the life. -/
  | logCompromised
  /-- SUPPLY_GLITCH (R495): An armed glitch detector sees a supply beyond ±15 % for 50 ns, latches it and fires its guard source. -/
  | supplyGlitch (t supply : Nat)
  /-- SLOW_EXCURSION (R495): An armed comparator sees a supply's 1.024 ms mean beyond ±6 %, latches it and fires its guard source. -/
  | slowExcursion (t supply : Nat)
  /-- MONITOR_ARM (R496): A supply monitor arms once its supply has been in range for 2 ms after start or VBAT return. -/
  | monitorArm (t supply : Nat)
  /-- TAMPER_INPUT_ACTIVE (R497): Eight consecutive samples at the active level make a TAMP_IN active, latching it and acting under its response. -/
  | tamperInputActive (t : Nat) (x : TamperIn)
  /-- TAMPER_INPUT_INACTIVE (R497): Eight consecutive samples at the other level make a TAMP_IN inactive. -/
  | tamperInputInactive (t : Nat) (x : TamperIn)
  /-- FLOODGATE_CLOSE (R504): At the first boundary after a close response the floodgate closes, flags are set, EV0681 fires and dry commands other than unlock and readings are refused. -/
  | floodgateClose
  /-- LINK_TRAINING (R515): The tandem link trains lanes, exchanges certificates, checks identity and straps, and derives the link key. -/
  | linkTraining (t : Nat) (l : TrainIn)
  /-- LANE_ERROR_RETRAIN (R517): A lane error persisting 100 µs starts retraining of the tandem link. -/
  | laneErrorRetrain (t lanes : Nat)
  /-- HEARTBEAT_SEND (R519): In each cadence the device sends a heartbeat between B(n) + 0.25 ms and 0.50 ms. -/
  | heartbeatSend (x : BeatIn)
  /-- HEARTBEAT_RECEIVED (R519): A received heartbeat is acknowledged at once and checked against the stoker's own commit record and booking count. -/
  | heartbeatReceived (t : Nat) (h : HeartIn)
  /-- HEARTBEAT_ACKNOWLEDGED (R519): An acknowledgement arriving by B(n) + 2.00 ms marks the heartbeat acknowledged. -/
  | heartbeatAcknowledged (t : Nat)
  /-- HEARTBEAT_MISSED (R529): A heartbeat not received by its deadline raises CODE 6, the second consecutive making the stoker suspect the captain. -/
  | heartbeatMissed (t : Nat)
  /-- HEARTBEAT_UNACKNOWLEDGED (R530): Two consecutive unacknowledged heartbeats set LINK to 0 at the captain. -/
  | heartbeatUnacknowledged (t : Nat)
  /-- STAND_DOWN (R530): A non-preferred captain without WITNESS high stands down to neither at the next boundary and discards its tickets. -/
  | standDown (witness : Bool)
  /-- TANDEM_TAKEOVER (R529): At BT a suspecting stoker that is preferred or sees WITNESS high assumes captaincy with a new term and reconciles its ledger. -/
  | tandemTakeover (witness : Bool)
  /-- PREPARE_FRAME (R522): The stoker receives and acknowledges a prepare frame and applies it at its boundary. -/
  | prepareFrame (t : Nat) (m : MirrorIn)
  /-- JOURNAL_FRAME (R522): The stoker receives, acknowledges and applies a journal entry on receipt. -/
  | journalFrame (t : Nat) (m : MirrorIn)
  /-- JOURNAL_ACKNOWLEDGEMENT (R521): The stoker's acknowledgement lets the captain post ST_STAGED or apply and complete the mirrored authority command. -/
  | journalAcknowledgement (t : Nat) (ack : BitVec 32)
  /-- FRAME_RESEND (R518): A prepare or journal frame not covered by ACK within 50 µs is sent again. -/
  | frameResend (t : Nat)
  /-- CHECKPOINT_CAPTURE (R524): At each boundary beginning an RTC second the captain freezes authority state as epoch e and starts sending it, abandoning an incomplete transfer. -/
  | checkpointCapture
  /-- CHECKPOINT_COMPLETE (R525): When the trailer hash verifies the stoker adopts epoch e, re-applies later entries, records references and aligns its booking count. -/
  | checkpointComplete (t : Nat) (c : CkptIn)
  /-- CLAIM_RECEIVED (R532): A captain receiving a claim compares terms and preference to decide which device yields. -/
  | claimReceived (t : Nat) (term : BitVec 32)
  /-- YIELD (R532): The yielding captain enters neither at the next boundary, discards its tickets and raises CODE 9. -/
  | yield
  /-- HANDOVER_EXECUTION (R531): At the boundary after the extra checkpoint completes the captain becomes stoker and the stoker captain. -/
  | handoverExecution
  /-- HANDOVER_ABANDONED (R531): A handover whose checkpoint is not complete within 125 cadences changes nothing and raises CODE 10. -/
  | handoverAbandoned
  /-- DEV_INFO (R383): Returns the protocol revision, image versions, security versions and DEVICE_ID. -/
  | devInfo (sub : Submit)
  /-- DEV_IDENTITY (R383): Returns DEVICE_ID, the key-agreement and identity public keys and the certificate chain. -/
  | devIdentity (sub : Submit)
  /-- DEV_ECHO (R383): Returns its payload as received. -/
  | devEcho (sub : Submit) (data : List Byte)
  /-- POWER_SET_DOMAINS (R97): Stages a polder's ON, OFF or NONE requests for the domains of its claim set. -/
  | powerSetDomains (sub : Submit) (p : PowerSetDomains)
  /-- POWER_SET_STATE (R104): P00 stages a change of device state and wake configuration. -/
  | powerSetState (sub : Submit) (p : PowerSetState)
  /-- POWER_STATUS (R384): Returns the requesting polder's own domain requests. -/
  | powerStatus (sub : Submit)
  /-- WHEEL_SET_GEAR (R132): Stages the gear policy of a set of channels. -/
  | wheelSetGear (sub : Submit) (p : WheelSetGear)
  /-- WHEEL_SET_JOCKEY (R138): Stages the jockey policy and compare thresholds of a set of wheels. -/
  | wheelSetJockey (sub : Submit) (p : WheelSetJockey)
  /-- WHEEL_SERVICE_SPOKE (R147): Stages a jockey takeover of one spoke to cover, recalibrate or retire it. -/
  | wheelServiceSpoke (sub : Submit) (p : WheelServiceSpoke)
  /-- WHEEL_RETURN_SPOKE (R150): Stages the return of a COVERED spoke, or of a FAILED one the jockey serves. -/
  | wheelReturnSpoke (sub : Submit) (p : WheelReturnSpoke)
  /-- WHEEL_USE_RELIEF_SUBSTITUTE (R158): Stages a planned substitution of the relief engine for a working wheel engine. -/
  | wheelUseReliefSubstitute (sub : Submit) (wheel : Nat)
  /-- WHEEL_USE_RELIEF_RETURN (R158): Stages the planned return of a wheel from the relief engine to its own engine. -/
  | wheelUseReliefReturn (sub : Submit) (wheel : Nat)
  /-- WHEEL_STATUS (R385): Returns a wheel's policy, jockey position, engine, temperature and per-slice states and counters. -/
  | wheelStatus (sub : Submit) (wheel : Nat)
  /-- CHAIN_LOAD_BANK (R183): Checks a coefficient set and writes it into the inactive bank of each named wheel at completion. -/
  | chainLoadBank (sub : Submit) (p : ChainLoadBank)
  /-- CHAIN_SWITCH_BANK (R185): Stages an exchange of active and inactive banks with a chosen cross-fade length. -/
  | chainSwitchBank (sub : Submit) (p : ChainSwitchBank)
  /-- CHAIN_SET_CHANNEL (R386): Stages a channel's scale, DC-block, freeze, integrator, cycle reference and envelope settings. -/
  | chainSetChannel (sub : Submit) (p : ChainSetChannel)
  /-- CHAIN_SET_TRIP (R223): Stages a fast-trip comparator's mode, thresholds, counts, latch and outputs. -/
  | chainSetTrip (sub : Submit) (p : ChainSetTrip)
  /-- CHAIN_CLEAR_TRIP (R225): Clears the latches of the named comparators at completion. -/
  | chainClearTrip (sub : Submit) (channels : BitVec 128)
  /-- CHAIN_STATUS (R386): Returns a channel's bank, DC estimate, freeze causes, settings and trip state. -/
  | chainStatus (sub : Submit) (channel : Nat)
  /-- METER_DEFINE (R194): Stages the creation or change of a meter definition. -/
  | meterDefine (sub : Submit) (p : MeterDefine)
  /-- METER_UNDEFINE (R194): Stages the removal of a meter, whose last cadence is published and booked. -/
  | meterUndefine (sub : Submit) (p : MeterUndefine)
  /-- METER_MAP_CF (R217): Stages the mapping of a CF output to a meter quantity with constant and pulse width. -/
  | meterMapCf (sub : Submit) (p : MeterMapCf)
  /-- METER_MAP_CF_CLEAR (R387): Stages the clearing of a CF output's mapping, putting it in kickstand. -/
  | meterMapCfClear (sub : Submit) (cf : Nat) (expGen : BitVec 32)
  /-- METER_STATUS (R387): Returns a meter's state, type, generation, last publication and CF lost-pulse counters. -/
  | meterStatus (sub : Submit) (meter : Nat)
  /-- PQ_SET_CHANNEL (R230): Stages a channel's power-quality settings and thresholds. -/
  | pqSetChannel (sub : Submit) (p : PqSetChannel)
  /-- PQ_SET_METER (R230): Stages enabling or disabling unbalance for a type 2 or 3 meter. -/
  | pqSetMeter (sub : Submit) (p : PqSetMeter)
  /-- PQ_SET_CAPTURE (R253): Defines, redefines or deletes a capture and returns its segment addresses. -/
  | pqSetCapture (sub : Submit) (p : PqSetCapture)
  /-- PQ_ARM (R255): Enables a capture, arming its lowest FREE segment. -/
  | pqArm (sub : Submit) (capture : Nat)
  /-- PQ_DISARM (R255): Disables a capture. -/
  | pqDisarm (sub : Submit) (capture : Nat)
  /-- PQ_TRIGGER (R254): Raises a host trigger on a capture and reports its stamp and whether a segment took it. -/
  | pqTrigger (sub : Submit) (capture : Nat)
  /-- PQ_RELEASE (R255): Returns the named FROZEN segments to FREE. -/
  | pqRelease (sub : Submit) (p : PqRelease)
  /-- PQ_STATUS (R388): Returns a capture's segment states, MISSED count and shape. -/
  | pqStatus (sub : Submit) (capture : Nat)
  /-- PQ_STREAM_OPEN (R260): Opens a stream in the polder's share and returns its descriptor address. -/
  | pqStreamOpen (sub : Submit) (p : PqStreamOpen)
  /-- PQ_STREAM_CLOSE (R260): Ends a stream and returns its final dropped-row count. -/
  | pqStreamClose (sub : Submit) (stream : Nat)
  /-- CAL_RUN (R270): Stages a calibration run on up to 16 targets of one kind. -/
  | calRun (sub : Submit) (p : CalRun)
  /-- CAL_COMMIT (R276): Stages the replacement of named sets by their READY candidates. -/
  | calCommit (sub : Submit) (p : CalCommit)
  /-- CAL_DISCARD (R275): Removes the candidate of a channel and gear. -/
  | calDiscard (sub : Submit) (target : CalTarget)
  /-- CAL_STATUS (R389): Returns a candidate's status, measured values and the reference state. -/
  | calStatus (sub : Submit) (target : CalTarget)
  /-- CAL_READ (R266): Returns a calibration set. -/
  | calRead (sub : Submit) (p : CalRead)
  /-- CAL_ANCHOR (R280): Stages taking the present reference ratios, selection and k_ref as the anchor. -/
  | calAnchor (sub : Submit)
  /-- CAL_SET_REFERENCE (R284): Stages the preferred reference and the automatic-handover setting. -/
  | calSetReference (sub : Submit) (p : CalSetReference)
  /-- TARIFF_STAGE_CALENDAR (R297): Checks a calendar and writes it into the passive copy, cancelling any pending activation. -/
  | tariffStageCalendar (sub : Submit) (calendar : List Byte)
  /-- TARIFF_ACTIVATE_AT (R302): Records a pending calendar activation at RTC second T. -/
  | tariffActivateAt (sub : Submit) (at_ : BitVec 64)
  /-- TARIFF_CANCEL_ACTIVATION (R390): tariff.activate_at with T = 0 cancels a pending activation at completion. -/
  | tariffCancelActivation (sub : Submit)
  /-- TARIFF_SET_METER (R296): Stages a meter's rate quantities and rate mode. -/
  | tariffSetMeter (sub : Submit) (p : TariffSetMeter)
  /-- TARIFF_STATUS (R390): Returns the active and passive calendar identifiers and any pending activation. -/
  | tariffStatus (sub : Submit)
  /-- LEDGER_READ_SIGNED (R312): Queues a signed reading of a meter for the signer. -/
  | ledgerReadSigned (sub : Submit) (p : LedgerReadSigned)
  /-- LEDGER_SET_DEMAND (R304): Stages up to four demand quantities of a meter, closing its period. -/
  | ledgerSetDemand (sub : Submit) (p : LedgerSetDemand)
  /-- LEDGER_SET_TAMPER (R309): Stages a meter's tamper criteria. -/
  | ledgerSetTamper (sub : Submit) (p : LedgerSetTamper)
  /-- LEDGER_CLOSE_PERIOD (R307): Stages a billing-period close of the named meters with cause 2. -/
  | ledgerClosePeriod (sub : Submit) (meters : BitVec 256)
  /-- LEDGER_STATUS (R390): Returns a meter's ledger header. -/
  | ledgerStatus (sub : Submit) (meter : Nat)
  /-- POLDER_CREATE (R323): Stages the creation of a polder with its record and initial keys. -/
  | polderCreate (sub : Submit) (p : PolderCreate)
  /-- POLDER_ASSIGN (R326): Stages new polder records, all or none, subject to the cross-polder invariants. -/
  | polderAssign (sub : Submit) (records : List PolderRecord)
  /-- POLDER_RELEASE (R392): Stages a polder giving named resources back to P00. -/
  | polderRelease (sub : Submit) (record : PolderRecord)
  /-- POLDER_CLOSE (R324): Stages closing a rekeyed polder, replacing its signing key and erasing old keys. -/
  | polderClose (sub : Submit)
  /-- POLDER_DISSOLVE (R325): Stages dissolving a polder with no meters, returning its resources and erasing its keys and logs. -/
  | polderDissolve (sub : Submit) (polder : Nat)
  /-- POLDER_REKEY (R331): Unwraps and installs new authority and session keys, optionally a new signing key, at completion. -/
  | polderRekey (sub : Submit) (p : PolderRekey)
  /-- POLDER_GET_KEY (R331): Returns the polder's signing public key signed by the identity key. -/
  | polderGetKey (sub : Submit)
  /-- POLDER_STATUS (R326): Returns a polder record. -/
  | polderStatus (sub : Submit) (polder : Nat)
  /-- POLDER_READ_AUDIT (R393): Returns audit-log entries of the polder from a given number. -/
  | polderReadAudit (sub : Submit) (p : PolderReadAudit)
  /-- EVENT_READ (R394): Returns queued event entries and the number dropped. -/
  | eventRead (sub : Submit) (max : Nat)
  /-- EVENT_MASK (R421): Changes the enables of held sources in one group. -/
  | eventMask (sub : Submit) (p : EventMask)
  /-- EVENT_ROUTE (R428): P00 sets which polders' events drive an HP_IRQ_N line. -/
  | eventRoute (sub : Submit) (p : EventRoute)
  /-- PLC_SET_LINK (R436): Enables the powerline link and sets transmit and receive coupling. -/
  | plcSetLink (sub : Submit) (p : PlcSetLink)
  /-- PLC_SET_NETWORK (R447): Joins the device to a network with name, node number, role and key, clearing queues and routes. -/
  | plcSetNetwork (sub : Submit) (p : PlcSetNetwork)
  /-- PLC_SET_SPECTRUM (R438): Sets per-carrier attenuation and notches, discarding outgoing tone maps. -/
  | plcSetSpectrum (sub : Submit) (p : PlcSetSpectrum)
  /-- PLC_SEND (R456): Queues a data frame for another device's polder and completes with its outcome. -/
  | plcSend (sub : Submit) (p : PlcSend)
  /-- PLC_RECV (R457): Takes the oldest frame from the polder's receive queue. -/
  | plcRecv (sub : Submit)
  /-- PLC_STATUS (R395): Returns link state, neighbour and route counts, frame counters and beacon lock. -/
  | plcStatus (sub : Submit)
  /-- TIME_SET_STEP (R472): Stages a step of the RTC by an offset, clearing trust causes [0] and [1]. -/
  | timeSetStep (sub : Submit) (offset : Int)
  /-- TIME_SET_SLEW (R472): Stages a slew of the RTC by an offset. -/
  | timeSetSlew (sub : Submit) (offset : Int)
  /-- TIME_TRUST_MARK (R473): Stages setting the command mark of clock untrust. -/
  | timeTrustMark (sub : Submit)
  /-- TIME_TRUST_CLEAR (R473): Stages clearing the command mark of clock untrust. -/
  | timeTrustClear (sub : Submit)
  /-- TIME_SET_ALARM (R474): Sets the alarm seconds, mask and enable. -/
  | timeSetAlarm (sub : Submit) (p : TimeSetAlarm)
  /-- TIME_SET_PERIODIC (R475): Sets the periodic wake exponent and enable. -/
  | timeSetPeriodic (sub : Submit) (p : TimeSetPeriodic)
  /-- TIME_STATUS (R396): Returns trust, causes, source, last offset and holdover time. -/
  | timeStatus (sub : Submit)
  /-- STORE_READ (R397): Returns bytes of the polder's general store. -/
  | storeRead (sub : Submit) (p : StoreRead)
  /-- STORE_PROGRAM (R483): Programs erased granules of the polder's store, or writes nothing if any is not erased. -/
  | storeProgram (sub : Submit) (p : StoreProgram)
  /-- STORE_ERASE (R483): Erases 1–4 sectors of the polder's store. -/
  | storeErase (sub : Submit) (p : StoreErase)
  /-- GUARD_UNLOCK_CHALLENGE (R398): guard.unlock step 0 returns a new challenge valid for 300 s. -/
  | guardUnlockChallenge (sub : Submit)
  /-- GUARD_UNLOCK_RESPONSE (R507): guard.unlock step 1 with a valid signature opens the floodgate and fires EV0681 CODE 2. -/
  | guardUnlockResponse (sub : Submit) (challengeId : Nat) (sig : List Byte)
  /-- GUARD_SET_KEY (R508): Installs the unlock public key while the floodgate is open. -/
  | guardSetKey (sub : Submit) (pub : List Byte)
  /-- GUARD_SET_RESPONSE (R499): Stages the responses of guard sources. -/
  | guardSetResponse (sub : Submit) (entries : List GuardEntry)
  /-- TANDEM_ENABLE (R515): Stages enabling tandem operation with a named partner, taking a TDM claim and starting link training. -/
  | tandemEnable (sub : Submit) (partnerId : BitVec 128)
  /-- TANDEM_DISABLE (R516): Stages disabling tandem operation, making the device single and ending the TDM claim. -/
  | tandemDisable (sub : Submit)
  /-- TANDEM_HANDOVER (R531): Stages a planned handover of captaincy with an extra checkpoint. -/
  | tandemHandover (sub : Submit)
  /-- TANDEM_STATUS (R399): Returns role, link, term, last checkpoint epoch and partner identity. -/
  | tandemStatus (sub : Submit)
  /-- IMAGE_STAGE (R340): Writes a block of an image package into the inactive wet copy or the dry staging region. -/
  | imageStage (sub : Submit) (p : ImageStage)
  /-- IMAGE_ACTIVATE_WET (R340): Checks the staged wet package and stages a wet restart into it. -/
  | imageActivateWet (sub : Submit)
  /-- IMAGE_ACTIVATE_DRY (R344): Checks the dual-signed dry package with the seal open and stages the dry image switch. -/
  | imageActivateDry (sub : Submit)
  /-- IMAGE_CONFIRM (R341): Ends a wet trial and keeps the new copy active. -/
  | imageConfirm (sub : Submit)
  /-- IMAGE_STATUS (R400): Returns image versions, staging and trial state. -/
  | imageStatus (sub : Submit)
  /-- CHECKPOINT_BLOCK_RECEIVED (R525): The stoker receives a checkpoint block frame and writes it into the buffer that does not hold its last complete epoch. -/
  | checkpointBlockReceived (t : Nat) (epoch : BitVec 32) (block : Nat) (data : List Byte)
  /-- CARRIER_SENSE_BUSY (R445): Detection of a preamble, or of in-band energy above threshold for 5.12 µs, makes the medium busy and freezes every running backoff count. -/
  | carrierSenseBusy (t : Nat) (preamble : Bool)
  /-- ZERO_CROSSING_EDGE (R452): A rising edge on PLC_ZC0 is stamped as the device's last zero crossing, which feeds ZC_AGE in beacons and the neighbour phase assignment. -/
  | zeroCrossingEdge (t : Nat)
  /-- SLUICE_WINDOW_WRITE (R346): A host write to a sluice window's command ring or bulk area stores the entry or payload that a later doorbell takes, while writes to the completion ring have no effect. -/
  | sluiceWindowWrite (t port sluice offset : Nat) (data : List Byte)
deriving DecidableEq, Repr

end Sys2Proof
end

