-- ==== Sys2Proof/Machine/Numbers.lean ====
section
/-! DEFINITION. The functions of analysis and the number formats that the rules name: square root, sine, cosine, argument and the IEEE 754
formats. Each is computed to 2^-120 or better, far below the last bit of any field that carries it (log 16). -/
namespace Sys2Proof

/-- Bits behind the binary point in which the functions below work. -/
def numBits : Nat := 128

/-- pi in 2^-128, rounded down. -/
def piFixed : Nat := 1069028584064966747859680373161870783300

/-- The largest integer whose square does not exceed `n`, found bit by bit: `b` bits are left to find below `a`. -/
def isqrtFrom (n : Nat) : Nat → Nat → Nat
  | 0, a => a
  | b + 1, a => isqrtFrom n b (if (a + 2 ^ b) * (a + 2 ^ b) ≤ n then a + 2 ^ b else a)

/-- The integer square root. -/
def isqrt (n : Nat) : Nat := isqrtFrom n (n.log2 / 2 + 1) 0

/-- A number from its 2^-128 units. -/
def ofFixed (x : Int) : Rat := (x : Rat) / ((2 ^ numBits : Nat) : Rat)

/-- A number in 2^-128 units, rounded down. -/
def toFixed (x : Rat) : Int := (x * ((2 ^ numBits : Nat) : Rat)).floor

/-- The square root; zero of a negative number. -/
def sqrtRat (x : Rat) : Rat := if x ≤ 0 then 0 else ofFixed (isqrt (x * ((2 ^ (2 * numBits) : Nat) : Rat)).floor.toNat)

/-- Two pi. -/
def twoPi : Rat := 2 * ofFixed (piFixed : Int)

/-- The sum of `t`, `-t z / (n + 1) / (n + 2)`, … of `k` terms: the series of sine and cosine in 2^-128 units; `z`: the square of the
argument. -/
def trigSeries (z : Int) : Nat → Nat → Int → Int
  | 0, _, _ => 0
  | k + 1, n, t => t + trigSeries z k (n + 2) (-(t * z / (2 ^ numBits : Nat)) / (((n + 1) * (n + 2) : Nat) : Int))

/-- An angle in turns as an angle in [-pi, pi), 2^-128 rad. -/
def angleFixed (x : Rat) : Int := toFixed ((x - (x + 1 / 2).floor) * twoPi)

/-- The cosine of an angle in turns. -/
def cosTurns (x : Rat) : Rat :=
  let a := angleFixed x
  ofFixed (trigSeries (a * a / (2 ^ numBits : Nat)) 28 0 (2 ^ numBits : Nat))

/-- The sine of an angle in turns. -/
def sinTurns (x : Rat) : Rat :=
  let a := angleFixed x
  ofFixed (trigSeries (a * a / (2 ^ numBits : Nat)) 28 1 a)

/-- The sine of 120 degrees. -/
def sin120 : Rat := sqrtRat (3 / 4)

/-- The series of the inverse tangent in 2^-128 units: `k` terms from the power `t` and the odd number `n` on. -/
def atanSeries (z : Int) : Nat → Nat → Int → Int
  | 0, _, _ => 0
  | k + 1, n, t => t / (n : Int) + atanSeries z k (n + 2) (-(t * z / (2 ^ numBits : Nat)))

/-- The inverse tangent of a number in [0, 1], in turns: the angle is halved twice before its series. -/
def atanTurns (t : Rat) : Rat :=
  let half (u : Rat) : Rat := u / (1 + sqrtRat (1 + u * u))
  let a := toFixed (half (half t))
  4 * ofFixed (atanSeries (a * a / (2 ^ numBits : Nat)) 30 1 a) / twoPi

/-- The argument of the point (re, im) in turns, in (-1/2, 1/2]. The origin has none: no angle of a reading is taken of it
(`Phasor.angle`). -/
def argTurns (re im : Rat) : Rat :=
  let x := absRat re
  let y := absRat im
  let q := if x = 0 && y = 0 then 0 else if y ≤ x then atanTurns (y / x) else 1 / 4 - atanTurns (x / y)
  let h := if re < 0 then 1 / 2 - q else q
  if im < 0 then -h else h

/-! ## IEEE 754 formats -/

/-- The floor of the binary logarithm of a positive number. -/
def ilog2 (x : Rat) : Int :=
  let k : Int := (x.num.natAbs.log2 : Int) - (x.den.log2 : Int)
  if x < (if 0 ≤ k then ((2 ^ k.toNat : Nat) : Rat) else 1 / ((2 ^ (-k).toNat : Nat) : Rat)) then k - 1 else k

/-- A power of two. -/
def pow2 (k : Int) : Rat := if 0 ≤ k then ((2 ^ k.toNat : Nat) : Rat) else 1 / ((2 ^ (-k).toNat : Nat) : Rat)

/-- The nearest integer, ties to even. -/
def roundEven (x : Rat) : Int :=
  let n := x.floor
  let r := x - n
  if r < 1 / 2 then n else if 1 / 2 < r then n + 1 else if n % 2 = 0 then n else n + 1

/-- The bits of the nearest number of a binary format with `e` exponent and `m` fraction bits, ties to even; infinity beyond its
range. -/
def floatBits (e m : Nat) (x : Rat) : Nat :=
  let a := absRat x
  let bias : Int := (2 ^ (e - 1) - 1 : Nat)
  if a = 0 then 0
  else
    let k := max (ilog2 a) (1 - bias)
    let q := roundEven (a * pow2 ((m : Int) - k)) + (k + bias - 1) * (2 ^ m : Nat)
    bit (decide (x < 0)) * 2 ^ (e + m) + Nat.min q.toNat ((2 ^ e - 1) * 2 ^ m)

/-- The float32 nearest to a number. -/
def f32 (x : Rat) : BitVec 32 := BitVec.ofNat 32 (floatBits 8 23 x)

/-- The float32 nearest to the square root of a number. -/
def f32root (x : Rat) : BitVec 32 := f32 (sqrtRat x)

/-- The float64 nearest to a number. -/
def toF64 (x : Rat) : BitVec 64 := BitVec.ofNat 64 (floatBits 11 52 x)

end Sys2Proof
end

