-- ==== Sys2Proof/Machine/State.lean ====
section
/-! DEFINITION. The state of the block, everything the spec gives it, as plain data, and its value at reset. -/
namespace Sys2Proof.Machine

/-- Why the block stops. No rule of the spec stops it: the type has no value, so no step ends in a fault. -/
inductive Fault where
deriving DecidableEq, Repr

/-- Why a command has no meaning. -/
inductive Refusal where
  /-- Raised by the dispatch alone, for a row without a meaning; safe. -/
  | notModelled (mnemonic : String)
deriving DecidableEq, Repr

/-- Memory: bytes by aperture address, ascending; a byte that is not listed reads as zero (log 3). -/
abbrev Mem := List Host.Cell

/-- What was in force in the cadence that closed last, for its publication after the boundary (R26). -/
structure Closing where
  /-- Cadence number, the boundary count at its close, and its opening stamp (2^-24 s). -/
  cad : Nat
  bnd : Nat
  stamp : Nat
  /-- Its publication is still due. -/
  open_ : Bool
  chan : Tab Chan
  whl : Tab Wheel
  mtr : Tab Meter
  cf : Tab Cf
  refs : Refs
  /-- MTR, and the wheel domains, ON for the whole cadence (bit n: domain n). -/
  domsOn : BitVec 33
  /-- Rate and default mark of each meter in the cadence (R28). -/
  rates : Tab (Nat × Bool)
deriving DecidableEq, Repr

/-- Before any cadence has closed. -/
def Closing.before : Closing where
  cad := 0
  bnd := 0
  stamp := 0
  open_ := false
  chan := []
  whl := []
  mtr := []
  cf := []
  refs := Refs.reset
  domsOn := 0
  rates := []

/-- The state of the block. -/
structure State where
  time : Time
  pwr : Power
  fab : Fabric
  whl : Tab Wheel
  relief : Relief
  chan : Tab Chan
  refs : Refs
  seals : Seal
  mtr : Tab Meter
  cf : Tab Cf
  led : Tab Ledger
  book : Booking
  tar : Tab Tariff
  sign : Signing
  pol : Tab Polder
  slu : Tab Sluice
  out : Outstanding
  hp : Tab Port
  evt : Evt
  par : Par
  bc : Bcast
  pq : Pq
  plc : Plc
  tdm : Tdm
  flash : Flash
  dbl : Doubles
  log : Logs
  guard : Guard
  tmp : Tamper
  mem : Mem
  closing : Closing
  /-- Cadences that closed before it and whose late publication is still due, oldest first (R46). -/
  older : List Closing
  /-- Wheels whose domain was lost in the open cadence, as they stood at the loss (R98, R228). -/
  cut : Tab Wheel
  /-- FASTTRIP_N outputs in kickstand, and the HP_IRQ_N lines (R114). -/
  tripKick : BitVec 4
  irqKick : Bool
  /-- The model's own: free values drawn so far (log 2). -/
  fresh : Nat
  /-- The model's own: commands that wait, first in first out (log 1). -/
  pending : List Instr
deriving DecidableEq, Repr

/-- Flash as it leaves final test: empty store, factory images (R561). -/
def Flash.reset : Flash where
  store := []
  wear := []
  corrected := 0
  bad := []
  wetA := factoryCopy 0
  wetB := factoryCopy 1
  dry := factoryCopy 2
  dryStaged := ⟨Config.factoryImage 3⟩
  wetVer := factoryVersion 0
  wetSec := Config.factorySecurity 0
  dryVer := factoryVersion 2
  drySec := Config.factorySecurity 2
  dryHash := Config.factoryDryHash
  trial := none
  restarting := none
  patrolAt := 0

/-- The block at its first power-on, PORST_N low: AON has made a cold start, every other domain is in reset, everything that
is kept is as it left final test (R111, R561, R563). -/
def State.reset : State where
  time := Time.reset
  pwr := Power.reset
  fab := Fabric.reset
  whl := []
  relief := Relief.reset
  chan := []
  refs := Refs.reset
  seals := Seal.reset
  mtr := []
  cf := []
  led := []
  book := Booking.reset
  tar := []
  sign := { queue := [], busy := none }
  pol := [(0, Polder.foundation)]
  slu := []
  out := Outstanding.reset
  hp := []
  evt := Evt.reset
  par := Par.reset
  bc := Bcast.reset
  pq := Pq.reset
  plc := Plc.reset
  tdm := Tdm.reset
  flash := Flash.reset
  dbl := { regions := [], due := 0 }
  log := Logs.reset
  guard := Guard.reset
  tmp := Tamper.reset
  mem := []
  closing := Closing.before
  older := []
  cut := []
  tripKick := 0xF
  irqKick := true
  fresh := 0
  pending := []

end Sys2Proof.Machine
end

