-- ==== Sys2Proof/Machine/Ops.lean ====
section
/-! DEFINITION. The shared operations over the state: its indexed parts, instants, memory, and what firing an event source
and writing a log entry do. -/
namespace Sys2Proof.Machine

/-! ## Parts of the state by number -/

/-- Wheel `w`. -/
def State.wheel (s : State) (w : Nat) : Wheel := s.whl.get Wheel.reset w

/-- The state with wheel `w` changed. -/
def State.modWheel (s : State) (w : Nat) (f : Wheel → Wheel) : State := { s with whl := s.whl.put w (f (s.wheel w)) }

/-- Slice `k` of wheel `x`: spokes 0 to 7, the jockey 8. -/
def Wheel.slice (x : Wheel) (k : Nat) : Slice := x.slices.get Slice.reset k

/-- The wheel with slice `k` changed. -/
def Wheel.modSlice (x : Wheel) (k : Nat) (f : Slice → Slice) : Wheel := { x with slices := x.slices.put k (f (x.slice k)) }

/-- Channel `c`. -/
def State.channel (s : State) (c : Nat) : Chan := s.chan.get (Chan.reset c) c

/-- The state with channel `c` changed. -/
def State.modChannel (s : State) (c : Nat) (f : Chan → Chan) : State := { s with chan := s.chan.put c (f (s.channel c)) }

/-- Meter number `m`. -/
def State.meter (s : State) (m : Nat) : Meter := s.mtr.get (Meter.reset m) m

/-- The state with meter number `m` changed. -/
def State.modMeter (s : State) (m : Nat) (f : Meter → Meter) : State := { s with mtr := s.mtr.put m (f (s.meter m)) }

/-- CF output `n`. -/
def State.cfOut (s : State) (n : Nat) : Cf := s.cf.get Cf.reset n

/-- The state with CF output `n` changed. -/
def State.modCf (s : State) (n : Nat) (f : Cf → Cf) : State := { s with cf := s.cf.put n (f (s.cfOut n)) }

/-- The ledger of meter number `m`. -/
def State.ledger (s : State) (m : Nat) : Ledger := s.led.get (Ledger.cleared 0) m

/-- The state with the ledger of meter number `m` changed. -/
def State.modLedger (s : State) (m : Nat) (f : Ledger → Ledger) : State := { s with led := s.led.put m (f (s.ledger m)) }

/-- The calendars of polder `p`. -/
def State.tariff (s : State) (p : Nat) : Tariff := s.tar.get Tariff.reset p

/-- The state with the calendars of polder `p` changed. -/
def State.modTariff (s : State) (p : Nat) (f : Tariff → Tariff) : State := { s with tar := s.tar.put p (f (s.tariff p)) }

/-- Polder `p`. -/
def State.polder (s : State) (p : Nat) : Polder := s.pol.get Polder.free p

/-- The state with polder `p` changed. -/
def State.modPolder (s : State) (p : Nat) (f : Polder → Polder) : State := { s with pol := s.pol.put p (f (s.polder p)) }

/-- Sluice `n`. -/
def State.sluice (s : State) (n : Nat) : Sluice := s.slu.get Sluice.reset n

/-- The state with sluice `n` changed. -/
def State.modSluice (s : State) (n : Nat) (f : Sluice → Sluice) : State := { s with slu := s.slu.put n (f (s.sluice n)) }

/-- Host port `n`. -/
def State.port (s : State) (n : Nat) : Port := s.hp.get Port.reset n

/-- The state with host port `n` changed. -/
def State.modPort (s : State) (n : Nat) (f : Port → Port) : State := { s with hp := s.hp.put n (f (s.port n)) }



/-- A unit that carries a state epoch (R116). -/
inductive EpochUnit where
  | domain (n : Nat)
  | slice (w k : Nat)
  | engine (w : Nat)
  | relief
  | metering
  | quality
  /-- The definition of a meter number, whose generation advances as an epoch does (R194). -/
  | definition (m : Nat)
deriving DecidableEq, Repr

/-- A number for each unit. -/
def EpochUnit.no : EpochUnit → Nat
  | .domain n => n
  | .slice w k => 33 + 9 * w + k
  | .engine w => 177 + w
  | .relief => 193
  | .metering => 194
  | .quality => 195
  | .definition m => 196 + m

/-- A unit's epoch advances by `f`: at a boundary once, however many changes commit there (R116). -/
def State.once (s : State) (u : EpochUnit) (f : State → State) : State :=
  if s.time.off = 0 && s.pwr.advanced.contains u.no then s
  else f { s with pwr := { s.pwr with advanced := u.no :: s.pwr.advanced } }

/-- The next free value, and the state in which it has been drawn (log 2). -/
def State.draw (s : State) : Nat × State := (Config.free s.fresh, { s with fresh := s.fresh + 1 })

/-! ## Instants -/

/-- Elapsed master clocks since reset. -/
def State.now (s : State) : Nat := s.time.bnd * cadenceClocks + s.time.off

/-- A domain at an instant: one that has been OFF long enough between a drain and its pending turn-on is RISING (R100). -/
def Dom.seen (d : Dom) (now : Nat) : Dom :=
  match d.riseFrom with
  | some t => if t ≤ now then { d with state := .rising, riseFrom := none } else d
  | none => d

/-- Power domain `n` (R94). -/
def State.dom (s : State) (n : Nat) : Dom := (s.pwr.doms.get Dom.reset n).seen s.now

/-- The state with power domain `n` changed. -/
def State.modDom (s : State) (n : Nat) (f : Dom → Dom) : State :=
  { s with pwr := { s.pwr with doms := s.pwr.doms.put n (f (s.dom n)) } }

/-- Power domain `n` is ON. -/
def State.domOn (s : State) (n : Nat) : Bool := (s.dom n).state == .on

/-- The state at instant `t` of the open cadence, in master clocks; time does not run backwards (log 4). -/
def State.advance (s : State) (t : Nat) : State :=
  { s with time := { s.time with off := Nat.max s.time.off (Nat.min t (cadenceClocks - 1)) } }

/-- A stamp, 2^-24 s, from master clocks since the epoch (R10). -/
def stampOf (mc : Nat) : Nat := roundDiv (128 * mc) 375

/-- The RTC's stamp of the present instant (R10, R461). -/
def State.stamp (s : State) : Nat := stampOf (s.time.cad * cadenceClocks + s.time.off)

/-- The RTC's seconds count. -/
def State.second (s : State) : Nat := s.time.cad / 125

/-- The clock is trusted: no cause in force (R473). -/
def State.trusted (s : State) : Bool := s.time.causes == 0

/-- What region `k` of the flash regions held twice contains has changed: the dry side will write it into the older copy (R485). -/
def State.touch (s : State) (k : Nat) : State := { s with dbl := { s.dbl with due := s.dbl.due ||| (1#3 <<< k) } }

/-- The elapsed master clocks of `n` seconds. -/
def seconds (n : Nat) : Nat := n * (125 * cadenceClocks)

/-! ## Memory -/

/-- The byte at an address. -/
def Mem.read : Mem → Nat → Byte
  | [], _ => 0
  | (k, v) :: m, a => if k = a then v else Mem.read m a

/-- Memory with one byte written; a byte of zero is not listed. -/
def Mem.write : Mem → Nat → Byte → Mem
  | [], a, b => if b = 0 then [] else [(a, b)]
  | (k, v) :: m, a, b =>
    if a < k then (if b = 0 then (k, v) :: m else (a, b) :: (k, v) :: m)
    else if a = k then (if b = 0 then m else (a, b) :: m)
    else (k, v) :: Mem.write m a b

/-- Memory with bytes written from an address on. -/
def Mem.writeAll (m : Mem) : Nat → List Byte → Mem
  | _, [] => m
  | a, b :: bs => Mem.writeAll (Mem.write m a b) (a + 1) bs

/-- The `n` bytes from an address on. -/
def Mem.readAll (m : Mem) (a n : Nat) : List Byte := (List.range n).map fun i => Mem.read m (a + i)

/-- Memory with `n` bytes from an address on cleared to zero. -/
def Mem.clear (m : Mem) (a n : Nat) : Mem := m.filter fun c => c.1 < a || a + n ≤ c.1

/-- Every address of a list lies above `a`, the addresses rise, and no byte is zero. -/
def Mem.wfFrom : Mem → Nat → Bool
  | [], _ => true
  | (k, v) :: m, a => decide (a ≤ k) && v != 0 && Mem.wfFrom m (k + 1)

/-- The canonical form of memory: addresses strictly rising, no byte zero. -/
def Mem.wf (m : Mem) : Bool := m.wfFrom 0

/-! ## Logs (17) -/

/-- The next location of the event log after `pos` that has not failed (R491). -/
def nextLoc (failed : List Nat) (pos : Nat) : Nat :=
  ((List.range 8192).find? fun i => !failed.contains ((pos + i) % 8192)).elim (pos % 8192) fun i => (pos + i) % 8192

/-- The polder's audit log with an entry added: the newest 512 are kept (R393). -/
def Polder.addAudit (p : Polder) (e : AuditEntry) : Polder :=
  { p with audit := keepLast 512 (p.audit ++ [e]), auditNo := p.auditNo + 1 }

/-- A crest-log entry is written; a failed crest log takes none (R492 to R494). Entries 0 to 62 stay, entry 63 holds the
newest. -/
def Logs.addCrest (l : Logs) (e : LogEntry) : Logs :=
  if l.crestFailed then l
  else
    let l := { l with crestSeq := l.crestSeq + 1, compromisedDue := l.compromisedDue || !l.compromised }
    let e := { e with seq := l.crestSeq }
    if l.crest.length < 64 then { l with crest := l.crest ++ [e] }
    else { l with crest := l.crest.take 63 ++ [e], overwrites := l.overwrites + 1 }

/-- Crest classes once the event log has failed (R491): the sources named, meter sources with CODE 1, and guard sources
whose response is close. -/
def crestClass (source code : Nat) (closes : Bool) : Bool :=
  source == 642 || source == 647 || (672 ≤ source && source ≤ 690) || (256 ≤ source && source < 512 && code == 1) || closes

/-! ## Events (14) -/

/-- The polder, of 0 to 15, that satisfies a test; P00 where none does. -/
def holder (s : State) (f : Polder → Bool) : Nat := (firstFrom (fun p => f (s.polder p)) 16 0).getD 0

/-- Sources that `polder.assign` may name directly (R420). -/
def assignable (e : Nat) : Bool :=
  (624 ≤ e && e < 640) || e == 643 || (645 ≤ e && e ≤ 647) || (672 ≤ e && e < 680) || (681 ≤ e && e ≤ 690)

/-- Sources that exist (R420). -/
def sourceExists (e : Nat) : Bool :=
  e < 653 || (672 ≤ e && e ≤ 690) || (704 ≤ e && e < 720)

/-- The owner of an event source (R420). -/
def State.owner (s : State) (e : Nat) : Nat :=
  if e < 128 then holder s fun p => p.tripCh.getLsbD e
  else if e < 256 then holder s fun p => p.pqCh.getLsbD (e - 128)
  else if e < 512 then (s.meter (e - 256)).def_.owner
  else if e < 544 then holder s fun p => p.sluices.getLsbD (e - 512)
  else if e < 576 then holder s fun p => p.sluices.getLsbD (e - 544)
  else if e < 608 then ((s.pq.captures.find (e - 576)).map (·.owner)).getD 0
  else if e < 624 then ((s.pq.streams.find (e - 608)).map (·.owner)).getD 0
  else if assignable e then holder s fun p => p.evt.getLsbD e
  else if 704 ≤ e && e < 720 then e - 704
  else 0

/-- A source that changed owner from `was` to `s` is enabled again, and its status bit is cleared (R421). -/
def ownersPass (was s : State) : State :=
  let moved := (List.range 720).filter fun e => was.owner e != s.owner e
  let keep := ~~~BitVec.ofNat 1024 (maskOf moved)
  { s with evt := { s.evt with disabled := s.evt.disabled &&& keep, pending := s.evt.pending &&& keep } }

/-- The status bit of a source is set, and a port that has read it since learns that it fired again (R421, R427). -/
def State.setBit (s : State) (e : Nat) : State :=
  { s with
    evt := { s.evt with pending := s.evt.pending ||| (1#1024 <<< e) }
    hp := s.hp.map fun (n, p) =>
      (n, match p.lastRead.find (e / 32) with
        | none => p
        | some r => { p with lastRead := p.lastRead.put (e / 32) { r with fired := r.fired ||| (1#32 <<< (e % 32)) } }) }

/-- An entry goes to the queue of polder `p`; a full queue drops its oldest entry (R424). -/
def Polder.enqueue (p : Polder) (e : EventEntry) : Polder :=
  if p.queue.length < 256 then { p with queue := p.queue ++ [e] }
  else { p with queue := p.queue.drop 1 ++ [e], dropped := p.dropped + 1 }

/-- What an enabled source that fires does (R421): a queue entry for its owner and its status bit. -/
def State.post (s : State) (e code : Nat) (data : BitVec 32) (stamp : Nat) : State :=
  if s.evt.disabled.getLsbD e || !sourceExists e then s
  else (s.modPolder (s.owner e) fun p => p.enqueue ⟨stamp, e, code, data⟩).setBit e

/-- The first drop of a queue since its last `event.read` fires EV0704 + p with CODE 1 (R424). -/
def State.overflow (s : State) (p : Nat) : State :=
  let q := s.polder p
  if q.dropped = 0 || q.overflow then s
  else (s.modPolder p fun q => { q with overflow := true }).post (704 + p) 1 (BitVec.ofNat 32 q.dropped) s.stamp

/-! ## Wake reasons (R118 to R120) -/

/-- 200 microseconds in whole master clocks. -/
def collideClocks : Nat := 9830

/-- A wake reason joins the open episode, or opens one (R119, R120): 0 = DEV_WAKE, the others are device reasons in the order of
PWR_WAKE_CAUSE. HOST_WAKE_N stays in kickstand where the dry image has failed its check (R113). -/
def Power.reason (p : Power) (r now : Nat) : Power :=
  let p := if p.episodeOpen then p
    else { p with episodeOpen := true, episode := p.episode + 1, wakeCause := if p.vbatNew then p.wakeCause else 0
                  collided := false, devWakeFirst := none, devWakeAt := none, reasonAt := none
                  vbatLatched := p.vbatNew && p.vbatLatched, vbatNew := false }
  let near (x : Option Nat) : Bool := x.any fun t => now ≤ t + collideClocks
  let first := p.reasonAt.isNone
  let p := { p with wakeCause := p.wakeCause ||| (1#7 <<< r) }
  if r = 0 then
    { p with devWakeFirst := p.devWakeFirst.orElse fun _ => some now, devWakeAt := some now, collided := p.collided || near p.reasonAt }
  else
    { p with
      reasonAt := some now, collided := p.collided || near p.devWakeAt
      hold := p.hold || (first && p.dryOk && (p.devWakeFirst.isNone || near p.devWakeFirst)) }

/-- A reason that occurs in HUSH, or within the episode a HUSH exit opened: the device is back in the state it held (R105, R119). -/
def State.wakeHush (s : State) (r : Nat) : State :=
  if s.pwr.state == .hush then { s with pwr := { s.pwr.reason r s.now with state := s.pwr.held } }
  else if s.pwr.episodeOpen then { s with pwr := s.pwr.reason r s.now }
  else s

/-- An event of polder `p` is delivered to an HP_IRQ_N line that wakes the device from HUSH (R118). -/
def State.irqWakes (s : State) (p : Nat) : Bool :=
  s.evt.enable && (List.range 4).any fun k => s.pwr.wakeCfg.getLsbD k && (Tab.get s.evt.route 0 k).getLsbD p

/-- The IRQ wake reason of an event of polder `p` (R118): it ends HUSH, and joins an episode that is open (R119, log 45). -/
def State.irqWake (s : State) (p : Nat) : State := if s.irqWakes p then s.wakeHush 1 else s

/-- A source fires towards its owner: the entry, the bit, the overflow event its entry may cause, and the wake from HUSH it may be
(R118, R421, R424). -/
def State.signal (s : State) (e code : Nat) (data : BitVec 32) (stamp : Nat) : State :=
  let t := (s.post e code data stamp).overflow (s.owner e)
  if s.evt.disabled.getLsbD e then t else t.irqWake (s.owner e)

/-- LFLAGS of an entry written now (R489). -/
def State.lflags (s : State) (latched unknown : Bool) : BitVec 16 :=
  BitVec.ofNat 16 (bit s.trusted + 2 * bit latched + 4 * bit unknown)

/-- An entry joins the event log, whose newest 8,192 are kept; a failed log takes none (R490, R491). -/
def Logs.addEvent (l : Logs) (n : LogEntry) : Logs :=
  if l.failed then l
  else { l with
    entries := keepLast 8192 (l.entries ++ [{ n with seq := l.seq + 1 }]), seq := l.seq + 1, pos := nextLoc l.failedLocs (l.pos + 1) }

/-- EV0647 tells of the crest log: its firing goes to the event log, or to the audit log alone once that has failed (R491, R509). -/
def State.crestNote (s : State) (code : Nat) (data : BitVec 32) : State :=
  let o := s.owner 647
  let n : LogEntry := { time := s.stamp, owner := o, source := 647, code, lflags := s.lflags false false, data, seq := 0, detail := 0 }
  (({ s with log := s.log.addEvent n } : State).modPolder o fun p => p.addAudit (.entry n)).signal 647 code data s.stamp

/-- A crest entry is written and EV0647 tells of it: CODE 3 with its SEQ, and CODE 5 at the first overwrite of entry 63; these
two firings go to the event log or the audit log, not back into the crest log (R492, R509, log 18). -/
def State.crest (s : State) (e : LogEntry) : State :=
  if s.log.crestFailed then s
  else
    let before := s.log.overwrites
    let s := { s with log := s.log.addCrest e }
    let s := s.crestNote 3 s.log.crestSeq
    if before = 0 && s.log.overwrites = 1 then s.crestNote 5 0 else s

/-- An entry goes to the event log and to the owner's audit log; once the event log has failed it goes to the audit log, and
an entry of a crest class to the crest log (R490, R491). -/
def State.record (s : State) (n : LogEntry) (closes : Bool) : State :=
  let e := if s.log.failed then n else { n with seq := s.log.seq + 1 }
  let t := { s with log := s.log.addEvent n }.modPolder n.owner fun p => p.addAudit (.entry e)
  if s.log.failed && crestClass n.source n.code closes then t.crest n else t

/-- Firings that always go to the event log (R490). -/
def logged (e code : Nat) : Bool := (640 ≤ e && e ≤ 690) || (256 ≤ e && e < 512 && 1 ≤ code && code ≤ 3)

/-- A source fires with a stamp: its log entry where R490 gives it one, then its event (R421). -/
def State.fireFull (s : State) (e code : Nat) (data : BitVec 32) (stamp : Nat) (latched unknown : Bool)
    (detail : BitVec 64) (closes : Bool) : State :=
  let s := if logged e code || closes then
      s.record { time := stamp, owner := s.owner e, source := e, code, lflags := s.lflags latched unknown, data, seq := 0, detail } closes
    else s
  s.signal e code data stamp

/-- A source fires now. -/
def State.fire (s : State) (e code : Nat) (data : BitVec 32) : State := s.fireFull e code data s.stamp false false 0 false

/-- A source fires with the stamp its rule names. -/
def State.fireAt (s : State) (e code : Nat) (data : BitVec 32) (stamp : Nat) : State :=
  s.fireFull e code data stamp false false 0 false

/-! ## Guard sources (17) -/

/-- The factory response of a guard source: none for tamper inputs, record otherwise (R499). -/
def factoryResponse (g : Nat) : GuardResp := { response := if g < 8 then 0 else 1, param := 0 }

/-- The response of guard source `g` (R499). -/
def State.response (s : State) (g : Nat) : GuardResp := s.guard.resp.get (factoryResponse g) g

/-- Guard source `g` is fused off (R502). -/
def State.fused (s : State) (g : Nat) : Bool := g < 19 && s.guard.fuses.getLsbD g

/-- A guard source fires event `e` (R501): none changes nothing here, record writes its entry and fires its event, close does
that and closes the floodgate at the next boundary (R504). -/
def State.guardFire (s : State) (g e code : Nat) (data : BitVec 32) (stamp : Nat) (latched : Bool) : State :=
  if s.fused g then s
  else match (s.response g).response with
    | 0 => s
    | r =>
      let s := s.fireFull e code data stamp latched false 0 (r == 2)
      if r == 2 then { s with guard := { s.guard with due := s.guard.due ++ [g] } } else s

/-! ## Application cores (R19) -/

/-- Firmware retires an active core: it goes at the next restart of the wet image. -/
def Cores.retire (c : Cores) : Option Nat → Cores
  | some n => if c.active.contains n && c.retiring.isNone then { c with retiring := some n } else c
  | none => c

/-- A restart of the wet image brings in the spare for the core that is retiring; without a spare the core stays. -/
def Cores.substitute (c : Cores) : Cores :=
  match c.retiring, c.spare with
  | some n, some k => { active := c.active.map fun i => if i = n then k else i, spare := none, retiring := none, retired := n :: c.retired }
  | _, _ => c

/-! ## Image copies (R340 to R342) -/

/-- The byte of an image region at an offset; an erased byte reads 0xFF (R483). -/
def ImageCopy.byte (c : ImageCopy) (a : Nat) : Byte := (c.granules.get (List.replicate 16 0xFF) (a / 16)).getD (a % 16) 0xFF

/-- Bytes of an image region. -/
def ImageCopy.read (c : ImageCopy) (a n : Nat) : List Byte := (List.range n).map fun i => c.byte (a + i)

/-- VERSION and SEC_VERSION of an image package (R342). -/
def ImageCopy.version (c : ImageCopy) : BitVec 32 := BitVec.ofNat 32 (ofLE (c.read 8 4))
/-- SEC_VERSION. -/
def ImageCopy.security (c : ImageCopy) : BitVec 32 := BitVec.ofNat 32 (ofLE (c.read 12 4))

/-- A wet copy: A (false) or B (true). -/
def Flash.wet (f : Flash) (copy : Bool) : ImageCopy := if copy then f.wetB else f.wetA

/-- The wet copy that runs changes, and with it the running versions, where it is another one. -/
def runWet (copy : Bool) (s : State) : State :=
  if s.pwr.wetActive == copy then s
  else
    { s with
      pwr := { s.pwr with wetActive := copy }
      flash := { s.flash with wetVer := (s.flash.wet copy).version, wetSec := (s.flash.wet copy).security } }

end Sys2Proof.Machine
end

