-- ==== Sys2Proof/Machine/Sluices.lean ====
section
/-! DEFINITION. Sluices: windows, tickets, completions, envelopes and epochs (12, 11). -/
namespace Sys2Proof.Machine

/-! ## Status codes (R375) -/

/-- ST_OK. -/
def stOk : Nat := 0x0000
/-- ST_STAGED. -/
def stStaged : Nat := 0x0001
/-- ST_ALREADY_DONE. -/
def stAlreadyDone : Nat := 0x0002
/-- ST_BAD_OPCODE. -/
def stBadOpcode : Nat := 0x0100
/-- ST_BAD_LENGTH. -/
def stBadLength : Nat := 0x0101
/-- ST_BAD_ARGUMENT. -/
def stBadArgument : Nat := 0x0102
/-- ST_REFUSED. -/
def stRefused : Nat := 0x0200
/-- ST_BUSY_RETRY. -/
def stBusyRetry : Nat := 0x0300
/-- ST_ABANDONED. -/
def stAbandoned : Nat := 0x0400
/-- ST_NOT_ERASED. -/
def stNotErased : Nat := 0x0500
/-- ST_SEAL_CLOSED. -/
def stSealClosed : Nat := 0x0501
/-- ST_STALE_STATE. -/
def stStaleState : Nat := 0x0600
/-- ST_GROUP_ABORTED. -/
def stGroupAborted : Nat := 0x0700
/-- ST_FLOODGATE. -/
def stFloodgate : Nat := 0x0800

/-! ## Windows -/

/-- Aperture address of the window of sluice `n` (R34, R346). -/
def windowBase (n : Nat) : Nat := 0x01000000 + n * 0x10000

/-- The polder that holds sluice `n` (R326). -/
def State.sluiceHolder (s : State) (n : Nat) : Nat := holder s fun p => p.sluices.getLsbD n

/-- Tickets that sluice `n` holds (R357). -/
def State.heldBy (s : State) (n : Nat) : List Held := s.out.held.filter fun h => h.sluice == n

/-- Tickets held by every sluice of polder `p` (R357). -/
def State.heldOf (s : State) (p : Nat) : Nat := (s.out.held.filter fun h => h.polder == p).length

/-- Pool tickets in use: those with handles from 8 on (R357). -/
def State.poolUsed (s : State) : Nat := (s.out.held.filter fun h => 8 ≤ h.handle).length

/-- The handle that a command taken on sluice `n` gets: a reserved ticket, else a pool ticket under the polder's quota, else
none (R357). -/
def State.allocate (s : State) (n : Nat) : Option Nat :=
  let used := (s.heldBy n).map (·.handle)
  let free := fun i => !used.contains i
  let p := s.sluiceHolder n
  match firstFrom free 8 0 with
  | some i => some i
  | none =>
    if used.length < 256 && s.heldOf p < (s.polder p).tickets && s.poolUsed < 768 then firstFrom free 248 8 else none

/-! ## Envelopes of completions (R332, R333) -/

/-- The envelope of a completion's result (R332): header, ciphertext and tag of the inner result under the session key, and
for DRY the authority tag. -/
def sealResult (dry key256 : Bool) (polder : Nat) (keyGen : BitVec 32) (sess auth : BitVec 256) (nonce : BitVec 32)
    (status : Nat) (result : List Byte) : List Byte :=
  let inner := leBytes 2 status ++ zeros 2 ++ result
  let aad := [1, BitVec.ofNat 8 (bit dry + 2 * bit key256), BitVec.ofNat 8 polder, 0] ++ leBytes 4 keyGen.toNat
    ++ leBytes 4 nonce.toNat ++ leBytes 2 inner.length ++ zeros 2
  let iv := [BitVec.ofNat 8 polder, 1] ++ leBytes 4 keyGen.toNat ++ leBytes 4 nonce.toNat ++ zeros 3
  let body := aad ++ slice (Config.ccmSeal sess key256 iv aad inner) 0 (inner.length + 16)
  if dry then body ++ slice (Config.cmac auth body) 0 16 else body

/-- Statuses posted in clear even for a sealed command (R333, R375). -/
def postedClear (status : Nat) : Bool := status == stRefused || status == stAbandoned

/-- The completion of command `h` with a status and result: sealed commands carry both inside the envelope of the keys in
force at their doorbell, and ST_OK in clear (R331 to R333, R354). -/
def completionOf (h : Held) (status : Nat) (final : Bool) (result : List Byte) : Completion :=
  let base : Completion := {
    sluice := h.sluice, ticket := h.handle, cindex := h.cindex, nonce := h.nonce, tag := h.tag,
    status, final, sealed := false, roff := h.roff, result, order := some h.order }
  match h.env with
  | .clear => base
  | .sealed dry key256 polder keyGen sess auth =>
    if postedClear status then base
    else { base with status := 0, sealed := true,
                     result := sealResult dry key256 polder keyGen sess auth h.nonce status result }

/-! ## Posting (R354, R355) -/

/-- CSEQ of completion `c` of an epoch, counted from 1 (R355). -/
def cseqOf (c : Nat) : Nat := (c - 1) % (2 ^ 32 - 1) + 1

/-- The ring has a free slot for the next completion: c - 1 - CONS is below 256, modulo 2^16 (R355). -/
def Sluice.room (x : Sluice) : Bool := (BitVec.ofNat 16 x.posts - x.cons).toNat < 256

/-- The 64 bytes of completion `c` (R354). -/
def completionBytes (k : Completion) (c : Nat) : List Byte :=
  let bulk := 40 < k.result.length
  leBytes 4 (cseqOf c) ++ leBytes 2 k.status ++ leBytes 2 k.ticket ++ leBytes 4 k.nonce.toNat ++ leBytes 4 k.tag.toNat
    ++ leBytes 2 k.cindex ++ leBytes 2 (bit k.final + 2 * bit bulk + 4 * bit k.sealed) ++ leBytes 2 k.result.length ++ zeros 2
    ++ (if bulk then zeros 40 else slice k.result 0 40)

/-- The completion is written: bulk result, body and CSEQ in the window, then POSTED, the event, and the ticket's release
(R355, R357, R373). -/
def State.writeCompletion (s : State) (k : Completion) : State :=
  let x := s.sluice k.sluice
  let c := x.posts + 1
  let base := windowBase k.sluice
  let mem := if 40 < k.result.length then s.mem.writeAll (base + 0x8000 + k.roff) k.result else s.mem
  let mem := mem.writeAll (base + 0x4000 + 64 * ((c - 1) % 256)) (completionBytes k c)
  let s := { s with mem := mem }
  let s := s.modSluice k.sluice fun x => { x with posts := c, posted := x.posted + 1 }
  let s := if k.final then
      { s with out := { s.out with held := s.out.held.filter fun h => some h.order != k.order } }
    else s
  s.signal (512 + k.sluice) 1 ((s.sluice k.sluice).posted.setWidth 32) s.stamp

/-- A completion falls due: it is posted, or waits behind those that wait for a free slot (R355); where a final one falls due, the
command's interim completion that still waits is not posted any more (R363). -/
def State.postCompletion (s : State) (k : Completion) : State :=
  let s := if k.final then s.modSluice k.sluice fun x => { x with waiting := x.waiting.filter fun w => w.final || w.order != k.order } else s
  let x := s.sluice k.sluice
  if x.waiting.isEmpty && x.room then s.writeCompletion k
  else s.modSluice k.sluice fun x => { x with waiting := x.waiting ++ [k] }

/-- The oldest completion that waits on sluice `n` is posted once a slot is free; true where one was. -/
def State.postWaiting (s : State) (n : Nat) : State :=
  let x := s.sluice n
  match x.waiting with
  | [] => s
  | k :: rest => if x.room then (s.modSluice n fun x => { x with waiting := rest }).writeCompletion k else s

/-- Port `n` carries polder `p` (R408). -/
def State.permit (s : State) (n p : Nat) : State :=
  s.modPort n fun q => { q with perm := q.perm ||| (1#16 <<< p) }

/-- Polder `p` is carried by no port any more (R408). -/
def State.unpermit (s : State) (p : Nat) : State :=
  (s.modPort 0 fun q => { q with perm := q.perm &&& ~~~(1#16 <<< p) }).modPort 1
    fun q => { q with perm := q.perm &&& ~~~(1#16 <<< p) }

/-- The command `h` ends with a status and result; a command that ends in ST_OK lets its port carry its polder, sealed where
REQ_ENV asks for it, but for `polder.rekey` (R408). -/
def State.finish (s : State) (h : Held) (status : Nat) (result : List Byte) (rekey : Bool) : State :=
  let s := s.postCompletion (completionOf h status true result)
  if status = stOk && !rekey && (!(s.polder h.polder).options.getLsbD 0 || h.env != .clear)
  then s.permit h.port h.polder else s

/-- A nonce enters the journal of polder `p`; zero enters none (R360). -/
def State.journal (s : State) (p : Nat) (nonce : BitVec 32) : State :=
  if nonce = 0 then s
  else s.modPolder p fun q => { q with journal := keepLast 1024 (q.journal ++ [nonce]) }

/-! ## Refusals (R335 to R337) -/

/-- The audit entry of a refusal; codes 0x02 to 0x05 on one sluice within one RTC second share one entry and its count
(R337). -/
def addRefusal (log : List AuditEntry) (time reason sluice : Nat) : Option (List AuditEntry) :=
  if reason < 2 || 5 < reason then none
  else
    let rec merge : List AuditEntry → Option (List AuditEntry)
      | [] => none
      | .refusal t r sl op tk n c :: rest =>
        if sl = sluice && 2 ≤ r && r ≤ 5 && t / 2 ^ 24 = time / 2 ^ 24 then some (.refusal t r sl op tk n (c + 1) :: rest)
        else (merge rest).map (.refusal t r sl op tk n c :: ·)
      | e :: rest => (merge rest).map (e :: ·)
    merge log

/-- The refusal is written to the requesting polder's audit log and counted (R336, R337). -/
def State.auditRefusal (s : State) (h : Held) (reason opcode : Nat) : State :=
  s.modPolder h.polder fun p =>
    let p := { p with refusals := p.refusals + 1 }
    match addRefusal p.audit s.stamp reason h.sluice with
    | some l => { p with audit := l }
    | none => p.addAudit (.refusal s.stamp reason h.sluice opcode h.handle h.nonce 1)

/-- 256 microseconds in master clocks (R336): 12,582.912, taken to the next clock. -/
def refusalClocks : Nat := 12583

/-! ## Faults and epochs (R347, R369 to R371) -/

/-- The outstanding commands that satisfy a test are discarded: their staging, refusals and readings with them. -/
def State.drop (s : State) (f : Held → Bool) : State :=
  { s with
    out := { s.out with
      held := s.out.held.filter fun h => !f h
      staged := s.out.staged.filter fun g => !f g.held
      refusals := s.out.refusals.filter fun r => !f r.held }
    sign := {
      queue := s.sign.queue.filter fun r => !f r.held
      busy := s.sign.busy.bind fun b => if f b.held then none else some b }
    plc := { s.plc with
      awaiting := s.plc.awaiting.filter fun a => !(s.out.held.any fun h => h.order == a.order && f h) }
    tdm := { s.tdm with waiting := s.tdm.waiting.filter fun w => !f w.1 } }

/-- A fault discards the outstanding commands that satisfy a test; where sluice memory is kept each gets ST_ABANDONED in clear, in
the order taken, unless its final completion already waits to be posted (R370). -/
def State.abandon (s : State) (f : Held → Bool) : State :=
  let waits (h : Held) : Bool := (s.sluice h.sluice).waiting.any fun k => k.final && k.order == some h.order
  let g := fun h => f h && !waits h
  let gone := s.out.held.filter g
  let t := s.drop g
  let t := { t with out := { t.out with held := s.out.held } }
  gone.foldl (fun s h => s.postCompletion (completionOf { h with env := .clear } stAbandoned true [])) t

/-- The sluice's memory is lost or it changes holder: the epoch advances, the window is cleared, the counts restart and its
tickets are gone (R347). -/
def State.newEpoch (s : State) (n : Nat) : State :=
  let s := s.drop fun h => h.sluice == n
  let s := s.modSluice n fun x => { Sluice.reset with epoch := x.epoch + 1 }
  { s with mem := s.mem.clear (windowBase n) 0x10000 }

/-- A sluice's memory is lost by a fault: a new epoch, and the epoch event (R371). -/
def State.loseSluice (s : State) (n : Nat) : State :=
  let s := s.newEpoch n
  s.signal (544 + n) 1 ((s.sluice n).epoch.setWidth 32) s.stamp

/-- A function over the numbers from 0 below `n`, in ascending order. -/
def overTo {α : Type} (n : Nat) (f : α → Nat → α) (x : α) : α := (List.range n).foldl f x

end Sys2Proof.Machine
end

