-- ==== Sys2Proof/Machine/Operands.lean ====
section
/-! DEFINITION. Number formats of operands and results: IEEE 754 words, rounding to a field, and which slice, wheel, slot
and domain a number names. -/
namespace Sys2Proof.Machine

/-- Two to an integer power. -/
def pow2 (e : Int) : Rat := if 0 ≤ e then ((2 ^ e.toNat : Nat) : Rat) else 1 / ((2 ^ (-e).toNat : Nat) : Rat)

/-- The value of a binary floating-point word of `ew` exponent bits and `mw` mantissa bits: none for an infinity or no
number (R8). -/
def ieeeVal (ew mw v : Nat) : Option Rat :=
  let m := v % 2 ^ mw
  let e := v / 2 ^ mw % 2 ^ ew
  let sign : Rat := if v / 2 ^ (mw + ew) % 2 = 1 then -1 else 1
  let bias : Int := 2 ^ (ew - 1) - 1
  if e = 2 ^ ew - 1 then none
  else if e = 0 then some (sign * (m : Rat) * pow2 (1 - bias - mw))
  else some (sign * ((2 ^ mw + m : Nat) : Rat) * pow2 ((e : Int) - bias - mw))

/-- The value of a float32. -/
def f32Val (v : BitVec 32) : Option Rat := ieeeVal 8 23 v.toNat

/-- The value of a float64. -/
def f64Val (v : BitVec 64) : Option Rat := ieeeVal 11 52 v.toNat

/-- The largest natural number whose square is at most `n`. -/
def isqrt (n : Nat) : Nat :=
  (List.range (n.log2 / 2 + 1)).foldr (fun b r => if (r + 2 ^ b) * (r + 2 ^ b) ≤ n then r + 2 ^ b else r) 0

/-- A non-negative number rounded to an integer: a number between two integers goes to either, as the device chooses for the
field numbered `f` (log 16). -/
def roundField (f : Nat) (x : Rat) : Nat :=
  let n := x.floor.toNat
  if (n : Rat) = x then n else if Config.roundUp f n then n + 1 else n

/-- A number of either sign rounded to an integer. -/
def roundSigned (f : Nat) (x : Rat) : Int :=
  if x < 0 then -(roundField f (-x) : Int) else (roundField f x : Int)

/-- The square root of a non-negative rational number rounded to an integer. -/
def rootField (f : Nat) (x : Rat) : Nat :=
  let n := isqrt x.floor.toNat
  if ((n * n : Nat) : Rat) = x then n else if Config.roundUp f n then n + 1 else n

/-- A natural number limited to `n` bits. -/
def satu (n v : Nat) : Nat := Nat.min v (2 ^ n - 1)

/-- An integer limited to a signed field of `n` bits. -/
def sats (n : Nat) (v : Int) : Int := max (-(2 ^ (n - 1) : Nat)) (min v ((2 ^ (n - 1) : Nat) - 1))

/-! ## Numbers of things -/

/-- The wheel of channel `c` and its spoke (R128): channel 8 w + k is spoke k of wheel w. -/
def wheelOf (c : Nat) : Nat := c / 8
/-- The spoke of channel `c`. -/
def spokeOf (c : Nat) : Nat := c % 8

/-- The power domain of wheel `w` (R94). -/
def wheelDom (w : Nat) : Nat := 17 + w

end Sys2Proof.Machine
end

