-- ==== Sys2Proof/Machine/Flags.lean ====
section
/-! DEFINITION. Flag words: the FLAGS of a result record, the sticky bits that they raise, and FORMAT bits. -/
namespace Sys2Proof.Machine

/-- Flag bits of a result record (R216). -/
def flagsOf (l : List (Nat × Bool)) : BitVec 32 := BitVec.ofNat 32 (maskOf ((l.filter (·.2)).map (·.1)))

/-- One sticky bit. -/
def stickyBit (n : Nat) : BitVec 16 := 1#16 <<< n

/-- The sticky bits that a cadence's FLAGS raise (R315): GAP, and [16] to [18] and [26] to [29]. -/
def stickyOf (flags : BitVec 32) : BitVec 16 :=
  BitVec.ofNat 16 (maskOf (([(5, 0), (4, 1), (2, 2), (3, 3), (15, 10), (0, 11), (7, 12), (8, 13)].filter
    fun (f, _) => flags.getLsbD f).map (·.2)))

/-- FORMAT bits: packed, and fast. -/
def fmtPacked (f : Nat) : Bool := f.testBit 0
/-- The fast rate. -/
def fmtFast (f : Nat) : Bool := f.testBit 1

end Sys2Proof.Machine
end

