-- ==== Sys2Proof/Machine/Samples.lean ====
section
/-! DEFINITION. The sample copy of the wet side (R29): what it holds of a channel, its mean square and flags over an interval, its
spectrum, and the blocks and rows that captures and streams carry (08). -/
namespace Sys2Proof.Machine

/-! ## Stamps and interpolators -/

/-- Full scale of a gear at the fine convention (R165). -/
def gearFull (climb : Bool) : Rat := if climb then ((2 ^ 43 : Nat) : Rat) else ((2 ^ 47 : Nat) : Rat)

/-- The exported stamp of fine index `j` at position `k` of cadence number `cad` (R170). -/
def fineStamp (cad j k : Nat) : Nat := roundDiv (128 * (3 * (cad * cadenceClocks + 3072 * j) + 1024 * k)) 1125

/-- The response of taps 2^-22 of an interpolator at `hz` Hz, relative to the ideal delay of `f` / 65,536 of a sample beyond its tap `mid`: real
and imaginary part. -/
def tapResponse (mid : Nat) (taps : List Int) (f hz : Nat) : Rat × Rat :=
  let turn (i : Nat) : Rat := ((i : Rat) - (mid : Rat) - (f : Rat) / 65536) * (hz : Rat) / 16000
  let part (g : Rat → Rat) : Rat := sumRat (taps.zipIdx.map fun (c, i) => (c : Rat) * g (turn i)) / ((2 ^ 22 : Nat) : Rat)
  (part cosTurns, part sinTurns)

/-- Tap `i` of an even bank of interpolators at the fraction `f` / 65,536, 2^-22, from the polynomials 2^-30 of its first half in the fraction less
one half; the second half mirrors the first. -/
def tapPoly (polys : List (List Int)) (f i : Nat) : Int :=
  let half := polys.length
  let u : Rat := (f : Rat) / 65536 - 1 / 2
  let (row, x) := if i < half then (i, u) else (2 * half - 1 - i, -u)
  roundEven ((polys.getD row []).foldr (fun (c : Int) (acc : Rat) => (c : Rat) + x * acc) 0 / 256)

/-! ## The sample copy -/

/-- Cadences that the sample copy holds: 512 ms, more than the longest window and its lateness (R231, R233, R61). -/
def copyKept : Nat := 64

/-- The end of what the sample copy holds, in fine samples since reset: the closing boundary of its newest cadence. -/
def State.copyEnd (s : State) : Nat :=
  match s.pq.copy with
  | (o, _) :: _ => (o + 1) * 128
  | [] => 0

/-- The number of the cadence that opened at boundary `o`: as the copy has it, else counted from the open one (R21). -/
def State.cadenceAt (s : State) (o : Nat) : Nat :=
  match s.pq.copy.find? fun e => e.1 == o with
  | some e => e.2
  | none => ((s.time.cad : Int) + (o : Int) - (s.time.bnd : Int)).toNat

/-- The exported stamp of an instant in fine samples since reset (R170). -/
def State.instant (s : State) (t : Rat) : Instant :=
  let o := (t / 128).floor.toNat
  let u : Rat := t + 128 * ((s.cadenceAt o : Rat) - (o : Rat))
  { t, stamp := (roundRat (u * 1048576 / 1000)).toNat }

/-- The present instant in fine samples since reset. -/
def State.fineNow (s : State) : Rat := (s.now : Rat) / 3072

/-- What the copy holds of channel `c` for the cadence that opened at boundary `o`: the look-ahead after the newest, and nothing where no
slice was ON. -/
def State.waveAt (s : State) (c o : Nat) : Wave :=
  let ch := s.channel c
  match ch.past.find? fun w => w.at_ == o with
  | some w => w
  | none =>
    if s.copyEnd = o * 128 then { at_ := o, pos := ch.aheadPos, fine := ch.ahead, fast := [], al := [] }
    else { at_ := o, pos := c % 8, fine := [], fast := [], al := [] }

/-- Fine sample `j` of a cadence, LOST where it is not held. -/
def Wave.at (w : Wave) (j : Nat) : Fine := w.fine.getD j Fine.missing

/-- The instant of fine sample `j` (R170). -/
def Wave.instant (w : Wave) (j : Nat) : Rat := ((w.at_ * 128 + j : Nat) : Rat) + (w.pos : Rat) / 9

/-- The samples of channel `c` whose intervals meet [a, b), each with the part of its interval inside, in samples (R179). -/
def State.partsIn (s : State) (c : Nat) (a b : Rat) : List (Rat × Fine) :=
  let first := ((a - 2) / 128).floor.toNat
  let last := ((b + 1) / 128).floor.toNat
  (List.range (last + 1 - first)).flatMap fun i =>
    let w := s.waveAt c (first + i)
    (List.range 128).filterMap fun j =>
      let t := w.instant j
      let len := minRat (t + 1 / 2) b - maxRat (t - 1 / 2) a
      if 0 < len then some (len, w.at j) else none

/-- Volts or amperes of one fine LSB of channel `c` (R195). -/
def State.unitOf (s : State) (c : Nat) : Rat := (f32Val (s.channel c).scale).getD 0 / ((2 ^ 47 : Nat) : Rat)

/-- The weighted mean square of channel `c` over samples, in volts or amperes squared (R179, R231). -/
def State.meanSquare (s : State) (c : Nat) (l : List (Rat × Fine)) : Rat :=
  let n := sumRat (l.map (·.1))
  if n = 0 then 0
  else sumRat (l.map fun p => p.1 * ((p.2.x * p.2.x : Int) : Rat)) / n * (s.unitOf c * s.unitOf c)

/-- The PQFLAGS that samples give: LOST, BRIDGED, OVER, SUSPECT, JOCKEY, RELIEF (R250). -/
def sampleFlags (l : List (Rat × Fine)) : BitVec 32 :=
  let any (f : Fine → Bool) (n : Nat) : Nat := if l.any fun p => f p.2 then 2 ^ n else 0
  BitVec.ofNat 32 (any (·.lost) 0 + any (·.bridged) 1 + any (·.overload) 2 + any (·.suspect) 3 + any (·.jockey) 12 + any (·.relief) 13)

/-! ## Zero crossings (R231) -/

/-- One sample of a reference, valid or not, at instant `t`: the search after it, and the crossing it completes: its instant and whether it
is positive-going (R179, R231). A gap in the samples breaks the sequence. -/
def Edges.next (e : Edges) (t : Rat) (f : Fine) : Edges × Option (Rat × Bool) :=
  if f.lost then ({ upto := t, prev := none, low := false, high := false, crossings := [] }, none)
  else
    let e := if t - e.upto < 2 then e else { e with prev := none, low := false, high := false, crossings := [] }
    let v : Rat := (f.x : Rat)
    let bound := gearFull f.climb / 200
    let low := e.low || v < -bound
    let high := e.high || bound < v
    let moved : Edges := { e with upto := t, prev := some v }
    match e.prev with
    | some u =>
      let x := e.upto + (t - e.upto) * (-u) / (v - u)
      if u < 0 && 0 ≤ v && low then ({ moved with low := false, high := decide (bound < v) }, some (x, true))
      else if 0 < u && v ≤ 0 && high then ({ moved with low := decide (v < -bound), high := false }, some (x, false))
      else ({ moved with low, high }, none)
    | none => ({ moved with low, high }, none)

/-- The search over samples up to the first crossing. -/
def Edges.scan (e : Edges) : List (Rat × Fine) → Edges × Option (Rat × Bool)
  | [] => (e, none)
  | (t, f) :: rest =>
    match e.next t f with
    | (e, some x) => (e, some x)
    | (e, none) => e.scan rest

/-- The samples of channel `c` that the copy holds after the instant `t`, oldest first, and the first of its look-ahead. -/
def State.samplesAfter (s : State) (c : Nat) (t : Rat) : List (Rat × Fine) :=
  let of (w : Wave) (n : Nat) : List (Rat × Fine) := (List.range n).map fun j => (w.instant j, w.at j)
  let held := s.pq.copy.reverse.flatMap fun e => of (s.waveAt c e.1) 128
  let next := match s.pq.copy with
    | (o, _) :: _ => of (s.waveAt c (o + 1)) 1
    | [] => []
  (held ++ next).filter fun p => t < p.1

/-! ## Resampling and spectrum (R236) -/

/-- Taps keep R236 at every 100 Hz: gain within 0.05 % from 0 to 4.0 kHz. -/
def resampleOk (f : Nat) (taps : List Int) : Bool :=
  (List.range 41).all fun i =>
    let (re, im) := tapResponse 7 taps f (100 * i)
    absRat (sqrtRat (re * re + im * im) - 1) * 2000 ≤ 1

/-- A bank of 16 taps within R236 (log 17). -/
def resamplePolys : List (List Int) :=
  [[-184937, -252330, 898133, 227610, -612065, -39792], [1301529, 1356094, -6293698, -984436, 4257582, 30417],
   [-5236398, -4063101, 25226273, 1710380, -16895611, 847582], [15632782, 8305951, -74977500, 1854380, 49400705, -5696051],
   [-38699674, -10995819, 184300558, -24886478, -117543042, 23521924], [86146857, -72247, -403777326, 118094501, 236380440, -78470396],
   [-193398138, 83183733, 852916974, -510681612, -317111327, 189434536],
   [671306725, -1289998533, -578282593, 1089808993, 162115770, -298507548]]

/-- The taps of the interpolator at the fraction `f` / 65,536 of a sample: those in ROM, which keep R236 (log 17). -/
def resampleTaps (f : Nat) : List Int :=
  let rom := (List.range 16).map (Config.resampleTap f)
  if resampleOk f rom then rom else (List.range 16).map (tapPoly resamplePolys f)

/-- The value of channel `c` at the instant `t`, fine LSB: 16 samples around it through the interpolator, whose fraction is resolved to 2^-16 of
a sample (DESIGN CHOICE, log 121; R236). -/
def State.pointAt (s : State) (c : Nat) (t : Rat) : Rat :=
  let u := t - ((s.waveAt c (t / 128).floor.toNat).pos : Rat) / 9
  let i := u.floor
  let x (k : Int) : Rat := (((s.waveAt c (k / 128).toNat).at (k % 128).toNat).x : Rat)
  sumRat ((resampleTaps ((u - i) * 65536).floor.toNat).zipIdx.map fun (h, n) => (h : Rat) * x (i - 7 + (n : Int))) / ((2 ^ 22 : Nat) : Rat)

/-- N, the points of a window (R236). -/
def pointCount : Nat := 4096

/-- A window of channel `c` resampled to N points, in volts or amperes (R236). -/
def State.resampled (s : State) (c : Nat) (a b : Rat) : List Rat :=
  (List.range pointCount).map fun (n : Nat) => s.pointAt c (a + (b - a) * (n : Rat) / (pointCount : Rat)) * s.unitOf c

/-- The sum of points turned back by bin `k`: real and imaginary part. -/
def dftBin (xs : List Rat) (k : Nat) : Rat × Rat :=
  let part (g : Rat → Rat) : Rat := sumRat (xs.zipIdx.map fun (x, n) => x * g (((k * n % pointCount : Nat) : Rat) / (pointCount : Rat)))
  (part cosTurns, -part sinTurns)

/-- The squares of Y_0 to Y_(n-1) (R236). -/
def spectrum (xs : List Rat) (n : Nat) : List Rat :=
  (List.range n).map fun k =>
    let (re, im) := dftBin xs k
    (if k = 0 then 1 else 2) * (re * re + im * im) / ((pointCount * pointCount : Nat) : Rat)

/-! ## Blocks and rows (R257) -/

/-- Rows of a cadence, and master clocks of a row. -/
def cadenceRows (format : Nat) : Nat := if fmtFast format then 192 else 8
/-- Master clocks of a row: 1 ms, or 1/24 ms. -/
def rowClocks (format : Nat) : Nat := cadenceClocks / cadenceRows format

/-- A set bit of a mask for each of 16 samples that a test picks. -/
def maskOf16 (f : Nat → Bool) : BitVec 16 := BitVec.ofNat 16 (((List.range 16).map fun i => if f i then 2 ^ i else 0).sum)

/-- The block of channel `c` in row `n`; `shed`: shedding level 1 is in force (R57, R257). -/
def State.blockAt (s : State) (shed : Bool) (format c n : Nat) : Block :=
  let o := n / cadenceRows format
  let j := n % cadenceRows format * 16
  let w := s.waveAt c o
  let cad := s.cadenceAt o
  let marks (any : Nat → Nat) : BitVec 16 := BitVec.ofNat 16 (((List.range 8).map any).sum + (if shed && fmtPacked format then 256 else 0))
  if fmtFast format then
    let x (i : Nat) : Fast := w.fast.getD (j + i) Fast.missing
    let all := (List.range 16).map x
    { stamp := stampOf (cad * cadenceClocks + 128 * j), channel := c, samples := all.map fun f => f.v.floor
      bflags := marks fun b => bit (all.any fun f =>
        [f.climb, f.overload, false, f.lost, f.jockey, f.suspect, f.relief, f.shifting].getD b false) * 2 ^ b
      lostMask := maskOf16 fun i => (x i).lost }
  else
    let all := (List.range 16).map fun i => w.at (j + i)
    { stamp := fineStamp cad j w.pos, channel := c, samples := all.map (·.x)
      bflags := marks fun b => bit (all.any fun f =>
        [f.climb, f.overload, f.bridged, f.lost, f.jockey, f.suspect, f.relief, false].getD b false) * 2 ^ b
      lostMask := maskOf16 fun i => (w.at (j + i)).lost }

/-- Row `n` of channels, in ascending order (R257). -/
def State.rowAt (s : State) (format : Nat) (channels : List Nat) (n : Nat) : Row :=
  let blocks := ((channels.filter (· < 128)).mergeSort fun a b => decide (a ≤ b)).map fun c => s.blockAt (1 ≤ s.fab.shed) format c n
  { index := n, stamp := (blocks.head?.map (·.stamp)).getD 0, blocks }

end Sys2Proof.Machine
end

