-- ==== Sys2Proof/Machine/Capture.lean ====
section
/-! DEFINITION. Captures, their triggers and segments, blocks and rows, and streams with the spillway (08). -/
namespace Sys2Proof.Machine

/-! ## Blocks and rows (R257, R258) -/

/-- BFLAGS SHED: the block was written full because of shedding (R57). -/
def Block.shed (b : Block) : Bool := b.bflags.getLsbD 8

/-- The nearest integer to x / 2^k, ties to even. -/
def shiftEven (x : Int) (k : Nat) : Int :=
  let d : Int := (2 ^ k : Nat)
  let q := x / d
  let r := x % d
  if 2 * r < d then q else if 2 * r > d then q + 1 else if q % 2 = 0 then q else q + 1

/-- The shared exponent of a packed block (R258). -/
def packExp (xs : List Int) : Nat :=
  ((List.range 16).find? fun e => xs.all fun x =>
    let m := shiftEven x (e + 9)
    decide (-(2 ^ 23 : Nat) ≤ m) && decide (m ≤ (2 ^ 23 : Nat) - 1)).getD 15

/-- The bytes of a block (R257, R258); `format`: of the capture or stream. A packed block is written full under shedding. -/
def Block.bytes (b : Block) (format : Nat) : List Byte :=
  let packed := fmtPacked format && !b.shed
  let lost (i : Nat) : Bool := b.lostMask.getLsbD i
  let xs := (List.range 16).map fun i => if lost i then 0 else b.samples.getD i 0
  let e := if packed then packExp xs else 0
  let head := leBytes 8 b.stamp ++ leBytes 1 b.channel ++ leBytes 1 (bit packed + 2 * bit (fmtFast format)) ++ leBytes 1 e ++ zeros 1
    ++ leBytes 2 b.bflags.toNat ++ leBytes 2 b.lostMask.toNat
  if packed then head ++ xs.flatMap fun x => leBytesInt 3 (max (-(2 ^ 23 : Nat)) (min (shiftEven x (e + 9)) ((2 ^ 23 : Nat) - 1)))
  else head ++ ((List.range 16).flatMap fun i => leBytesInt 8 (b.samples.getD i 0))

/-- Bytes of a block of a format. -/
def blockSize (format : Nat) : Nat := if fmtPacked format then 64 else 144

/-- Rows a segment keeps: pre + post + 100 ms of 1 ms rows, or of rows of 1/24 ms (R253, R257). -/
def capRows (c : PqSetCapture) : Nat := (c.preMs + c.postMs + 100) * (if fmtFast c.format then 24 else 1)

/-- Bytes of a segment's data area and of the segment (R253). -/
def capDataSize (c : PqSetCapture) : Nat := capRows c * c.nchan * blockSize c.format
/-- A segment's size in whole 4 KiB. -/
def capSegSize (c : PqSetCapture) : Nat := (256 + capDataSize c + 4095) / 4096 * 4096

/-- 16 bytes that stand for a pad (R257). -/
def padHeader : List Byte := zeros 8 ++ [0xFF] ++ zeros 7

/-- Writing rows circularly: the offset of the next block, the rows still whole, oldest first, and the bytes written. -/
structure RowRing where
  pos : Nat
  kept : List Laid
  mem : Mem

/-- A row's part overlaps [o, o + n). -/
def Laid.hit (l : Laid) (o n : Nat) : Bool := l.parts.any fun (a, k) => a < o + n && o < a + k

/-- One block at the next offset of an area of `size` bytes at `base`; a pad stands where it does not fit (R257). -/
def RowRing.block (base size : Nat) (w : Row) (r : RowRing) (b : Block) (bs : List Byte) : RowRing :=
  let wrap := size < r.pos + bs.length
  let mem := if wrap && r.pos < size then r.mem.writeAll (base + r.pos) padHeader else r.mem
  let o := if wrap then 0 else r.pos
  let older := (if wrap then r.kept.filter fun l => l.index == w.index || !l.hit r.pos (size - r.pos) else r.kept).filter fun l =>
    l.index == w.index || !l.hit o bs.length
  let lost := b.lostMask != 0
  let first : Laid := { index := w.index, stamp := w.stamp, parts := [(o, bs.length)], lost, shed := b.shed }
  let kept := match older.reverse with
    | l :: rest =>
      if l.index == w.index then
        rest.reverse ++ [{ l with parts := l.parts ++ [(o, bs.length)], lost := l.lost || lost, shed := l.shed || b.shed }]
      else older ++ [first]
    | [] => [first]
  { pos := o + bs.length, kept, mem := mem.writeAll (base + o) bs }

/-- A row, block by block in ascending channel order (R257); at most `rows` rows are kept (R256). -/
def RowRing.row (base size rows format : Nat) (r : RowRing) (w : Row) : RowRing :=
  let r := w.blocks.foldl (fun r b => r.block base size w b (b.bytes format)) r
  { r with kept := keepLast rows r.kept }

/-! ## Segments (R255, R256, R259) -/

/-- STATE codes of R259. -/
def SegState.code : SegState → Nat
  | .free => 0
  | .armed => 1
  | .post => 2
  | .frozen => 3

/-- Address of segment `i` of a capture. -/
def Capture.segAddr (c : Capture) (i : Nat) : Nat := c.base + i * capSegSize c.cfg

/-- Segment `i`. -/
def Capture.seg (c : Capture) (i : Nat) : Segment := c.segs.get Segment.free i

/-- The capture with segment `i` changed. -/
def Capture.modSeg (c : Capture) (i : Nat) (f : Segment → Segment) : Capture := { c with segs := c.segs.put i (f (c.seg i)) }

/-- Segments of the capture in a state. -/
def Capture.inState (c : Capture) (st : SegState) : List Nat := (List.range c.cfg.nseg).filter fun i => (c.seg i).state == st

/-- The capture records anew from the instant `now`: ARMED segments begin again (R255). -/
def Capture.anew (c : Capture) (now : Nat) : Capture :=
  (c.inState .armed).foldl (fun c i => c.modSeg i fun _ => { Segment.free with state := .armed, armedAt := now }) c

/-- While a capture is enabled and nothing is ARMED or in POST, its lowest FREE segment is ARMED (R255). -/
def Capture.rearm (c : Capture) (now : Nat) : Capture :=
  if c.enabled && (c.inState .armed).isEmpty && (c.inState .post).isEmpty then
    match (c.inState .free).head? with
    | some i => c.modSeg i fun _ => { Segment.free with state := .armed, armedAt := now }
    | none => c
  else c

/-- Capture `k` changed. -/
def State.modCapture (s : State) (k : Nat) (f : Capture → Capture) : State :=
  { s with pq := { s.pq with captures := s.pq.captures.map fun (i, c) => (i, if i = k then f c else c) } }

/-- A trigger into a list of at most 8, in order of T. -/
def insertTrigger (l : List (Nat × Nat × Nat)) (x : Nat × Nat × Nat) : List (Nat × Nat × Nat) :=
  ((l.filter fun y => y.1 ≤ x.1) ++ [x] ++ l.filter fun y => x.1 < y.1).take 8

/-- Milliseconds in 2^-24 s. -/
def msStamp (n : Nat) : Nat := roundDiv (n * 2 ^ 24) 1000

/-- A trigger reaches a capture (R255, R256): whether a segment took it. -/
def Capture.hit (c : Capture) (t kind source : Nat) : Capture × Bool :=
  match (c.inState .post).head? with
  | some i =>
    if t < (c.seg i).endAt then
      (c.modSeg i fun x => { x with triggers := insertTrigger x.triggers (t, kind, source), ntrig := x.ntrig + 1 }, true)
    else ({ c with missed := c.missed + 1 }, false)
  | none =>
    match (c.inState .armed).head? with
    | some i =>
      (c.modSeg i fun x =>
        { x with state := .post, triggers := [(t, kind, source)], ntrig := 1, endAt := t + msStamp c.cfg.postMs }, true)
    | none => ({ c with missed := c.missed + 1 }, false)

/-- A trigger of capture `k`; one that is missed raises CODE 2 (R255, R423). -/
def trigger (k t kind source : Nat) (s : State) : State × Bool :=
  match s.pq.captures.find k with
  | none => (s, false)
  | some c =>
    let (c, ok) := c.hit t kind source
    let s := s.modCapture k fun _ => c
    if ok then (s, true) else (s.fire (576 + k) 2 c.missed, false)

/-- The capture names a source of power-quality events (R254). -/
def Capture.names (c : Capture) (meter : Bool) (n : Nat) : Bool :=
  (List.range 8).any fun i => c.cfg.sources.getD i 0xFF = n && n ≠ 0xFF && c.cfg.srcIsMeter.getLsbD i == meter

/-- Every capture of polder `p` that a test picks takes a trigger. -/
def triggerAll (p t kind source : Nat) (f : Capture → Bool) (s : State) : State :=
  (s.pq.captures.filter fun e => e.2.owner = p && e.2.cfg.kinds.getLsbD kind && f e.2).foldl (fun s e => (trigger e.1 t kind source s).1) s

/-- A fast trip triggers the captures of the comparator's holder that record the channel (R254). -/
def tripTrigger (c stamp : Nat) (s : State) : State :=
  triggerAll (holder s fun p => p.tripCh.getLsbD c) stamp 7 c (fun x => x.cfg.channels.contains c) s

/-- A meter's published flags trigger where a cadence carries a selected one after a cadence that carried none (R254). -/
def flagTrigger (m : Nat) (flags : BitVec 32) (stamp : Nat) (s : State) : State :=
  (s.pq.captures.filter fun e => e.2.cfg.flagMeter = m && e.2.cfg.kinds.getLsbD 8).foldl (fun s (k, c) =>
    let has := flags &&& c.cfg.flagMask != 0
    let s := s.modCapture k fun c => { c with flagSeen := has }
    if has && !c.flagSeen then (trigger k stamp 8 m s).1 else s) s

/-- The 256 bytes of a segment's header (R259). -/
def segHeader (c : Capture) (i : Nat) : List Byte :=
  let x := c.seg i
  let first := (x.kept.head?.bind fun l => l.parts.head?).elim 0 (·.1)
  let chans := (c.cfg.channels.filter (· < 128)).mergeSort fun a b => decide (a ≤ b)
  leBytes 1 x.state.code ++ leBytes 1 c.cfg.nchan ++ leBytes 1 c.cfg.format ++ leBytes 1 (Nat.min x.ntrig 255)
    ++ leBytes 4 x.cflags.toNat ++ leBytes 8 ((x.triggers.head?.map (·.1)).getD 0) ++ leBytes 8 x.firstStamp ++ leBytes 8 x.lastStamp
    ++ leBytes 4 (capDataSize c.cfg) ++ leBytes 4 first ++ leBytes 4 x.pos ++ zeros 4
    ++ ((List.range 32).flatMap fun n => leBytes 1 (chans.getD n 0xFF))
    ++ ((List.range 8).flatMap fun n => match x.triggers[n]? with
        | some (t, k, src) => leBytes 8 t ++ leBytes 2 k ++ leBytes 2 src ++ zeros 4
        | none => zeros 16)
    ++ leBytes 8 x.seq ++ zeros 40

/-- A row's span in 2^-24 s, to the rounding of R170: 1 ms, or 1/24 ms. -/
def rowSpan (format : Nat) : Nat := if fmtFast format then roundDiv (2 ^ 24) 24000 else msStamp 1

/-- Rows of the cadence that opened at boundary `o`, of the samples of a capture, are written into the segment that records: those that began
since it was armed, and in POST none after the row that contains T + post (R255, R256). -/
def captureRow (k i : Nat) (w : Row) (s : State) : State :=
  match s.pq.captures.find k with
  | none => s
  | some c =>
    let x := c.seg i
    let full := x.state == .post && (x.kept.getLast?.any fun l => x.endAt < l.stamp + rowSpan c.cfg.format)
    if w.index * rowClocks c.cfg.format < x.armedAt || full then s
    else
      let r := RowRing.row (c.segAddr i + 256) (capDataSize c.cfg) (capRows c.cfg) c.cfg.format { pos := x.pos, kept := x.kept, mem := s.mem } w
      { s with mem := r.mem }.modCapture k fun c => c.modSeg i fun x => { x with pos := r.pos, kept := r.kept }

/-- The segment of a capture that records: the one in POST, else the one ARMED. -/
def Capture.recording (c : Capture) : Option Nat := (c.inState .post).head?.orElse fun _ => (c.inState .armed).head?

/-- A cadence of the sample copy is recorded by every capture (R255). -/
def captureCadence (o : Nat) (s : State) : State :=
  s.pq.captures.foldl (fun s (k, c) =>
    match c.recording with
    | none => s
    | some i => (List.range (cadenceRows c.cfg.format)).foldl (fun s n =>
        captureRow k i (s.rowAt c.cfg.format c.cfg.channels (o * cadenceRows c.cfg.format + n)) s) s) s

/-- Segment `i` of capture `k` freezes (R255, R256, R259, R264). -/
def freezeSegment (k i : Nat) (truncated : Bool) (s : State) : State :=
  match s.pq.captures.find k with
  | none => s
  | some c =>
    let x := c.seg i
    let first := (x.kept.head?.map (·.stamp)).getD 0
    let last := (x.kept.getLast?.map (·.stamp)).getD 0
    let t0 := ((x.triggers.head?).map (·.1)).getD 0
    let short := t0 < first + msStamp c.cfg.preMs
    let cf : BitVec 32 := BitVec.ofNat 32 (bit short + 2 * bit (x.kept.any (·.lost)) + 4 * bit (x.kept.any (·.shed)) + 8 * bit truncated)
    let c := { c with frozen := c.frozen + 1 }
    let c := c.modSeg i fun x => { x with state := .frozen, cflags := cf, firstStamp := first, lastStamp := last, seq := c.frozen }
    let s := { s with mem := s.mem.writeAll (c.segAddr i) (segHeader c i) }.modCapture k fun _ => c.rearm s.now
    s.fire (576 + k) 1 (BitVec.ofNat 32 i)

/-- The row that contains T + post has been written (R255). -/
def captureFreeze (k n : Nat) (s : State) : State :=
  match s.pq.captures.find k with
  | none => s
  | some c =>
    match (c.inState .post).head? with
    | some i =>
      if i = n && (c.seg i).kept.getLast?.any fun l => (c.seg i).endAt < l.stamp + rowSpan c.cfg.format then freezeSegment k i false s else s
    | none => s

/-- CAPTURE_FREEZE (R255). -/
def execCaptureFreeze (t capture segment : Nat) (s : State) : Host.Outcome State Fault Refusal :=
  .next (captureFreeze capture segment (s.advance t))

/-- A segment in POST freezes TRUNCATED (R263, R264). `stop`: its capture ends, and is disabled. -/
def truncateCapture (k : Nat) (stop : Bool) (s : State) : State :=
  match s.pq.captures.find k with
  | none => s
  | some c =>
    let off (c : Capture) : Capture :=
      if stop then
        (c.inState .armed).foldl (fun c i => c.modSeg i fun _ => Segment.free) { c with enabled := false }
      else c
    match (c.inState .post).head? with
    | some i => freezeSegment k i true (s.modCapture k off)
    | none => s.modCapture k off

/-! ## Streams (R260 to R262) -/

/-- Bytes of the data area. -/
def Stream.size (x : Stream) : Nat := x.cfg.size * 4096

/-- The credit of a stream (R261). -/
def Stream.credit (x : Stream) : Nat := ((BitVec.ofNat 32 x.size) - (x.prod - x.cons)).toNat

/-- Bytes of a row in the format it is written in. -/
def rowBytes (format : Nat) (w : Row) : Nat := (w.blocks.map fun b => (b.bytes format).length).sum

/-- The credit covers a row, a pad and a spill block (R261): a pad takes at most one block. -/
def Stream.covers (x : Stream) (w : Row) : Bool := rowBytes x.cfg.format w + 144 + 48 ≤ x.credit

/-- The 64 bytes of a stream's descriptor (R260). -/
def Stream.descriptor (x : Stream) : List Byte :=
  leBytes 4 x.prod.toNat ++ leBytes 4 x.cons.toNat ++ leBytes 4 x.size ++ leBytes 4 (bit x.spilling) ++ leBytes 8 x.dropped
    ++ leBytes 8 x.spills ++ zeros 32

/-- One block of bytes at PROD; a block never crosses the end of the area (R257). -/
def Stream.put (x : Stream) (mem : Mem) (bs : List Byte) : Stream × Mem :=
  let o := x.prod.toNat % x.size
  let base := x.base + 64
  if o + bs.length ≤ x.size then ({ x with prod := x.prod + BitVec.ofNat 32 bs.length }, mem.writeAll (base + o) bs)
  else
    ({ x with prod := x.prod + BitVec.ofNat 32 (x.size - o + bs.length) }, (mem.writeAll (base + o) padHeader).writeAll base bs)

/-- A row is written to the ring. -/
def Stream.putRow (x : Stream) (mem : Mem) (w : Row) : Stream × Mem :=
  w.blocks.foldl (fun (x, m) b => x.put m (b.bytes x.cfg.format)) (x, mem)

/-- The 48 bytes of a spill block (R262). -/
def spillBlock (first last n : Nat) : List Byte :=
  leBytes 8 first ++ [0xFE] ++ zeros 7 ++ leBytes 8 last ++ leBytes 8 n ++ zeros 16

/-- Staged rows are written while the credit covers them, a spill block first where rows were dropped (R262). -/
def Stream.drain : Nat → Stream → Mem → Stream × Mem
  | 0, x, m => (x, m)
  | n + 1, x, m =>
    match x.staged with
    | [] => ({ x with spilling := false }, m)
    | w :: rest =>
      if x.covers w then
        let (x, m) := match x.episode with
          | some (a, b, k) => { x with episode := none }.put m (spillBlock a b k)
          | none => (x, m)
        let (x, m) := x.putRow m w
        Stream.drain n { x with staged := rest, spilling := x.spilling && !rest.isEmpty } m
      else (x, m)

/-- A row goes to the staging, which keeps the 8 newest; the start of an episode is told (R262). -/
def Stream.stage (x : Stream) (w : Row) : Stream × Bool :=
  match x.staged with
  | old :: rest =>
    if x.staged.length < 8 then ({ x with staged := x.staged ++ [w] }, false)
    else
      let first := match x.episode with
        | some (a, _, _) => a
        | none => old.stamp
      let k := match x.episode with
        | some (_, _, k) => k
        | none => 0
      ({ x with
          staged := rest ++ [w], dropped := x.dropped + 1, spilling := true, episode := some (first, old.stamp, k + 1)
          spills := if x.spilling then x.spills else x.spills + 1 }, !x.spilling)
  | [] => ({ x with staged := [w] }, false)

/-- A stream's new state and memory, with its descriptor written. -/
def State.putStream (s : State) (k : Nat) (x : Stream) (mem : Mem) : State :=
  { s with mem := mem.writeAll x.base x.descriptor, pq := { s.pq with streams := s.pq.streams.put k x } }

/-- A completed row of a stream is written where the credit covers it, or staged (R261, R262). -/
def streamPut (k : Nat) (x : Stream) (w : Row) (s : State) : State :=
  let (x, m) := Stream.drain 9 x s.mem
  if x.staged.isEmpty && x.covers w then
    let (x, m) := x.putRow m w
    s.putStream k x m
  else
    let (x, started) := x.stage w
    let s := s.putStream k x m
    if started then s.fire (608 + k) 1 (BitVec.ofNat 32 x.dropped) else s

/-- The next row of stream `k` is complete: the copy holds its samples. -/
def State.rowReady (s : State) (x : Stream) : Bool :=
  !x.ended && s.domOn 12 && decide ((x.next + 1) * rowClocks x.cfg.format ≤ s.copyEnd * 3072)

/-- The next row of stream `k`, where it is complete (R261). -/
def streamRow (k n : Nat) (s : State) : State :=
  match s.pq.streams.find k with
  | none => s
  | some x => if n = x.next && s.rowReady x then streamPut k { x with next := x.next + 1 } (s.rowAt x.cfg.format x.cfg.channels x.next) s else s

/-- STREAM_ROW (R261); `row`: its number, counted from reset (log 129). -/
def execStreamRow (t stream row : Nat) (s : State) : Host.Outcome State Fault Refusal := .next (streamRow stream row (s.advance t))

/-- The number of the first row of a format that begins at or after the instant `now`. -/
def firstRow (format now : Nat) : Nat := (now + rowClocks format - 1) / rowClocks format

/-- A host write of CONS (R261, R262): one that would make the credit exceed SIZE is ignored and told. -/
def consWrite (k : Nat) (v : BitVec 32) (s : State) : State :=
  match s.pq.streams.find k with
  | none => s
  | some x =>
    if (x.prod - v).toNat ≤ x.size && (v - x.cons).toNat ≤ x.size then
      let (x, m) := Stream.drain 9 { x with cons := v } s.mem
      s.putStream k x m
    else s.fire (608 + k) 2 v

/-- A stream ends: its staged rows are written where the credit allows, the rest count as dropped (R263, R264). -/
def streamFlush (k : Nat) (stop : Bool) (s : State) : State :=
  match s.pq.streams.find k with
  | none => s
  | some x =>
    let (x, m) := Stream.drain 9 x s.mem
    s.putStream k { x with dropped := x.dropped + x.staged.length, staged := [], ended := x.ended || stop } m

end Sys2Proof.Machine
end

