-- ==== Sys2Proof/Machine/Fabric.lean ====
section
/-! DEFINITION. Cadence occupancy, voltage requests and shedding at a boundary (02). -/
namespace Sys2Proof.Machine

/-- Guaranteed capacity at a VDDC_REQ code, percent (R42). -/
def guaranteed (code : Nat) : Nat := [45, 52, 59, 66, 73, 80, 87, 94].getD code 94

/-- What a resource does of its work within one cadence: master clocks it is busy, and clocks of work that remain. It is free from
`free` on and has been busy for `busy` clocks; it takes each job when it is free and the job has arrived. -/
def serveJobs (free busy left : Nat) : List Job → Nat × Nat
  | [] => (busy, left)
  | j :: rest =>
    let start := Nat.max free j.at_
    let done := Nat.min (start + j.clocks) cadenceClocks - Nat.min start cadenceClocks
    serveJobs (start + j.clocks) (busy + done) (left + (j.clocks - done)) rest

/-- Busy and remaining clocks of a resource that begins the cadence with unfinished work (R47, R62). -/
def resourceCadence (carried : Nat) (jobs : List Job) : Nat × Nat :=
  serveJobs carried (Nat.min carried cadenceClocks) (carried - cadenceClocks) jobs

/-- Busy clocks in units of 1/1,024 of 8 ms, rounded up (R47). -/
def occUnits (clocks : Nat) : Nat := (1024 * clocks + cadenceClocks - 1) / cadenceClocks

/-- Occupancy of a resource (R47): 1,024 and the estimate of the remaining work where work is left. -/
def resourceOcc (x : Nat × Nat) : Nat := if x.2 = 0 then occUnits x.1 else 1024 + occUnits x.2

/-- The crossbar's cadence with the scrubber's visits, which take what the others leave and are done at every occupancy: the others wait
for what does not fit (log 125). -/
def withScrub (clocks : Nat) (x : Nat × Nat) : Nat × Nat :=
  (Nat.min cadenceClocks (x.1 + clocks), x.2 + (x.1 + clocks - cadenceClocks))

/-- The cadence that closes on each of the seven resources: occupancies, and the work carried into the next one (R47, R62); `scrub`:
clocks of the scrubber on the crossbar (R479). -/
def Fabric.cadence (f : Fabric) (work : List (List Job)) (scrub : Nat) : List Nat × List Nat :=
  let r := (List.range 7).map fun i =>
    let x := resourceCadence (f.carried.getD i 0) (work.getD i [])
    if i = 6 then withScrub scrub x else x
  (r.map resourceOcc, r.map (·.2))

/-- The device occupancy of a cadence and the resource that set it (R47): the highest value, saturated at 2,047; of several resources
with that value the lowest number is reported (DESIGN CHOICE, log 114). -/
def deviceOcc (occ : List Nat) : Nat × Nat :=
  occ.zipIdx.foldl (fun b x => if b.1 < Nat.min x.1 2047 then (Nat.min x.1 2047, x.2) else b) (0, 0)

/-- AVG: mean device occupancy over the closed cadences kept, at most 125 (R48); it is rounded down, and before 125 cadences have closed
it is the mean over those (DESIGN CHOICE, log 114). -/
def Fabric.avg (f : Fabric) : Nat := if f.hist.isEmpty then 0 else f.hist.sum / f.hist.length

/-- SYS_OCC.SETTLING (R48, R53). -/
def Fabric.settling (f : Fabric) : Bool := f.settleLeft != 0

/-- The code driven changes, and its settle allowance begins (R49, R53); the allowance ends after SETTLE boundaries. -/
def Fabric.drive (f : Fabric) (code : Nat) : Fabric :=
  if code = f.vreq then f else { f with vreq := code, settleLeft := Nat.max 1 f.settle + 1 }

/-- Occupancy, capacity and the runs of low cadences of the cadence that closes (R43, R47, R48, R52, R58, R62); a reading above the
12-bit field of CAP saturates it (DESIGN CHOICE, log 114). -/
def Fabric.measure (f : Fabric) (occ cap : List Nat) : Fabric :=
  let (last, res) := deviceOcc occ
  let exceeds := 1024 < last
  { f with
    last, resource := res
    hist := (last :: f.hist).take 125
    peak := Nat.max f.peak last
    cap := Nat.min 0xFFF (cap.foldl Nat.min (cap.headD 0))
    ovrCnt := if exceeds then f.ovrCnt + 1 else f.ovrCnt
    lowRun := if last < 512 then f.lowRun + 1 else 0
    shedRun := if last < 768 then f.shedRun + 1 else 0
    secOver := if exceeds then f.secOver + 1 else f.secOver
    secPeak := if exceeds then Nat.max f.secPeak last else f.secPeak
    secRes := if exceeds && f.secPeak < last then res else f.secRes
    settleLeft := if 1 < f.settleLeft then f.settleLeft - 1 else f.settleLeft }

/-- The settle allowance ends once SETTLE cadences have passed (R53). -/
def Fabric.settleEnd (f : Fabric) : Fabric := if f.settleLeft = 1 then { f with settleLeft := 0 } else f

/-- A request is raised by one step above 80 % and by two above 95 %, to at most 0b111 (R51). -/
def Fabric.raise (f : Fabric) : Fabric :=
  if f.forced then f
  else if f.fixed then f.drive f.fixedCode
  else if 972 < f.last then f.drive (Nat.min 7 (f.vreq + 2))
  else if 819 < f.last then f.drive (Nat.min 7 (f.vreq + 1))
  else f

/-- The occupancy predicted at the lower step: AVG scaled by the guaranteed capacities of the two codes (R52). -/
def Fabric.predicted (f : Fabric) : Nat := f.avg * guaranteed f.vreq / guaranteed (f.vreq - 1)

/-- The conditions under which a request is lowered (R52). -/
def Fabric.mayLower (f : Fabric) : Bool :=
  !f.forced && !f.fixed && 0 < f.vreq && 125 ≤ f.lowRun && f.settleLeft == 0 && f.predicted < 717

/-- The request is lowered by one step, and the count of 125 cadences starts again (R52). -/
def Fabric.lower (f : Fabric) : Fabric :=
  if f.mayLower then { f.drive (f.vreq - 1) with lowRun := 0 } else f

/-- The shedding level rises (R58). -/
def Fabric.shedRise (f : Fabric) : Fabric :=
  if 1536 < f.last then { f with shed := Nat.min 4 (f.shed + 2), shedRun := 0 }
  else if 1000 < f.last then { f with shed := Nat.min 4 (f.shed + 1), shedRun := 0 }
  else f

/-- The shedding level falls by one after 125 cadences below 75 % (R58); the count starts again after a fall as after a rise (DESIGN
CHOICE, log 114). -/
def Fabric.shedFall (f : Fabric) : Fabric :=
  if 125 ≤ f.shedRun && 0 < f.shed then { f with shed := f.shed - 1, shedRun := 0 } else f

/-- AT_MAX as the present values give it (R48, R56). -/
def Fabric.maxNow (f : Fabric) : Bool := 819 < f.last && (f.fixed || f.vreq == 7)

/-- AT_MAX follows, and its rise raises the occupancy event owned by P00 (R56). -/
def atMaxPass (s : State) : State :=
  let now := s.fab.maxNow
  let t := { s with fab := { s.fab with atMax := now } }
  if now && !s.fab.atMax then t.fire 640 1 0 else t

/-- At the end of an RTC second that held an overrun one entry records it (R62, R489); the CODE is the model's (log 19). -/
def overrunSecond (s : State) : State :=
  let f := s.fab
  let t := { s with fab := { f with secOver := 0, secPeak := 0, secRes := 0 } }
  if f.secOver = 0 then t
  else t.fireFull 641 1 (BitVec.ofNat 32 f.secOver) s.stamp false false
    (BitVec.ofNat 64 (f.secPeak + f.secRes * 2 ^ 16 + f.shed * 2 ^ 24 + f.vreq * 2 ^ 32)) false

/-- VDDC_REQ in kickstand: code 0b101, forced (R70, R71, R115). -/
def Fabric.kick (f : Fabric) : Fabric := { f.drive 5 with forced := true }

/-- At the first boundary after the host ports are ready the device stops forcing code 0b101 (R50); without a dry image every output
stays in kickstand (R113). -/
def unforce (s : State) : State :=
  if s.fab.forced && s.pwr.portsReady && s.pwr.dryOk then { s with fab := { s.fab with forced := false } } else s

/-- What a boundary does to occupancy, voltage and shedding (R43 to R62); `occ`: the occupancy of each resource, `newSecond`: it begins
an RTC second. -/
def fabricPass (occ cap : List Nat) (newSecond : Bool) (s : State) : State :=
  let s := { s with fab := s.fab.measure occ cap }
  let s := if newSecond then overrunSecond s else s
  let s := unforce s
  atMaxPass { s with fab := (((s.fab.settleEnd.raise).lower).shedRise).shedFall }

/-! ## The scrubber (R479) -/

/-- 32-bit words of bank `b` that a pass reads: those of its 2,048 rows, and of the spare rows in use. -/
def Par.words (p : Par) (b : Nat) : Nat := 512 * (2048 + p.spares.get 0 b)

/-- Cadences of a pass: 10 s. -/
def scrubCadences : Nat := 1250

/-- The first word of bank `b` that the scrubber has not read at the end of the present cadence; the pass is spread evenly over its
cadences (DESIGN CHOICE, log 125). -/
def Par.scrubEnd (p : Par) (b : Nat) : Nat := p.words b * (p.scrubPhase + 1) / scrubCadences

/-- Visits of the scrubber in the closing cadence, to the banks that are ON. -/
def State.scrubVisits (s : State) : Nat :=
  ((List.range 4).map fun b => if s.domOn (6 + b) then s.par.scrubEnd b - s.par.scrubPos.get 0 b else 0).sum

/-- The scrubber's work of the cadence is done, and the next pass begins after the last word. -/
def Par.scrubNext (p : Par) : Par :=
  if p.scrubPhase + 1 < scrubCadences then
    { p with scrubPhase := p.scrubPhase + 1, scrubPos := (List.range 4).foldl (fun t b => t.put b (p.scrubEnd b)) p.scrubPos }
  else { p with scrubPhase := 0, scrubPos := [] }

/-- The boundary measures the work of the closing cadence, the scrubber's with it, and carries what is unfinished into the next (R47,
R62, R479). -/
def workPass (work : List (List Job)) (visit : Nat) (cap : List Nat) (newSecond : Bool) (s : State) : State :=
  let (occ, carried) := s.fab.cadence work ((s.scrubVisits * visit + 1023) / 1024)
  let s := { s with par := s.par.scrubNext }
  fabricPass occ cap newSecond { s with fab := { s.fab with carried } }

/-- What changes only at a cadence boundary (R49, R53, R58): elsewhere nothing happens. -/
def atBoundary (f : Fabric → Fabric) (s : State) : Host.Outcome State Fault Refusal :=
  .next (if s.time.off = 0 then { s with fab := f s.fab } else s)

/-- VOLTAGE_REQUEST_LOWER (R52). -/
def execVoltageRequestLower (s : State) : Host.Outcome State Fault Refusal := atBoundary Fabric.lower s

/-- SETTLE_ALLOWANCE_END (R53). -/
def execSettleAllowanceEnd (s : State) : Host.Outcome State Fault Refusal := atBoundary Fabric.settleEnd s

/-- SHEDDING_FALL (R58). -/
def execSheddingFall (s : State) : Host.Outcome State Fault Refusal := atBoundary Fabric.shedFall s

end Sys2Proof.Machine
end

