-- ==== Sys2Proof/Machine/Domains.lean ====
section
/-! DEFINITION. Power domains: claims, votes, the decision of a boundary, and the domain state machine (04). -/
namespace Sys2Proof.Machine

/-! ## Claims and votes (R94, R95) -/

/-- Meter numbers that are defined, pending ones included (R194). -/
def State.definedMeters (s : State) : List Nat := (s.mtr.filter fun e => e.2.state != .undefined).map (·.1)

/-- The channels a meter definition uses, without repeats (R190). -/
def defChannels (d : MeterDefine) : List Nat := ((d.vSlot ++ d.iSlot).filter fun c => c < 128).eraseDups

/-- Some defined meter uses channel `c`. -/
def State.metered (s : State) (c : Nat) : Bool := s.definedMeters.any fun m => (defChannels (s.meter m).def_).contains c

/-- Some defined meter uses a channel of wheel `w`. -/
def State.wheelMetered (s : State) (w : Nat) : Bool :=
  s.definedMeters.any fun m => (defChannels (s.meter m).def_).any fun c => wheelOf c == w

/-- The configured size of the capture pool, in units of 4 KiB: the sum of the shares (R326). -/
def State.poolSize (s : State) : Nat := ((List.range 16).map fun p => (s.polder p).poolShare).sum

/-- The capture pool extends into MEM2 (domain 8) or MEM3 (domain 9) (R35). -/
def State.poolInto (s : State) (n : Nat) : Bool := (n == 8 && 512 < s.poolSize) || (n == 9 && 1536 < s.poolSize)

/-- The dry side holds a claim on domain `n` (R94). -/
def State.claimed (s : State) (n : Nat) : Bool :=
  if n = 0 then true
  else if n ≤ 4 then s.pwr.state != .nap
  else if n ≤ 7 then !s.definedMeters.isEmpty
  else if n = 13 then s.relief.phase != .free
  else if n = 16 then s.tdm.enabled
  else if 17 ≤ n then s.wheelMetered (n - 17)
  else false

/-- The domains on which a channel's service depends: its wheel, and the power-quality engine (R95). -/
def State.serviceDoms (s : State) (p : Nat) : List Nat :=
  let q := s.polder p
  let pq := ((List.range 128).filter fun c => q.pqCh.getLsbD c && (s.channel c).pq.enable).flatMap fun c =>
    [12, wheelDom (wheelOf c), wheelDom (wheelOf (s.channel c).pq.ref)]
  let unb := if s.mtr.any fun e => e.2.unbOn && e.2.def_.owner == p then [12] else []
  let cap := ((s.pq.captures.filter fun e => e.2.owner == p).flatMap fun e =>
    12 :: (e.2.cfg.channels.filter (· < 128)).map fun c => wheelDom (wheelOf c))
  let str := ((s.pq.streams.filter fun e => e.2.owner == p && !e.2.ended).flatMap fun e =>
    12 :: (e.2.cfg.channels.filter (· < 128)).map fun c => wheelDom (wheelOf c))
  let trip := ((List.range 128).filter fun c => q.tripCh.getLsbD c && (s.channel c).trip.mode != 0).map fun c => wheelDom (wheelOf c)
  let plc := if p = 0 && s.plc.link.enable != 0 then [14, 15] else []
  pq ++ unb ++ cap ++ str ++ trip ++ plc

/-- Polder `p` votes ON for domain `n` through a configured service, of a domain in its claim set (R95, R327, log 20). -/
def State.votes (s : State) (p n : Nat) : Bool := (s.polder p).domains.getLsbD n && (s.serviceDoms p).contains n

/-- Some polder votes ON for domain `n` through a service. -/
def State.implicitVote (s : State) (n : Nat) : Bool := (List.range 16).any fun p => s.votes p n

/-- Some polder requests ON, or OFF, for domain `n` explicitly. -/
def State.anyOn (s : State) (n : Nat) : Bool := (List.range 16).any fun p => (s.polder p).on.getLsbD n
/-- Some polder requests OFF for domain `n` explicitly. -/
def State.anyOff (s : State) (n : Nat) : Bool := (List.range 16).any fun p => (s.polder p).off.getLsbD n

/-- The decision of R96 for a command-switched domain, with what HUSH turns off (R103). -/
def State.decides (s : State) (n : Nat) : Bool :=
  if s.pwr.state == .hush && (n == 14 || n == 15 || (n == 16 && !s.tdm.enabled)) then false
  else
    let run := s.pwr.state == .run || (s.pwr.state == .hush && s.pwr.held == .run)
    s.claimed n || s.poolInto n || s.anyOn n || s.implicitVote n || (run && !s.anyOff n)

/-- The decision without the RUN term and the explicit requests: what stops a wheel from being free for test (R418). -/
def State.needed (s : State) (n : Nat) : Bool := s.claimed n || s.implicitVote n

/-! ## The domain state machine (R99, R100) -/

/-- Least time in OFF between a drain and a pending turn-on, in master clocks: 10 us (R100). -/
def offClocks : Nat := 492

/-- A turn-on. A domain that passes through OFF with a turn-on pending stays there for its 10 us. -/
def Dom.turnOn (d : Dom) : Dom :=
  match d.state with
  | .off => if d.riseFrom.isSome then d else { d with state := .rising, offPending := false }
  | .rising => { d with offPending := false }
  | .on => d
  | .draining => { d with state := .drainThenOn }
  | .drainThenOn => d

/-- The ON period of a domain ends at `now`, by a turn-off or cut by a loss. -/
def Dom.endSpan (now : Nat) (cut : Bool) (d : Dom) : Dom :=
  match d.onAt with
  | some t => { d with onAt := none, spans := (⟨t, now, cut⟩ :: d.spans).take 4 }
  | none => d

/-- A turn-off at the instant `now`. -/
def Dom.turnOff (now : Nat) (d : Dom) : Dom :=
  match d.state with
  | .off => { d with riseFrom := none }
  | .rising => { d with offPending := true }
  | .on => { d.endSpan now false with state := .draining, drainAt := some now }
  | .draining => d
  | .drainThenOn => { d with state := .draining }

/-- A rise completes; `now`: the instant. -/
def Dom.riseDone (d : Dom) (now : Nat) : Dom :=
  if d.state == .rising then
    if d.offPending then { d with state := .draining, offPending := false, drainAt := some now }
    else { d with state := .on, onAt := some now }
  else d

/-- A drain completes: OFF, the epoch in retention, and RISING after 10 us where a turn-on was pending (R100, R102). -/
def Dom.drainDone (now : Nat) (d : Dom) : Dom :=
  match d.state with
  | .draining => { d with state := .off, retained := some d.epoch, onAt := none, drainAt := none }
  | .drainThenOn =>
    { d with state := .off, retained := some d.epoch, onAt := none, drainAt := none, offPending := false, riseFrom := some (now + offClocks) }
  | _ => d

/-! ## State epochs (R116, R117) -/

/-- The current epoch of domain `n` advances (R116). -/
def State.bumpDom (s : State) (n : Nat) : State := s.modDom n fun d => { d with epoch := d.epoch + 1 }

/-- The current epoch advances; a unit that is ON takes it (R116). -/
def UnitEpoch.bump (on : Bool) (u : UnitEpoch) : UnitEpoch :=
  { epoch := u.epoch + 1, retained := if on && u.retained == some u.epoch then some (u.epoch + 1) else u.retained }

/-- A unit returns to service (R117): one that differs, or retains nothing, takes the current epoch. -/
def UnitEpoch.return_ (u : UnitEpoch) : UnitEpoch := { u with retained := some u.epoch }

/-- The current epoch of domain `n` advances at a boundary that commits a change of its configuration (R116). -/
def State.bumpDomOnce (s : State) (n : Nat) : State := s.once (.domain n) fun s => s.bumpDom n

/-- The metering engine, and its domain, take a new epoch: a change of what it computes has committed (R116). -/
def State.bumpMetering (s : State) : State :=
  (s.once .metering fun s => { s with pwr := { s.pwr with metering := s.pwr.metering.bump (s.domOn 5) } }).bumpDomOnce 5

/-- The power-quality engine, and its domain, take a new epoch (R116). -/
def State.bumpPq (s : State) : State :=
  (s.once .quality fun s => { s with pq := { s.pq with unit_ := s.pq.unit_.bump (s.domOn 12) } }).bumpDomOnce 12

/-- The relief engine, and its domain, take a new epoch (R116). -/
def State.bumpRelief (s : State) : State :=
  (s.once .relief fun s => { s with relief := { s.relief with unit_ := s.relief.unit_.bump (s.domOn 13) } }).bumpDomOnce 13

/-- Domains switched by command, in ascending order (R94). -/
def commandDoms : List Nat := [5, 8, 9, 12, 14, 15, 16] ++ (List.range 16).map (· + 17)

/-- The decision of a boundary for every command-switched domain, and for RLF (R94, R96). -/
def decisionPass (s : State) : State :=
  let s := commandDoms.foldl (fun t n => t.modDom n fun d => if s.decides n then d.turnOn else d.turnOff s.now) s
  s.modDom 13 fun d => if s.relief.phase != .free then d.turnOn else d.turnOff s.now

/-- Groups of domains in the order in which they go OFF on entry to NAP (R106). -/
def napGroups : List (List Nat) :=
  [[14, 15, 16, 10], [12, 11], (List.range 16).map (· + 17) ++ [13, 5], [8, 9], [4, 3, 2, 1, 7, 6]]

/-- In NAP, domain `n` may end its drain only when every group before its own is OFF (R106). -/
def State.napOrder (s : State) (n : Nat) : Bool :=
  s.pwr.state != .nap ||
    ((napGroups.takeWhile fun g => !g.contains n).all fun g => g.all fun k => (s.dom k).state == .off)

end Sys2Proof.Machine
end

