-- ==== Sys2Proof/Machine/Cic.lean ====
section
/-! DEFINITION. The clocked front end of a slice: the two integrator-comb filters, the OVER indication, and the first fine and fast
samples that they deliver, with the samples a shift disturbs and what replaces them (R125 to R135, R161 to R164). -/
namespace Sys2Proof.Machine

/-! ## Integrator-comb filters (R162) -/

/-- One modulator clock through the integrators: each takes the sum that the one before it has reached. -/
def integrate : List (BitVec 64) → BitVec 64 → List (BitVec 64)
  | [], _ => []
  | y :: ys, x => (y + x) :: integrate ys (y + x)

/-- One decimated value through the combs, whose differential delay is 1: their registers, and the last comb's output. -/
def combRun : List (BitVec 64) → BitVec 64 → List (BitVec 64) × BitVec 64
  | [], x => ([], x)
  | c :: cs, x =>
    let r := combRun cs (x - c)
    (x :: r.1, r.2)

/-- One modulator clock of a filter that decimates by `r` at the clocks with remainder `phase`: the output is the low `bits` bits of
its last comb, read as two's complement. -/
def Cic.clock (bits r phase : Nat) (st : Cic) (c : Nat) (level : Int) : Cic × Option Int :=
  let ints := integrate st.ints (BitVec.ofInt 64 level)
  if c % r = phase then
    let d := combRun st.combs (ints.getLastD 0)
    ({ ints, combs := d.1 }, some (d.2.setWidth bits).toInt)
  else ({ st with ints }, none)

/-- Levels through a filter from clock `c` on: its registers after them and its outputs in order. -/
def Cic.run (bits r phase c : Nat) (st : Cic) (levels : List Int) : Cic × List Int :=
  let go := levels.foldl (fun (acc : Cic × Nat × List Int) x =>
    let n := acc.1.clock bits r phase acc.2.1 x
    (n.1, acc.2.1 + 1, n.2.toList ++ acc.2.2)) (st, c, [])
  (go.1, go.2.2.reverse)

/-- The fast path: order 3, /16, 17 bits. The sample of index i emerges at clock 16 i + 22 of its cadence (R161, R164). -/
def Cic.fast (c : Nat) (st : Cic) (levels : List Int) : Cic × List Int := st.run 17 16 6 c levels

/-- The first fine stage: order 5, /48, 32 bits. The sample of index m emerges at clock 48 m + 117 of its cadence (R161, R164). -/
def Cic.fine (c : Nat) (st : Cic) (levels : List Int) : Cic × List Int := st.run 32 48 21 c levels

/-! ## OVER (R126) -/

/-- The clocks at which the quantiser has held level +8 or -8 for 8 consecutive clocks. -/
def overClocks (levels : List Int) : List Bool :=
  (levels.foldl (fun (acc : Int × Nat × List Bool) x =>
    let run := if x.natAbs = 8 then (if x = acc.1 then acc.2.1 + 1 else 1) else 0
    (x, run, decide (8 ≤ run) :: acc.2.2)) (0, 0, [])).2.2.reverse

/-! ## Gears and disturbed intervals (R134, R135) -/

/-- Master clocks of a modulator clock (R164). -/
def modClock : Nat := 8

/-- The gear at an instant from the last changes, newest first; `now`: the gear where none is known. -/
def gearAt (now : Bool) (l : List GearChange) (t : Int) : Bool :=
  match l.find? fun g => (g.at_ : Int) ≤ t with
  | some g => g.climb
  | none => (l.getLast?.map (·.was)).getD now

/-- A slice takes a gear at an instant: the change joins its history. -/
def Slice.toGear (y : Slice) (now : Nat) (climb shift : Bool) : Slice :=
  if y.climb == climb then y
  else { y with climb, lowRun := 0, gears := (⟨now, y.climb, climb, shift⟩ :: y.gears).take 16 }

/-- Master clocks in which the gain stage's transient has passed: 24 us, to the next whole clock (R134). -/
def transientClocks : Nat := 1180

/-- Master clocks before a shift in which its first OVER clock begins the disturbed interval: 8 us (R135). -/
def overReach : Nat := 393

/-- What the samples of a slice depend on beside its levels: the spans in which its domain is ON, its changes of gear, and the instant from
which its samples are missing (R129, R135, R187). -/
structure Health where
  spans : List OnSpan
  /-- The start of the present ON period. -/
  onAt : Option Nat
  gears : List GearChange
  climb : Bool
  failedAt : Option Nat

/-- Master clocks of a wheel's drain, 3 ms: through it the slices go on for the work in flight (R94, R101). -/
def drainClocks : Nat := 147456

/-- The window [a, b), in elapsed master clocks, lies in one ON period, with its drain unless the period was cut, and before the failing
instant. -/
def Health.covers (h : Health) (a b : Int) : Bool :=
  (h.onAt.any (fun t => decide ((t : Int) ≤ a)) ||
    h.spans.any fun p => decide ((p.from_ : Int) ≤ a) && decide (b ≤ (p.to_ : Int) + (if p.cut then 0 else drainClocks)))
  && h.failedAt.all fun t => decide (b ≤ (t : Int))

/-- The disturbed intervals [t0, te) of the slice's shifts; `over_`: whether the clock of an index, counted from the opening boundary at
`base`, is an OVER clock (R135). -/
def Health.disturbed (h : Health) (base : Int) (over_ : Int → Bool) : List (Int × Int) :=
  (h.gears.filter (·.shift)).map fun g =>
    let ts : Int := g.at_
    let first := (List.range 50).find? fun (i : Nat) =>
      let c := (ts - base) / 8 - 50 + (i : Int)
      decide (ts - overReach ≤ base + 8 * c + 4) && decide (base + 8 * c + 4 < ts) && over_ c
    (match first with
      | some i => base + 8 * ((ts - base) / 8 - 50 + (i : Int)) + 4
      | none => ts, ts + transientClocks)

/-- Two half-open intervals meet. -/
def meets (a b : Int) (i : Int × Int) : Bool := decide (a < i.2) && decide (i.1 < b)

/-! ## The front end over a cadence -/

/-- A fast sample as the filter delivers it: its value, its gear, and the marks OVER and SHIFTING (R126, R128). -/
structure RawFast where
  raw : Int
  climb : Bool
  overload : Bool
  shifting : Bool

/-- What the front end of a slice delivers for a publication: the first fine samples of indices 0 to 1,297, the fast samples of the cadence by
index, and its registers at the close of the cadence. -/
structure FrontRun where
  firsts : List FirstFine
  fasts : List (Option RawFast)
  fastCic : Cic
  fineCic : Cic
  tail : List Int
  fastTail : List Int

/-- First fine samples of a publication: the cadence's 1,024 and those the windows of the look-ahead reach. -/
def firstCount : Nat := 1298

/-- Modulator clocks of a cadence. -/
def cadenceLevels : Nat := 49152

/-- The front end of slice `y` over the cadence that opened at boundary `o`, and its look-ahead (R125 to R135, R161 to R164). The sample of
index m has the window of 236 modulator clocks around its instant; one whose window meets a disturbed interval is replaced by the clean
fast sample at its instant, or by the interpolation between the last clean one before and the first clean one after. -/
def Slice.front (y : Slice) (h : Health) (o : Nat) (levels : List Int) : FrontRun :=
  let base : Int := o * cadenceClocks
  -- before the domain reached ON there is nothing to filter
  let begun := (h.onAt.toList ++ h.spans.map (·.from_)).foldl (fun (c : Int) (t : Nat) =>
    if base ≤ (t : Int) && (t : Int) < base + cadenceClocks then max c (((t : Int) - base) / 8) else c) 0
  let fed := levels.zipIdx.map fun (x, i) => if (i : Int) < begun then 0 else x
  let own := fed.take cadenceLevels
  let ahead := fed.drop cadenceLevels
  let (fast1, fasts1) := y.fastCic.fast 0 own
  let (_, fasts2) := fast1.fast 0 ahead
  let (fine1, fines1) := y.fineCic.fine 0 own
  let (_, fines2) := fine1.fine 0 ahead
  let known := y.tail ++ fed
  let n : Int := y.tail.length
  let last : Int := fed.length
  let over_ := (overClocks known).toArray
  let isOver (c : Int) : Bool := decide (-n ≤ c) && over_.getD (c + n).toNat false
  let heard (a b : Int) : Bool := decide (-n ≤ a) && decide (b ≤ last)
  let fasts := (y.fastTail ++ fasts1 ++ fasts2).toArray
  let fastBase : Int := -1 - (y.fastTail.length : Int)
  let disturbed := h.disturbed base isOver
  let valid (a b : Int) : Bool := heard a b && h.covers (base + 8 * a) (base + 8 * b)
  let fastAt (i : Int) : Option (Int × Bool) :=
    if valid (16 * i - 23) (16 * i + 23) && decide (fastBase ≤ i) then
      (fasts[(i - fastBase).toNat]?).map fun v => (v, gearAt h.climb h.gears (base + 128 * i - 184))
    else none
  let clean (i : Int) : Bool := !(disturbed.any (meets (base + 128 * i - 184) (base + 128 * i + 184)))
  let fines := ((fines1 ++ fines2).drop 2).toArray
  let first (m : Nat) : FirstFine :=
    let a : Int := 48 * (m : Int) - 118
    let b : Int := a + 236
    let hit := disturbed.filter (meets (base + 8 * a) (base + 8 * b))
    let i : Int := 3 * (m : Int)
    let bridge : Option (List (Int × Int × Bool)) :=
      if hit.isEmpty then some []
      else if clean i then (fastAt i).map fun p => [(0, p.1, p.2)]
      else
        let t0 := hit.foldl (fun t p => min t p.1) (base + 8 * b)
        let te := hit.foldl (fun t p => max t p.2) (base + 8 * a)
        let before := (List.range 64).findSome? fun (j : Nat) =>
          let q := (t0 - base - 184) / 128 - (j : Int)
          if clean q then some q else none
        let after := (List.range 64).findSome? fun (j : Nat) =>
          let q := (te - base + 184 + 127) / 128 + (j : Int)
          if clean q then some q else none
        match before, after with
        | some p, some q => match fastAt p, fastAt q with
          | some u, some v => some [(p - i, u.1, u.2), (q - i, v.1, v.2)]
          | _, _ => none
        | _, _ => none
    match fines[m]?, bridge with
    | some raw, some l =>
      if valid a b then
        { raw, climb := gearAt h.climb h.gears (base + 8 * a)
          overload := (List.range 236).any fun (c : Nat) => isOver (a + (c : Int)), missing := false, bridge := l }
      else { raw := 0, climb := false, overload := false, missing := true, bridge := [] }
    | _, _ => { raw := 0, climb := false, overload := false, missing := true, bridge := [] }
  let fast (i : Nat) : Option RawFast := (fastAt (i : Int)).map fun (v, climb) =>
    let a : Int := 16 * (i : Int) - 23
    { raw := v, climb, overload := (List.range 46).any fun (c : Nat) => isOver (a + (c : Int)), shifting := !clean (i : Int) }
  let whole := decide (cadenceLevels ≤ fed.length)
  { firsts := (List.range firstCount).map first
    fasts := if fed.isEmpty then [] else (List.range 3072).map fast
    fastCic := if whole then fast1 else Cic.zero 3
    fineCic := if whole then fine1 else Cic.zero 5
    tail := if whole then keepLast 512 (y.tail ++ own) else []
    fastTail := if whole then keepLast 32 (y.fastTail ++ fasts1) else [] }

/-! ## One fast sample (R127, R128) -/

/-- Levels that a comparator or the derailleur needs for one fast sample: its window of 46 clocks and the 7 before. -/
def fastLevels : Nat := 53

/-- The fast sample of 46 levels: the filter of order 3 from rest. -/
def fastOf (levels : List Int) : Int := (((Cic.zero 3).run 17 16 13 0 levels).2).getLastD 0

/-- A fast sample includes an OVER clock. -/
def fastOver (levels : List Int) : Bool := ((overClocks levels).drop 7).any id

end Sys2Proof.Machine
end

