-- ==== Sys2Proof/Machine/Wheels.lean ====
section
/-! DEFINITION. Wheels: self-checks, shifts, the jockey's rotation, verdicts, takeovers, service recalibration, returns,
wheel probation and the relief engine (05), as the passes that a cadence boundary runs and the rows that stand for them. -/
namespace Sys2Proof.Machine

/-! ## Calibration sets (R265 to R267) -/

/-- The set of a channel for a gear (0 cruise, 1 climb) and path (0 spoke, 1 jockey) (R265). -/
def Chan.set (c : Chan) (gear path : Nat) : CalSet := c.sets.get (CalSet.factory (gear == 1)) (gear * 2 + path)

/-- The channel with a set replaced. -/
def Chan.putSet (c : Chan) (gear path : Nat) (x : CalSet) : Chan := { c with sets := c.sets.put (gear * 2 + path) x }

/-- The nominal GAIN of a gear as a number (R165). -/
def nominalGainVal (gear : Nat) : Rat := (2 ^ 27 : Nat) * 10 / (15552 * (if gear = 1 then 16 else 1))

/-- Values that rise strictly. -/
def strictlyRising (l : List Int) : Bool := (l.zip (l.drop 1)).all fun (a, b) => a < b

/-- GAMMA within 2 % (R267). -/
def gammaOk (g : Int) : Bool := g.natAbs * 100 ≤ 2 * 2 ^ 31

/-- A delay in TAU units lies within what R197 allows. -/
def tauOk (t : Int) : Bool := -62500 * 256 ≤ t && t < 62500 * 256

/-- A set is valid (R267). -/
def setValid (gear : Nat) (x : CalSet) : Bool :=
  let g : Rat := (x.gain : Rat) / (2 ^ 14 : Nat)
  let n := nominalGainVal gear
  (7 / 8 * n ≤ g && g ≤ 9 / 8 * n)
    && decide (((x.offset.natAbs : Nat) : Rat) / 16 ≤ 254803968 / 10)
    && x.seg.all (fun p => gammaOk p.gamma) && x.temp.all (fun p => gammaOk p.gamma)
    && strictlyRising (x.seg.map fun p => (p.break_ : Int)) && strictlyRising (x.temp.map (·.theta))
    && x.temp.all (fun p => -40 * 64 ≤ p.theta && p.theta ≤ 125 * 64)
    && (let ts := if x.seg.isEmpty then [0] else x.seg.map (·.tau)
        let us := if x.temp.isEmpty then [0] else x.temp.map (·.tau)
        ts.all fun a => us.all fun b => tauOk (a + b))

/-- The repeat-agreement test of a gain-like coefficient, tolerance in ppm (R273). -/
def agreeGain (tol : Nat) (a b : Rat) : Bool := absRat (a - b) * 1000000 ≤ (tol : Rat) * absRat ((a + b) / 2)

/-- The repeat-agreement test of an offset in first fine LSB: 20 ppm of full scale (R273). -/
def agreeOffset (a b : Rat) : Bool := absRat (a - b) * 10 ≤ 326149

/-- The means of two halves (R148, R272): none where a half counted nothing. -/
def Halves.means (h : Halves) : Option (Rat × Rat) :=
  if h.nA = 0 || h.nB = 0 then none else some (h.sumA / (h.nA : Rat), h.sumB / (h.nB : Rat))

/-! ## Slices -/

/-- The jockey. -/
def Wheel.jockey (x : Wheel) : Slice := x.slice 8

/-- A boundary number: boundaries passed since reset. -/
def State.b (s : State) : Nat := s.time.bnd

/-- The spoke's channel is used by a sealed meter (R285). -/
def State.sealedChannel (s : State) (c : Nat) : Bool :=
  s.mtr.any fun e => e.2.state != .undefined && e.2.def_.options.getLsbD 0 && (defChannels e.2.def_).contains c

/-- A spoke state that the rotation skips (R139). -/
def SliceState.skipped : SliceState → Bool
  | .retired | .covered | .service | .check | .probation | .failed | .off => true
  | _ => false

/-- The state a slice resumes when its wheel reaches ON again (R155); a spoke that was settling on its return is COVERED. -/
def SliceState.resume (jockey : Bool) : SliceState → SliceState
  | .service | .check | .probation => .covered
  | .settling => if jockey then .idle else .covered
  | .dwell => .idle
  | .off => if jockey then .idle else .serving
  | x => x

/-- Slice `k` is out of service and applies no change (R149): a spoke that settles on its return still is, and so is one whose wheel
settles while it is kept in such a state. -/
def Wheel.outOfService (x : Wheel) (k : Nat) : Bool :=
  let y := x.slice k
  if y.state == .settling && k < 8 then x.settled || (y.kept.resume false).skipped else y.state.skipped

/-- The slice that serves channel `8 w + k`: the spoke, the jockey (8), or none (R144, R154). -/
def Wheel.server (x : Wheel) (k : Nat) : Option Nat :=
  if (x.slice k).state == .serving then some k
  else if x.jockey.state == .serving && x.jockeyAt == some k then some 8
  else none

/-- The spoke whose channel the jockey serves. -/
def Wheel.jockeyServes (x : Wheel) : Option Nat := if x.jockey.state == .serving then x.jockeyAt else none

/-- The jockey is free for a takeover (R144). -/
def Wheel.jockeyFree (x : Wheel) : Bool :=
  (x.jockey.state == .dwell || x.jockey.state == .settling || x.jockey.state == .idle)
    && !x.jockey.suspect && x.takeover.isNone && x.prob.isNone

/-- A slice's epoch advances; a slice in service takes the new epoch as it applies the change, one out of service keeps the
one it holds (R116, R149). -/
def Slice.bump (x : Slice) (out : Bool) : Slice :=
  { x with epoch := x.epoch + 1, retained := if out then x.retained else some (x.epoch + 1) }

/-- The epoch of slice `k` of wheel `w` advances, once at a boundary (R116). A slice that has taken its epoch as it left service at this very
boundary misses the change: its current epoch advances past the one it retains (R149, log 115). -/
def State.bumpSlice (w k : Nat) (s : State) : State :=
  let x := s.wheel w
  let y := x.slice k
  let f (s : State) : State := s.modWheel w fun x => x.modSlice k fun y => y.bump (x.outOfService k)
  if x.outOfService k && y.retained == some y.epoch then f s else s.once (.slice w k) f

/-- The wheel engine's epoch advances, and the relief engine's while it serves the wheel; an engine whose domain is ON takes it (R116). -/
def State.bumpEngine (s : State) (w : Nat) : State :=
  let s := s.once (.engine w) fun s => s.modWheel w fun x =>
    { x with engEpoch := x.engEpoch + 1, engRetained := if s.domOn (wheelDom w) then some (x.engEpoch + 1) else x.engRetained }
  let s := s.bumpDomOnce (wheelDom w)
  if s.relief.phase == .serving && s.relief.wheel == w then s.bumpRelief else s

/-- A change to channel `c`: its spoke, the jockey of its wheel and the engine (R116). -/
def State.bumpChannel (s : State) (c : Nat) : State :=
  (State.bumpSlice (wheelOf c) 8 (s.bumpSlice (wheelOf c) (spokeOf c))).bumpEngine (wheelOf c)

/-- A change to a setting of wheel `w`: every slice and the engine (R116). -/
def State.bumpWheel (s : State) (w : Nat) : State :=
  (overTo 9 (fun s k => State.bumpSlice w k s) s).bumpEngine w

/-- Wheel `w` fires its source (R423). -/
def State.wheelEvent (s : State) (w code data : Nat) : State := s.fire (624 + w) code (BitVec.ofNat 32 data)

/-- A slice enters FAILED, and the wheel event says so (R130, R153, R423). -/
def failSlice (w k : Nat) (s : State) : State :=
  (s.modWheel w fun x => x.modSlice k fun y => { y with state := .failed }).wheelEvent w 7 k

/-- The channel of spoke `k` is lost (R154). -/
def channelLost (w k : Nat) (s : State) : State := s.wheelEvent w 4 (8 * w + k)

/-- Master clocks of the longest interval between a failing instant and its detection: 667 us (R129). -/
def detectClocks : Nat := 32768

/-- A slice fails its self-check: FAILED at once from any state, except a retired spoke and one whose domain is not ON; a
return check, probation or service run of it ends (R129, R148, R150, R154). `back`: master clocks from the failing instant to its
detection. A channel that the slice serves is lost. -/
def selfCheckFail (w k back : Nat) (s : State) : State :=
  let x := s.wheel w
  let y := x.slice k
  if !s.domOn (wheelDom w) || y.state == .retired || (y.state == .off && y.kept == .retired) || y.state == .failed || 8 < k then s
  else
    let s := s.modWheel w fun x => x.modSlice k fun y =>
      { y with failedAt := some (s.now - Nat.min back detectClocks, s.now), failedFrom := y.state
               kept := if y.state == .off then .failed else y.kept }
    let s := failSlice w k s
    if k = 8 then
      match x.jockeyServes with
      | some sp => channelLost w sp s
      | none => s
    else
      let s := s.modWheel w fun x =>
        { x with ret := x.ret.bind (fun r => if r.spoke = k then none else some r),
                 service := x.service.bind (fun v => if v.spoke = k then none else some v) }
      if y.state == .serving then channelLost w k s else s

/-! ## Shifts (R133 to R137) -/

/-- The climb gear of the channel holds an accepted calibration on the path that serves it (R132). -/
def State.climbAccepted (s : State) (w k : Nat) : Bool :=
  let c := s.channel (8 * w + k)
  let path := if (s.wheel w).server k == some 8 then 1 else 0
  (c.set 1 path).calCount != 0

/-- The gear policy in effect: AUTO without an accepted climb calibration acts as CRUISE (R132). -/
def State.gearPolicy (s : State) (w k : Nat) : Nat :=
  let p := (s.channel (8 * w + k)).gearPolicy
  if p = 0 && !s.climbAccepted w k then 1 else p

/-- Slices that shift with the derailleur of spoke `k`'s channel: the one that serves it, and those that shadow it or settle on its
pins to shadow or serve it (R140, R155). -/
def Wheel.shiftSet (x : Wheel) (k : Nat) : List Nat :=
  let serves := (x.server k).toList
  let shadowsJ := if (x.jockey.state == .dwell || x.jockey.state == .settling) && x.jockeyAt == some k then [8] else []
  let st := (x.slice k).state
  let shadowsS := if st == .check || st == .probation || (st == .settling && x.ret.any fun r => r.spoke = k) then [k] else []
  (serves ++ shadowsJ ++ shadowsS).eraseDups

/-- The gear of the channel of spoke `k`: that of the slice that serves it, or the spoke's own. -/
def Wheel.gearOf (x : Wheel) (k : Nat) : Bool := (x.slice ((x.server k).getD k)).climb

/-- A slice takes the gear of the slice it shadows, at the entry to DWELL, CHECK or PROBATION (R140). -/
def shadowGear (w k spoke : Nat) (s : State) : State :=
  s.modWheel w fun x => x.modSlice k fun y => y.toGear s.now (x.gearOf spoke) false

/-- The channel's slices shift gear; each counts it (R133, R137, R140), and the DC-block estimate freezes for 32 fine samples
after the last bridged one (R175). -/
def shiftChannel (w k : Nat) (climb : Bool) (s : State) : State :=
  let s := ((s.wheel w).shiftSet k).foldl (fun s j => s.modWheel w fun x => x.modSlice j fun y =>
    if y.climb == climb then y
    else if climb then { y.toGear s.now true true with down := y.down + 1 }
    else { y.toGear s.now false true with up := y.up + 1 }) s
  s.modChannel (8 * w + k) fun c => { c with shiftAt := some s.now }

/-- The spoke whose channel's derailleur is slice `k`'s: that of the channel it serves, or in wheel probation the spoke's own
(R153). -/
def Wheel.servedBy (x : Wheel) (k : Nat) : Option Nat :=
  if k < 8 then (if (x.slice k).state == .serving || (x.prob.isSome && (x.slice k).state == .probation) then some k else none)
  else x.jockeyServes

/-- The gear that the policy in effect asks of the channel of spoke `k` is taken where it is not in use: when the channel is served again, or when the
policy's effect changes (R132). -/
def gearPass (w : Nat) (s : State) : State :=
  overTo 8 (fun s k =>
    let x := s.wheel w
    if x.settled && (x.server k).isSome && s.domOn (wheelDom w) then
      match s.gearPolicy w k with
      | 1 => if x.gearOf k then shiftChannel w k false s else s
      | 2 => if x.gearOf k then s else shiftChannel w k true s
      | _ => s
    else s) s

/-- An up-shift: under AUTO, in climb, a fast sample above 75 % of climb full scale (R133). The fast sample's magnitude is
in units of 2^-16 of the full scale of its gear. -/
def upShift (w k mag : Nat) (s : State) : State :=
  match (s.wheel w).servedBy k with
  | none => s
  | some sp =>
    if s.gearPolicy w sp = 0 && ((s.wheel w).slice k).climb && 3 * 2 ^ 14 < mag then shiftChannel w sp false s else s

/-- A down-shift: under AUTO, in cruise, after 6,144 consecutive fast samples below 3 % of cruise full scale (R133). The row
brings the number of consecutive samples below 15 mV since the last one that was not. -/
def downShift (w k run : Nat) (s : State) : State :=
  match (s.wheel w).servedBy k with
  | none => s
  | some sp =>
    if s.gearPolicy w sp = 0 && !((s.wheel w).slice k).climb && 6144 ≤ run then shiftChannel w sp true s
    else s.modWheel w fun x => x.modSlice k fun y => { y with lowRun := run }

/-! ## Rotation (R139) -/

/-- The first spoke of the eight after `from_`, in rotation order, that is not skipped. -/
def Wheel.nextSpoke (x : Wheel) (from_ : Nat) : Option Nat :=
  ((List.range 8).map fun i => (from_ + i) % 8).find? fun k => !(x.slice k).state.skipped

/-- The jockey moves to the pins of spoke `k` at the present boundary and settles; its DC-block state is loaded with the
spoke's estimate (R139). -/
def moveJockey (w k : Nat) (s : State) : State :=
  s.modWheel w fun x =>
    let x := x.modSlice 8 fun y =>
      { y.toGear s.now (x.gearOf k) false with state := .settling, load := some (s.b, k) }
    { x with jockeyAt := some k, visit := some { spoke := k, at_ := s.b, tally := ⟨0, 0⟩ } }

/-- The jockey parks on no pins. -/
def idleJockey (w : Nat) (s : State) : State :=
  s.modWheel w fun x => { x.modSlice 8 (fun y => { y with state := .idle }) with jockeyAt := none, visit := none }

/-- The jockey follows its policy from spoke `from_` on: IDLE under OFF or with every spoke skipped, else it moves to the
next spoke (R138, R139, R152). -/
def follow (w from_ : Nat) (s : State) : State :=
  let x := s.wheel w
  if x.policy = 0 then idleJockey w s
  else match x.nextSpoke from_ with
    | none => idleJockey w s
    | some k => moveJockey w k s

/-! ## Verdicts (R141 to R143) -/

/-- The verdict of a 16-cadence window (R141). -/
def verdictOf (t : Tally) : Verdict :=
  if t.compared < 12 then .inconclusive else if 3 * t.compared ≤ 4 * t.failed then .fail else .pass

/-- Spokes with a FAIL among the verdicts, without repeats. -/
def failedSpokes (l : List (Nat × Verdict)) : List Nat := ((l.filter fun v => v.2 == .fail).map (·.1)).eraseDups

/-- The verdict on spoke `k` is the second consecutive FAIL on it, with at least four PASS verdicts on others between
(R143); `l`: earlier verdicts, newest first. -/
def secondFail (l : List (Nat × Verdict)) (k : Nat) : Bool :=
  match l.span fun v => v.1 != k with
  | (between, (_, .fail) :: _) => 4 ≤ (between.filter fun v => v.2 == .pass).length
  | _ => false

/-- Every spoke that the rotation does not skip has been judged without a FAIL (R142). -/
def Wheel.fullRotation (x : Wheel) : Bool :=
  (List.range 8).all fun k => (x.slice k).state.skipped || x.clean.contains k

/-- A verdict on spoke `k` is taken: the jockey's mark first, then the spoke's, then the mark's end after a full rotation
without a FAIL (R142, R143). -/
def takeVerdict (w k : Nat) (v : Verdict) (s : State) : State :=
  let old := (s.wheel w).verdicts
  let s := s.modWheel w fun x =>
    { x with verdicts := ((k, v) :: x.verdicts).take 64, jcount := ((k, v) :: x.jcount).take 8,
             clean := if v == .fail then [] else (k :: x.clean).eraseDups }
  let x := s.wheel w
  let s := if !x.jockey.suspect && 3 ≤ (failedSpokes x.jcount).length then
      (s.modWheel w fun x => { x.modSlice 8 (fun y => { y with suspect := true }) with clean := [] }).wheelEvent w 3 8
    else s
  let x := s.wheel w
  if !x.jockey.suspect then
    if v == .fail && secondFail old k && !(x.slice k).suspect then
      (s.modWheel w fun x => x.modSlice k fun y => { y with suspect := true }).wheelEvent w 1 k
    else s
  else if x.fullRotation then
    (s.modWheel w fun x => { x.modSlice 8 (fun y => { y with suspect := false }) with jcount := [], clean := [] }).wheelEvent w 2 8
  else s

/-- The verdict of a dwell whose 16 cadences have closed and been published (R141). -/
def dwellVerdictPass (w : Nat) (s : State) : State :=
  match (s.wheel w).verdictDue with
  | none => s
  | some v =>
    if v.at_ + 18 ≤ s.b then takeVerdict w v.spoke (verdictOf v.tally) (s.modWheel w fun x => { x with verdictDue := none })
    else s

/-- A dwell ends before its time: INCONCLUSIVE (R141). -/
def cutDwell (w : Nat) (s : State) : State :=
  match (s.wheel w).visit with
  | none => s
  | some v =>
    let s := s.modWheel w fun x => { x with visit := none }
    if v.at_ + 17 ≤ s.b then s.modWheel w fun x => { x with verdictDue := some v }
    else if v.at_ + 1 ≤ s.b then takeVerdict w v.spoke .inconclusive s else s

/-- The rotation at a boundary: the settle cadence ends, a full dwell ends and the jockey moves on, a dwell on a spoke that is
now skipped ends, an idle jockey resumes (R138, R139, R141). -/
def rotationPass (w : Nat) (s : State) : State :=
  let x := s.wheel w
  let busy := x.takeover.isSome || x.prob.isSome || x.calRun.isSome
  match x.jockey.state with
  | .settling | .dwell =>
    match x.visit with
    | none => if busy then s else follow w (x.jockeyAt.getD 7 + 1) s
    | some v =>
      let s := if v.at_ + 1 = s.b then
          shadowGear w 8 v.spoke (s.modWheel w fun x => x.modSlice 8 fun y => { y with state := .dwell })
        else s
      if busy then s
      else if v.at_ + 17 ≤ s.b || (x.slice v.spoke).state.skipped then follow w (v.spoke + 1) (cutDwell w s)
      else s
  | .idle => if busy || x.policy = 0 then s else follow w 0 s
  | _ => s

/-! ## Takeover (R144 to R147, R151) -/

/-- A takeover is decided for spoke `k` (R144): the jockey moves to its pins unless it is there, and settles for the takeover, not for a
dwell. -/
def decideTakeover (w k action bt : Nat) (auto : Bool) (s : State) : State :=
  let s := s.modWheel w fun x => { x with takeover := some { spoke := k, action, bt, auto } }
  if (s.wheel w).jockeyAt == some k then s
  else (moveJockey w k (cutDwell w s)).modWheel w fun x => { x with visit := none }

/-- The candidate of AUTO: the lowest FAILED spoke, then the lowest SUSPECT one (R144); a run's own spoke is not taken for a
SUSPECT mark while the run lasts (R278). -/
def Wheel.autoChoice (x : Wheel) : Option (Nat × Bool) :=
  match (List.range 8).find? fun k => (x.slice k).state == .failed with
  | some k => some (k, true)
  | none =>
    ((List.range 8).find? fun k => (x.slice k).state == .serving && (x.slice k).suspect
      && x.calRun.all fun c => spokeOf c != k).map fun k => (k, false)

/-- A calibration run no longer holds the wheel (R275, R278): a takeover for its reference leg is dropped, its spoke in the leg becomes
COVERED, and the jockey, unless it serves, resumes rotation at the next boundary. -/
def Wheel.endRun (x : Wheel) : Wheel :=
  match x.calRun with
  | none => x
  | some c =>
    let x := { x with calRun := none, visit := none, takeover := x.takeover.filter fun t => t.action != 3 }
    if (x.slice (spokeOf c)).state == .service && x.service.isNone then
      x.modSlice (spokeOf c) fun y => { y with state := .covered } else x

/-- A calibration run on wheel `w` ends ABORTED (R278). -/
def abortRun (w : Nat) (s : State) : State :=
  match (s.wheel w).calRun with
  | none => s
  | some c =>
    let s := s.modChannel c fun ch =>
      { ch with cand := ch.cand.map fun (g, k) => (g, if k.status == .running then { k with status := .aborted } else k) }
    s.modWheel w Wheel.endRun

/-- A decision under AUTO (R144): at once where the jockey has spent the closing cadence on a FAILED spoke's pins, else at the
next boundary; a calibration run on the wheel ends (R278). -/
def decisionAutoPass (w : Nat) (s : State) : State :=
  let x := s.wheel w
  if x.policy = 2 && x.settled && x.jockeyFree then
    match x.autoChoice with
    | none => s
    | some (k, failed) =>
      let s := abortRun w s
      let there := x.jockeyAt == some k && x.visit.any fun v => v.at_ < s.b
      decideTakeover w k (if failed then 0 else 1) (if failed && there then s.b else s.b + 1) true s
  else s

/-- The action in force at BT: recalibrate becomes cover for a spoke that has FAILED, and for a sealed channel while the
seal is closed (R147). -/
def actionAt (s : State) (w : Nat) (t : Takeover) : Nat :=
  if t.action = 1 && (((s.wheel w).slice t.spoke).state == .failed || (s.sealedChannel (8 * w + t.spoke) && !s.seals.open_))
  then 0 else t.action

/-- The gear of the calibration run under way on channel `c`: climb (R272). -/
def State.runClimb (s : State) (c : Nat) : Bool := (s.channel c).cand.any fun e => e.2.status == .running && e.1 == 1

/-- A takeover at BT (R144, R146, R147): an open dwell ends, the jockey serves the channel, the spoke leaves service and takes its advanced
epoch. A spoke in SERVICE is in cruise (R148), and in the target gear for the reference leg of a calibration run, action 3 (R272). -/
def takeoverPass (w : Nat) (s : State) : State :=
  let x := s.wheel w
  match x.takeover with
  | none => s
  | some t =>
    if x.jockey.state == .failed || x.jockey.state == .off then s.modWheel w fun x => { x with takeover := none }
    else if t.bt ≤ s.b then
      let a := actionAt s w t
      (cutDwell w s).modWheel w fun x =>
        let x := x.modSlice t.spoke fun y =>
          { (if a = 1 then y.toGear s.now false false else if a = 3 then y.toGear s.now (s.runClimb (8 * w + t.spoke)) false else y) with
            state := if a = 2 then .retired else if a = 0 then .covered else .service
            epoch := y.epoch + 1, retained := some (y.epoch + 1) }
        let x := x.modSlice 8 fun y => { y with state := .serving }
        { x with
          takeover := none, visit := none, jockeyAt := some t.spoke
          service := if a = 1 then some { spoke := t.spoke, bt := s.b, halves := [], means := [] } else x.service }
    else s

/-! ## Service recalibration (R148) -/

/-- The spoke leaves its service run for FAILED (R148). -/
def failService (w : Nat) (v : Service) (s : State) : State :=
  failSlice w v.spoke (s.modWheel w fun x => { x with service := none })

/-- Phase `j` (0 to 3) is accepted with its mean: its halves agree, and a response is positive (R148). -/
def phaseAccepted (v : Service) (j : Nat) : Option Rat :=
  match (v.halves.get Halves.zero j).means with
  | none => none
  | some (a, b) =>
    if j % 2 = 0 then (if agreeOffset a b then some ((a + b) / 2) else none)
    else
      let off := v.means.getD (j - 1) 0
      if agreeGain 200 (a - off) (b - off) && 0 < (a + b) / 2 - off then some ((a + b) / 2) else none

/-- A phase that has ended and been published is judged (R148); the last one is judged with the commit. -/
def phaseEndPass (w : Nat) (s : State) : State :=
  match (s.wheel w).service with
  | none => s
  | some v =>
    let j := v.means.length
    if j < 4 && v.bt + 17 * (j + 1) + 1 ≤ s.b then
      match phaseAccepted v j with
      | none => failService w v s
      | some m => s.modWheel w fun x => { x with service := some { v with means := v.means ++ [m] } }
    else s

/-- The gear of a spoke in SERVICE: cruise through phases 1 and 2, climb through 3 and 4 (R148). -/
def serviceGearPass (w : Nat) (s : State) : State :=
  match (s.wheel w).service with
  | none => s
  | some v => s.modWheel w fun x => x.modSlice v.spoke fun y => y.toGear s.now (decide (v.bt + 34 ≤ s.b)) false

/-- The new set of a gear after a service run: offset and response measured, gain scaled by the responses' ratio (R148,
R277). -/
def serviceSet (x : CalSet) (off resp : Rat) (stamp : Nat) : CalSet :=
  { x with
    offset := roundSigned 40 (off * 16)
    gain := if x.refResp = 0 then x.gain else roundField 41 ((x.gain : Rat) * ((x.refResp : Rat) / (2 ^ 16 : Nat)) / resp)
    refResp := roundSigned 42 (resp * (2 ^ 16 : Nat))
    svcCount := x.svcCount + 1
    svcTime := stamp }

/-- The candidate of a channel and gear for the spoke's set is superseded by a change of that set (R278). -/
def supersede (c : Nat) (gear : Nat) (s : State) : State :=
  s.modChannel c fun ch => { ch with cand := ch.cand.map fun (g, k) =>
    (g, if g = gear && k.spokePath && (k.status == .ready || k.status == .running) then { k with status := .superseded } else k) }

/-! ## Return (R150, R152, R154) -/

/-- A spoke returns at the present boundary: its pins, the jockey's estimate, one settle cadence (R150). -/
def returnPass (w k : Nat) (s : State) : State :=
  s.modWheel w fun x =>
    let x := x.modSlice k fun y =>
      { y.toGear s.now x.jockey.climb false with state := .settling, load := some (s.b, 8), failedAt := none }
    { x with ret := some { spoke := k, br := s.b, stale := false, tallies := [], passed := 0, inconclusive := 0 } }

/-- An emergency return: the channel goes back to the spoke without a check, with SUSPECT samples (R154). -/
def emergencyReturn (w k : Nat) (s : State) : State :=
  s.modWheel w fun x =>
    { x.modSlice k (fun y => { y with state := .serving, emergency := true }) with ret := none, jockeyAt := none }

/-- At the boundary after the jockey fails while it serves a channel: an emergency return of a spoke that is COVERED or in a
return, and COVERED without a return for one in SERVICE (R154). The failure itself has raised the channel-loss event. -/
def emergencyPass (w : Nat) (s : State) : State :=
  let x := s.wheel w
  if x.jockey.state == .failed then
    match x.jockeyAt with
    | none => s
    | some k =>
      match (x.slice k).state with
      | .covered | .check | .probation => if x.prob.isSome then s else emergencyReturn w k s
      | .settling => if x.ret.isSome then emergencyReturn w k s else s
      | .service =>
        s.modWheel w fun x => { x.modSlice k (fun y => { y with state := .covered }) with service := none, jockeyAt := none }
      | .failed | .retired => s.modWheel w fun x => { x with jockeyAt := none }
      | _ => s
  else s

/-- The handback: the spoke serves again, its marks end, the jockey goes on (R143, R152). -/
def handbackPass (w : Nat) (s : State) : State :=
  let x := s.wheel w
  match x.ret with
  | none => s
  | some r =>
    if (if r.stale then 4 else 1) ≤ r.passed && x.calRun.isNone && x.jockey.state == .serving then
      let was := (x.slice r.spoke).suspect
      let s := s.modWheel w fun x =>
        { x.modSlice r.spoke (fun y => { y with state := .serving, suspect := false, emergency := false, stale := false })
          with ret := none }
      let s := if was then s.wheelEvent w 2 r.spoke else s
      follow w (r.spoke + 1) s
    else s

/-- The windows of a return that have closed and been published are judged: a FAIL or a fifth INCONCLUSIVE puts the spoke in
FAILED (R150). `stale`: which of the two kinds of return the pass judges. -/
def returnVerdictPass (stale : Bool) (w : Nat) (s : State) : State :=
  let x := s.wheel w
  match x.ret with
  | none => s
  | some r =>
    let i := r.passed + r.inconclusive
    if r.stale == stale && r.passed < (if r.stale then 4 else 1) && r.br + 18 + 16 * i ≤ s.b then
      match verdictOf (r.tallies.get ⟨0, 0⟩ i) with
      | .pass => s.modWheel w fun x => { x with ret := some { r with passed := r.passed + 1 } }
      | .inconclusive =>
        if r.inconclusive = 4 then failSlice w r.spoke (s.modWheel w fun x => { x with ret := none })
        else s.modWheel w fun x => { x with ret := some { r with inconclusive := r.inconclusive + 1 } }
      | .fail => failSlice w r.spoke (s.modWheel w fun x => { x with ret := none })
    else s

/-- The settle cadence of a return ends and the spoke compares its epochs: CHECK where they are equal; where they differ it is stale, is
re-initialised with the current epoch and enters PROBATION (R117, R150). -/
def returnSettlePass (w : Nat) (s : State) : State :=
  match (s.wheel w).ret with
  | none => s
  | some r =>
    let y := (s.wheel w).slice r.spoke
    if r.br + 1 ≤ s.b && y.state == .settling then
      let stale := y.retained != some y.epoch
      shadowGear w r.spoke r.spoke (s.modWheel w fun x =>
        { x.modSlice r.spoke (fun y => { y with state := if stale then .probation else .check, stale, retained := some y.epoch })
          with ret := some { r with stale } })
    else s

/-- At BT + 69 an accepted service run commits its sets and the spoke returns, or the spoke enters FAILED (R148, R150). The
epoch advances, and the spoke takes it only when it held its current epoch. -/
def serviceCommitPass (w : Nat) (s : State) : State :=
  match (s.wheel w).service with
  | none => s
  | some v =>
    if v.means.length = 4 && v.bt + 69 ≤ s.b then
      let c := 8 * w + v.spoke
      let m := fun j => v.means.getD j 0
      let ch := s.channel c
      let n0 := serviceSet (ch.set 0 0) (m 0) (m 1 - m 0) s.stamp
      let n1 := serviceSet (ch.set 1 0) (m 2) (m 3 - m 2) s.stamp
      if setValid 0 n0 && setValid 1 n1 then
        let s := (s.modChannel c fun ch => (ch.putSet 0 0 n0).putSet 1 0 n1).touch 0
        let s := supersede c 1 (supersede c 0 s)
        let s := s.modWheel w fun x =>
          { x.modSlice v.spoke (fun y =>
              if y.retained = some y.epoch then { y with epoch := y.epoch + 1, retained := some (y.epoch + 1) }
              else { y with epoch := y.epoch + 1 }) with service := none }
        returnPass w v.spoke ((State.bumpSlice w 8 s).bumpEngine w)
      else failService w v s
    else s

/-! ## Wheel probation (R153) -/

/-- The verdict of a visit: 5 compared cadences are needed (R153). -/
def visitVerdict (t : Tally) : Verdict :=
  if t.compared < 5 then .inconclusive else if 3 * t.compared ≤ 4 * t.failed then .fail else .pass

/-- Code of a verdict in the wheel's event (R423). -/
def Verdict.code : Verdict → Nat
  | .pass => 0
  | .fail => 1
  | .inconclusive => 2

/-- The jockey takes the pins of a spoke for visit `i` of wheel probation; it stays in DWELL, in the spoke's gear (R153). -/
def visitSpoke (w i k : Nat) (s : State) : State :=
  s.modWheel w fun x =>
    { x.modSlice 8 (fun y => { y.toGear s.now (x.slice k).climb false with state := .dwell, load := some (s.b, k) })
      with jockeyAt := some k, prob := x.prob.map fun p => { p with visits := p.visits.put i k } }

/-- Wheel probation begins at BW: every spoke that is not RETIRED enters PROBATION, the jockey DWELL, and every slice takes
the current epoch (R153). -/
def startProbation (w : Nat) (s : State) : State :=
  let x := s.wheel w
  let spokes := (List.range 8).filter fun k => (x.slice k).state != .retired && (x.slice k).kept != .retired
  let s := s.modWheel w fun x =>
    let x := spokes.foldl (fun x k => x.modSlice k fun y => { y with state := .probation }) x
    let x := overTo 9 (fun x k => x.modSlice k fun y => { y with retained := some y.epoch, failedAt := none }) x
    let x := x.modSlice 8 fun y => { y with state := .dwell }
    { x with
      prob := some { bw := s.b, spokes, visits := [], tallies := [], verdicts := [] }, takeover := none, visit := none,
      ret := none, service := none }
  match spokes.head? with
  | some k => visitSpoke w 0 k s
  | none => s

/-- The spoke of visit `i` of the first eight (R153). -/
def WheelProb.spokeOf (p : WheelProb) (i : Nat) : Nat := p.spokes.getD (i % Nat.max 1 p.spokes.length) 0

/-- Spokes in probation without a PASS or FAIL visit, ascending. -/
def WheelProb.unjudged (p : WheelProb) : List Nat :=
  p.spokes.filter fun k => !(p.verdicts.any fun v => v.1 == k && v.2 != .inconclusive)

/-- A visit that has ended and been published is judged, and its event raised (R153). -/
def visitVerdictPass (w : Nat) (s : State) : State :=
  let x := s.wheel w
  match x.prob with
  | none => s
  | some p =>
    let i := p.verdicts.length
    if p.bw + 8 * i + 9 ≤ s.b then
      let k := p.visits.get (p.spokeOf i) i
      let v := visitVerdict (p.tallies.get ⟨0, 0⟩ i)
      (s.modWheel w fun x => { x with prob := some { p with verdicts := p.verdicts ++ [(k, v)] } }).wheelEvent w 10
        (k + 16 * v.code)
    else s

/-- The jockey goes back to the channel of a RETIRED spoke, which it serves from its retirement on (R151); where the wheel has none it
follows its policy (R138). -/
def jockeyGoesOn (w : Nat) (s : State) : State :=
  match (List.range 8).find? fun k => ((s.wheel w).slice k).state == .retired with
  | some k => s.modWheel w fun x =>
      { x.modSlice 8 (fun y => { y with state := .serving, load := some (s.b, k) }) with jockeyAt := some k, visit := none }
  | none => follow w 0 s

/-- The outcome of wheel probation (R153): whether the jockey passed is an argument. -/
def probationOutcome (w : Nat) (passed : Bool) (p : WheelProb) (s : State) : State :=
  let pass := fun k => p.verdicts.any (fun v => v.1 == k && v.2 == .pass) && !p.verdicts.any (fun v => v.1 == k && v.2 == .fail)
  let s := s.modWheel w fun x => { x with prob := none, jockeyAt := none, visit := none }
  let inProb := p.spokes.filter fun k => ((s.wheel w).slice k).state == .probation
  if passed then
    let back := inProb.filter pass
    let s := back.foldl (fun s k => s.modWheel w fun x => x.modSlice k fun y =>
      { y with state := .serving, suspect := false, emergency := false, stale := false }) s
    let s := (inProb.filter fun k => !pass k).foldl (fun s k => failSlice w k (s.modWheel w fun x =>
      x.modSlice k fun y => { y with stale := false })) s
    let s := s.modWheel w fun x => { x.modSlice 8 (fun y => { y with stale := false, state := .idle }) with jcount := [], clean := [] }
    jockeyGoesOn w (s.wheelEvent w 11 (1 + 256 * maskOf back))
  else
    let s := inProb.foldl (fun s k => s.modWheel w fun x => x.modSlice k fun y =>
      { y with state := .serving, emergency := true, stale := false }) s
    let s := if (s.wheel w).jockey.state == .failed then s else failSlice w 8 s
    s.wheelEvent w 11 (256 * maskOf inProb)

/-- Wheel probation at a boundary: its outcome once every visit needed has been judged or the jockey has failed its self-check,
else the next visit's pins (R153). -/
def probationPass (w : Nat) (s : State) : State :=
  let x := s.wheel w
  match x.prob with
  | none => s
  | some p =>
    let n := p.verdicts.length
    if x.jockey.state == .failed then probationOutcome w false p s
    else if (8 ≤ n && p.unjudged.isEmpty) || 16 ≤ n then
      probationOutcome w (decide ((failedSpokes p.verdicts).length < 3)) p s
    else if (s.b - p.bw) % 8 = 0 then
      let i := (s.b - p.bw) / 8
      if i < 8 then visitSpoke w i (p.spokeOf i) s
      else if 16 ≤ i then s
      else
        -- the visit that ends here is judged at the next boundary: its own spoke is visited again only where no other is left
        let cur := x.jockeyAt.getD 0
        match (p.unjudged.filter fun k => k != cur).head? with
        | some k => visitSpoke w i k s
        | none => if p.unjudged.contains cur then visitSpoke w i cur s else s
    else s

/-! ## The wheel domain (R117, R155, R160, R187) -/

/-- The wheel domain leaves ON: runs are abandoned, states kept (R155), and what the slices' filters hold is lost (R102). A spoke in wheel
probation keeps SERVING; a wheel that has not settled keeps what it kept before. -/
def wheelLeavesOn (w : Nat) (s : State) : State :=
  let s := abortRun w s
  s.modWheel w fun x =>
    let x := overTo 9 (fun z k => z.modSlice k fun y =>
      if y.state == .off then y
      else
        let kept := if y.state == .failed then .failed
          else if !x.settled then y.kept
          else if x.prob.isSome && y.state == .probation then .serving else y.state.resume (k == 8)
        { y with state := .off, kept, norm := [], past := [], m := 0, integ := 0, integIn := 0, left := 0, lowRun := 0, load := none
                 fastCic := Cic.zero 3, fineCic := Cic.zero 5, tail := [], fastTail := [] }) x
    let keepAt := (x.slice 8).kept == .serving
    { x with takeover := none, visit := none, verdictDue := none, service := none, ret := none, prob := none,
             settled := false, temps := [], tstale := true, fade := none,
             jockeyAt := if keepAt then x.jockeyAt else none }

/-- The wheel domain reaches ON: units compare their epochs and are re-initialised where they differ (R117). -/
def wheelReachesOn (w : Nat) (s : State) : State :=
  s.modWheel w fun x =>
    let x := overTo 9 (fun x k => x.modSlice k fun y =>
      match y.retained with
      | none => { y with retained := some y.epoch }
      | some e => if e = y.epoch then y else { y with stale := true }) x
    { x with engRetained := some x.engEpoch }

/-- The wheel settles: probation where a slice is stale, else the slices resume the states they kept (R153, R155, R187). -/
def wheelSettledPass (w : Nat) (s : State) : State :=
  let x := s.wheel w
  let due := match (s.dom (wheelDom w)).onAt with
    | some t => decide (t + 196608 ≤ s.now)
    | none => false
  if s.domOn (wheelDom w) && !x.settled && due then
    let stale := (List.range 9).any fun k => (x.slice k).stale && (x.slice k).kept != .retired
    let s := s.modWheel w fun x =>
      { overTo 9 (fun x k => x.modSlice k fun y => { y with state := if y.state == .off || y.state == .settling then
          (if k = 8 && y.kept == .off then .idle else y.kept.resume (k == 8)) else y.state }) x with settled := true }
    if stale then startProbation w s
    else if (s.wheel w).jockey.state == .serving || (s.wheel w).jockey.state == .failed then s
    else follow w 0 s
  else s

/-- Slices of a wheel that is ON and not settled read SETTLING (R130). -/
def settlingPass (w : Nat) (s : State) : State :=
  if s.domOn (wheelDom w) && !(s.wheel w).settled then
    s.modWheel w fun x => overTo 9 (fun x k => x.modSlice k fun y =>
      if y.state == .off then { y with state := if y.kept == .retired || y.kept == .failed then y.kept else .settling } else y) x
  else s

/-- The mean of readings, to the nearest 1/64 degree with ties to even (R160). -/
def meanTemp (l : List Int) : Int :=
  let n : Int := l.length
  if n = 0 then 0
  else
    let q := (2 * l.sum + n) / (2 * n)
    if (2 * l.sum + n) % (2 * n) = 0 && q % 2 = 1 then q - 1 else q

/-- A temperature reading: the mean of the last 16 of the ON period, or the first until there are 16 (R160). -/
def temperaturePass (w : Nat) (reading : Int) (s : State) : State :=
  if s.domOn (wheelDom w) then
    s.modWheel w fun x =>
      let temps := (reading :: x.temps).take 16
      { x with temps, temp := if temps.length = 16 then meanTemp temps else temps.getLastD reading, tstale := false }
  else s

/-! ## Engines (R156 to R159) -/

/-- Master clocks from the stamp of a fine sample at position 0 to the instant at which its computation can begin: 1,683.187 us (R169). -/
def computeClocks : Nat := 82732

/-- Offset, in the cadence after the one it follows, of the slot of the known-answer test: after fine index 127 (R156, R169). -/
def testSlot : Nat := 79661

/-- The stamp of the first fine sample that a failed engine cannot vouch for (R156). Where a buffer has filled, the engine stopped taking
samples 62.5 us before; where the known-answer test fails, it has not passed since the one a cadence before (log 116). -/
def State.unvouched (s : State) (full : Bool) : Nat :=
  if full then s.now - 3072 - computeClocks
  else (s.b - (if testSlot ≤ s.time.off then 1 else 2)) * cadenceClocks

/-- A wheel engine is declared failed: its samples are LOST from the first it cannot vouch for (R156); with the relief engine not free the
channels' loss raises events (R159). -/
def engineFail (w : Nat) (full : Bool) (s : State) : State :=
  if (s.wheel w).engine != 0 || !s.domOn (wheelDom w) then s
  else
    let s := s.modWheel w fun x => { x with engFailed := true, lostFrom := some (s.unvouched full), engine := 2, passRun := 0 }
    if s.relief.phase == .free && !s.relief.failed then s else overTo 8 (fun s k => channelLost w k s) s

/-- At F the free relief engine is ordered for a failed wheel engine: RLF rises and its claim begins (R157). DESIGN CHOICE (log 117): of
several that failed, the lowest-numbered wheel. Its estimates are those that the failed engine held at its last good boundary: LOST
samples freeze them (R175). -/
def reliefLoadPass (s : State) : State :=
  if s.relief.phase == .free && !s.relief.failed then
    match (List.range 16).find? fun w => (s.wheel w).engine == 2 with
    | none => s
    | some w => { s with relief := { s.relief with phase := .loading, wheel := w, due := s.b + 1 } }
  else s

/-- The relief engine serves a wheel from here on (R157, R158). -/
def reliefServe (w : Nat) (s : State) : State :=
  let s := { s with relief := { s.relief with phase := .serving, wheel := w } }
  (s.modWheel w fun x => { x with engine := 1, lostFrom := none }).wheelEvent w 5 0

/-- At F + 1 the relief engine serves the failed wheel (R157). -/
def reliefInServicePass (s : State) : State :=
  if s.relief.phase == .loading && s.relief.due ≤ s.b && s.domOn 13 then reliefServe s.relief.wheel s else s

/-- A planned handover takes place after its parallel cadence; a repaired engine needs 16 passing tests first (R158). -/
def plannedHandoverPass (s : State) : State :=
  let w := s.relief.wheel
  match s.relief.phase with
  | .taking => if s.relief.due ≤ s.b && s.domOn 13 then reliefServe w s else s
  | .returning =>
    if (s.wheel w).engFailed then
      if 16 ≤ (s.wheel w).passRun then
        { s.modWheel w (fun x => { x with engFailed := false }) with relief := { s.relief with due := s.b + 2 } }
      else s
    else if s.relief.due ≤ s.b then
      let s := s.modWheel w fun x => { x with engine := 0, lostFrom := none, passRun := 0 }
      { s with relief := { s.relief with phase := .free } }.wheelEvent w 6 0
    else s
  | _ => s

/-- The relief engine fails: while it serves, its wheel's channels are LOST (R159). -/
def reliefFail (s : State) : State :=
  let w := s.relief.wheel
  if s.relief.failed then s
  else
    let was := s.relief.phase
    let s := { s with relief := { s.relief with failed := true } }
    match was with
    | .serving | .returning =>
      overTo 8 (fun s k => channelLost w k s) (s.modWheel w fun x => { x with lostFrom := some (s.unvouched false), engine := 2 })
    | .free => s
    | _ => { s with relief := { s.relief with phase := .free } }

/-- Known-answer tests of a closing cadence: an engine that had failed counts consecutive passes (R156, R158). -/
def knownAnswerPass (failed : List Nat) (w : Nat) (s : State) : State :=
  if (s.wheel w).engFailed then
    s.modWheel w fun x => { x with passRun := if failed.contains w then 0 else x.passRun + 1 }
  else s

/-! ## The passes of a boundary, wheel by wheel -/

/-- What a boundary does to wheel `w` at step 1 of R27, while its domain is ON. -/
def wheelPass (temp : Nat → Int) (katFailed : List Nat) (s : State) (w : Nat) : State :=
  if s.domOn (wheelDom w) then
    let s := temperaturePass w (temp w) s
    let s := wheelSettledPass w (settlingPass w s)
    let s := knownAnswerPass katFailed w s
    let s := probationPass w (visitVerdictPass w (emergencyPass w s))
    let s := returnSettlePass w s
    let s := handbackPass w (returnVerdictPass true w (returnVerdictPass false w s))
    let s := serviceGearPass w (serviceCommitPass w (phaseEndPass w s))
    let s := dwellVerdictPass w s
    let s := decisionAutoPass w s
    rotationPass w (takeoverPass w s)
  else s

/-- What a boundary does to the relief engine at step 1 of R27. -/
def reliefPass (s : State) : State := reliefLoadPass (plannedHandoverPass (reliefInServicePass s))

/-! ## Rows -/

/-- SLICE_SELF_CHECK_FAILURE (R129). -/
def execSliceSelfCheckFailure (t wheel : Nat) (x : CheckIn) (s : State) : Host.Outcome State Fault Refusal :=
  .next (selfCheckFail wheel x.position x.back (s.advance t))

/-- UP_SHIFT (R133). -/
def execUpShift (t wheel position magnitude : Nat) (s : State) : Host.Outcome State Fault Refusal :=
  .next (upShift wheel position magnitude (s.advance t))

/-- DOWN_SHIFT (R133). -/
def execDownShift (t wheel position run : Nat) (s : State) : Host.Outcome State Fault Refusal :=
  .next (downShift wheel position run (s.advance t))

/-- DWELL_VERDICT (R141). -/
def execDwellVerdict (wheel : Nat) (s : State) : Host.Outcome State Fault Refusal := .next (dwellVerdictPass wheel s)

/-- JOCKEY_TAKEOVER (R144). -/
def execJockeyTakeover (wheel : Nat) (s : State) : Host.Outcome State Fault Refusal := .next (takeoverPass wheel s)

/-- SERVICE_RECALIBRATION_PHASE_END (R148). -/
def execServiceRecalibrationPhaseEnd (wheel : Nat) (s : State) : Host.Outcome State Fault Refusal := .next (phaseEndPass wheel s)

/-- SERVICE_RECALIBRATION_COMMIT (R148). -/
def execServiceRecalibrationCommit (wheel : Nat) (s : State) : Host.Outcome State Fault Refusal := .next (serviceCommitPass wheel s)

/-- RETURN_CHECK_VERDICT (R150). -/
def execReturnCheckVerdict (wheel : Nat) (s : State) : Host.Outcome State Fault Refusal := .next (returnVerdictPass false wheel s)

/-- PROBATION_VERDICT (R150). -/
def execProbationVerdict (wheel : Nat) (s : State) : Host.Outcome State Fault Refusal := .next (returnVerdictPass true wheel s)

/-- HANDBACK (R152). -/
def execHandback (wheel : Nat) (s : State) : Host.Outcome State Fault Refusal := .next (handbackPass wheel s)

/-- WHEEL_SETTLED (R187). -/
def execWheelSettled (wheel : Nat) (s : State) : Host.Outcome State Fault Refusal := .next (wheelSettledPass wheel s)

/-- WHEEL_PROBATION_VISIT_VERDICT (R153). -/
def execWheelProbationVisitVerdict (wheel : Nat) (s : State) : Host.Outcome State Fault Refusal := .next (visitVerdictPass wheel s)

/-- WHEEL_PROBATION_OUTCOME (R153). -/
def execWheelProbationOutcome (wheel : Nat) (s : State) : Host.Outcome State Fault Refusal := .next (probationPass wheel s)

/-- EMERGENCY_RETURN (R154). -/
def execEmergencyReturn (wheel : Nat) (s : State) : Host.Outcome State Fault Refusal := .next (emergencyPass wheel s)

/-- WHEEL_ENGINE_FAILURE (R156). -/
def execWheelEngineFailure (t : Nat) (x : EngineIn) (s : State) : Host.Outcome State Fault Refusal :=
  .next (engineFail x.wheel x.full (s.advance t))

/-- RELIEF_SUBSTITUTION (R157). -/
def execReliefSubstitution (s : State) : Host.Outcome State Fault Refusal := .next (reliefLoadPass s)

/-- RELIEF_IN_SERVICE (R157). -/
def execReliefInService (s : State) : Host.Outcome State Fault Refusal := .next (reliefInServicePass s)

/-- PLANNED_ENGINE_HANDOVER (R158). -/
def execPlannedEngineHandover (s : State) : Host.Outcome State Fault Refusal := .next (plannedHandoverPass s)

/-- RELIEF_ENGINE_FAILURE (R159). -/
def execReliefEngineFailure (t : Nat) (s : State) : Host.Outcome State Fault Refusal := .next (reliefFail (s.advance t))

end Sys2Proof.Machine
end

