-- ==== Sys2Proof/Machine/Chain.lean ====
section
/-! DEFINITION. The decimation chain from first fine samples to fine samples, its detectors, and the alignment and correction of
channels at the meter instants (06, R195 to R198, R267 to R269). -/
namespace Sys2Proof.Machine

/-! ## Rounding -/

/-- The nearest integer; a tie goes to either, as the device chooses for the field numbered `f` (log 16). -/
def nearest (f : Nat) (x : Rat) : Int :=
  let n := x.floor
  let r := x - n
  if r < 1 / 2 then n else if 1 / 2 < r then n + 1 else if Config.roundUp f n.natAbs then n + 1 else n

/-- A number of 2^-b rounded to the nearest integer, ties to even (R166). -/
def nearestEven (b : Nat) (x : Int) : Int :=
  let one : Int := 2 ^ b
  let q := x / one
  let r := x % one
  if 2 * r < one then q else if one < 2 * r then q + 1 else if q % 2 = 0 then q else q + 1

/-- The values of `f` at `n` indices from `lo` on. -/
def valuesFrom (lo : Int) (n : Nat) (f : Int → Int) : Array Int :=
  ((List.range n).map fun (i : Nat) => f (lo + (i : Int))).toArray

/-- The value at index `i` of an array that starts at index `lo`; zero outside. -/
def valueAt (lo : Int) (a : Array Int) (i : Int) : Int := if i < lo then 0 else a.getD (i - lo).toNat 0

/-! ## Settings in force (R26) -/

/-- The settings in force from boundary `b` on. -/
structure View where
  chan : Tab Chan
  whl : Tab Wheel
  refs : Refs
  on : Nat → Bool
  /-- Its opening boundary. -/
  b : Nat

/-- Channel `c` in a view. -/
def View.channel (v : View) (c : Nat) : Chan := v.chan.get (Chan.reset c) c

/-- Wheel `w` in a view. -/
def View.wheel (v : View) (w : Nat) : Wheel := v.whl.get Wheel.reset w

/-- The cadence that is published next: the oldest whose publication is late, else the one that closed last (R46). -/
def State.toPublish (s : State) : Closing := s.older.headD s.closing

/-- Some ON period of the domain of wheel `w` meets the cadence that opens at boundary `b`. -/
def State.onIn (s : State) (b w : Nat) : Bool :=
  let d := s.dom (wheelDom w)
  (d.onAt.any fun t => decide (t < (b + 1) * cadenceClocks)) ||
    d.spans.any fun p => decide (p.from_ < (b + 1) * cadenceClocks) && decide (b * cadenceClocks < p.to_)

/-- The settings of a cadence that has closed, in state `s`. -/
def Closing.view (c : Closing) (s : State) : View :=
  { chan := c.chan, whl := c.whl, refs := c.refs, on := s.onIn (c.bnd - 1), b := c.bnd - 1 }

/-- The settings of the cadence to publish. -/
def State.closedView (s : State) : View := s.toPublish.view s

/-- The settings of the cadence after it: as a rule the one that is open. A wheel that has left ON in it stands as it was left. -/
def State.openView (s : State) : View :=
  match s.older with
  | [] =>
    { chan := s.chan
      whl := (List.range 16).map fun w => (w, if s.domOn (wheelDom w) then s.wheel w else s.cut.get (s.closing.whl.get Wheel.reset w) w)
      refs := s.refs, on := s.onIn s.closing.bnd, b := s.closing.bnd }
  | _ :: rest => (rest.headD s.closing).view s

/-- The slice that serves the channel of spoke `k` through a cadence that opens at boundary `b`: one that failed in it has served it up to
its failure, and its samples are missing from there on (R129). -/
def Wheel.serverThrough (x : Wheel) (b k : Nat) : Option Nat :=
  let then_ (j : Nat) : SliceState :=
    let y := x.slice j
    if y.state == .failed && y.failedAt.any fun t => b * cadenceClocks < t.2 then y.failedFrom else y.state
  if then_ k == .serving then some k
  else if then_ 8 == .serving && x.jockeyAt == some k then some 8
  else none

/-- The settings in force at the instant `t`: those of the closed cadence before the opening boundary of the open one (R26). -/
def State.viewAt (s : State) (t : Nat) : View :=
  if t < s.time.bnd * cadenceClocks then s.closing.view s
  else { chan := s.chan, whl := s.whl, refs := s.refs, on := fun w => s.domOn (wheelDom w), b := s.time.bnd }

/-- What the samples of slice `k` of wheel `w` depend on beside its levels. -/
def State.health (s : State) (w k : Nat) : Health :=
  let d := s.dom (wheelDom w)
  let y := (s.wheel w).slice k
  { spans := d.spans, onAt := d.onAt, gears := y.gears, climb := y.climb, failedAt := y.failedAt.map (·.1) }

/-- The channel whose pins slice `k` of wheel `w` is on, and the path of its calibration set (R265). -/
def View.pins (v : View) (w k : Nat) : Option (Nat × Nat) :=
  if k < 8 then some (8 * w + k, 0) else (v.wheel w).jockeyAt.map fun j => (8 * w + j, 1)

/-! ## Normaliser and bridging (R135, R165, R269) -/

/-- A raw value in first fine LSB, normalised: (raw - O) G k_ref, to the nearest integer (R165, R269). -/
def View.normal (v : View) (c path : Nat) (climb : Bool) (raw : Rat) : Rat :=
  let x := (v.channel c).set (bit climb) path
  (raw - (x.offset : Rat) / 16) * ((x.gain : Rat) / (2 ^ 14 : Nat)) * v.refs.kRef

/-- First fine LSB in one fast LSB: the gains 48^5 and 16^3 of the two filters (R162). -/
def fastRatio : Nat := 62208

/-- A fast sample in the fine convention: scaled by the gain and offset calibration of its gear (R135, R224). -/
def View.fast (v : View) (c path : Nat) (climb : Bool) (x : Int) : Rat := v.normal c path climb ((x : Rat) * (fastRatio : Rat))

/-- A first fine sample at the normaliser's output; a disturbed one is replaced by a clean fast sample, or by the linear
interpolation between two (R135). -/
def View.norm (v : View) (c path : Nat) (x : FirstFine) : Norm :=
  let fast (p : Int × Int × Bool) : Rat := v.fast c path p.2.2 p.2.1
  let mk (y : Rat) (bridged : Bool) : Norm :=
    { v := nearest 1 y, climb := x.climb, overload := x.overload, bridged, missing := false }
  if x.missing then Norm.absent
  else match x.bridge with
    | [] => mk (v.normal c path x.climb (x.raw : Rat)) false
    | [p] => mk (fast p) true
    | p :: q :: _ =>
      mk (if p.1 = q.1 then fast p else fast p + (fast q - fast p) * ((-p.1 : Int) : Rat) / ((q.1 - p.1 : Int) : Rat)) true

/-! ## Half-bands and compensation filter (R166 to R168) -/

/-- A coefficient that fits 24 bits (R166). -/
def coeffFits (x : Int) : Bool := -2 ^ 23 ≤ x && x < 2 ^ 23

/-- A half-band keeps R166 and R184: its coefficients fit, its DC gain is 1 within 2^-20, and no output phase sums to more than 1.25. -/
def halfBandOk (h : List Int) : Bool :=
  let dc := 2 ^ 21 + 2 * h.sum
  h.all coeffFits && decide ((dc - 2 ^ 22).natAbs ≤ 4) && decide (4 * (2 ^ 21 + 2 * (h.map fun x => (x.natAbs : Int)).sum) ≤ 5 * 2 ^ 22)

/-- A prototype keeps R166 and R184 in each of its nine branches: DC gain 1 within 2^-20, magnitudes summing to at most 2.0. -/
def prototypeOk (p : List Int) : Bool :=
  p.all coeffFits && (List.range 9).all fun r =>
    let branch := (List.range 96).map fun n =>
      let l := 9 * n + r
      if l < 428 then p.getD l 0 else if l < 856 then p.getD (855 - l) 0 else 0
    decide ((branch.sum - 2 ^ 22).natAbs ≤ 4) && decide ((branch.map fun x => (x.natAbs : Int)).sum ≤ 2 ^ 23)

/-- A factory stage as its ROM holds it, where that keeps the limits; a stage that passes its input on in its place otherwise (log 17). -/
def heldTo (ok : List Int → Bool) (plain rom : List Int) : List Int := if ok rom then rom else plain

/-- Taps of a stage in ROM. -/
def romTaps (stage n : Nat) : List Int := (List.range n).map (Config.factoryCoeff stage)

/-- The factory coefficients, which keep the limits of R166 and R184; integrator gain 1 at 50 Hz, g_I = 2 tan(pi 50 / 16,000), with
L = 16 (R173, R182). -/
def factoryCoeffs : Coeffs where
  hb1 := heldTo halfBandOk [0, 0, 2 ^ 20] (romTaps 1 3)
  hb2 := heldTo halfBandOk [0, 0, 0, 0, 2 ^ 20] (romTaps 2 5)
  proto := heldTo prototypeOk (List.replicate 419 0 ++ List.replicate 9 (2 ^ 21)) (romTaps 3 428)
  intGain := 5270887
  intLeak := 16

/-- The coefficients of a bank (R182, R183). -/
def Bank.set (b : Bank) : Coeffs := b.coeffs.getD factoryCoeffs

/-- Coefficient `i` of a stage (1, 2: half-bands, 3: prototype) of a bank, 2^-22 (R183). -/
def Bank.coeff (b : Bank) (stage i : Nat) : Int :=
  (if stage = 1 then b.set.hb1 else if stage = 2 then b.set.hb2 else b.set.proto).getD i 0

/-- Tap `l` of a half-band with its centre at `mid`: a half at the centre, zero at other even distances, and the loadable taps
at odd ones (R167). -/
def Bank.half (b : Bank) (stage mid l : Nat) : Int :=
  if l = mid then 2 ^ 21 else if l % 2 = mid % 2 then 0 else b.coeff stage (Nat.min l (2 * mid - l) / 2)

/-- Prototype tap `l` (R168). -/
def Bank.proto (b : Bank) (l : Nat) : Int :=
  if l < 428 then b.coeff 3 l else if l < 856 then b.coeff 3 (855 - l) else 0

/-- The compensation filter's output `j`, j = 0 to 135, of slice position `k`, from normalised samples by first fine index:
both half-bands and the polyphase branch (R166 to R168). -/
def Bank.fir (b : Bank) (k : Nat) (x : Int → Int) : Array Int :=
  let sum (n : Nat) (f : Nat → Int) : Int := ((List.range n).map f).sum
  let z := valuesFrom (-104) 751 fun u => nearestEven 22 (sum 11 fun l => b.half 1 5 l * x (2 * u + l - 5))
  let y := valuesFrom (-47) 367 fun i => nearestEven 22 (sum 19 fun l => b.half 2 9 l * valueAt (-104) z (2 * i - 1 + l - 9))
  let r := 2 * k % 9
  let q : Int := (2 * k / 9 : Nat)
  valuesFrom 0 136 fun j => nearestEven 22 (sum 96 fun n => b.proto (9 * n + r) * valueAt (-47) y (2 * j + 48 + q - n))

/-! ## Integrator, DC block and narrowing (R173 to R176, R185) -/

/-- Integrator state: 2^-44 of a fine LSB in 96 bits, and its last input (log 34). -/
structure Integ where
  y : Int
  x : Int

/-- One sample through the integrator of a bank (R173); the state saturates with the output at 2^51. -/
def Integ.next (st : Integ) (b : Bank) (x : Int) : Integ × Int × Bool :=
  let g := b.set.intGain
  let leak := b.set.intLeak
  let y : Rat := (st.y : Rat) * (1 - 1 / ((2 ^ leak : Nat) : Rat)) + (g : Rat) * ((2 ^ 15 : Nat) : Rat) * ((x + st.x : Int) : Rat)
  let y := nearest 2 y
  let z := sats 96 y
  (⟨z, x⟩, nearest 3 ((z : Rat) / ((2 ^ 44 : Nat) : Rat)), z != y)

/-- The chain of one slice between two fine samples. -/
structure ChainSt where
  m : Int
  integ : Integ
  /-- The integrator under the bank that a fade leaves. -/
  old : Option Integ
  left : Nat

/-- What the fine sample `j` of a slice is computed with. -/
structure FineIn where
  chan : Chan
  whl : Wheel
  slice : Slice
  /-- Position, and index within its cadence. -/
  k : Nat
  j : Nat
  b : Nat
  /-- Filter outputs under the active and the former bank. -/
  now : Int
  was : Int
  climb : Bool
  overload : Bool
  bridged : Bool
  lost : Bool

/-- The active bank of a wheel, and the other one (R182). -/
def Wheel.bank (x : Wheel) : Bank := if x.activeB then x.bankB else x.bankA
/-- The inactive bank. -/
def Wheel.otherBank (x : Wheel) : Bank := if x.activeB then x.bankA else x.bankB

/-- The weight of the new bank at fine sample `j` of the cadence that opens at `b`, none outside a fade (R185). -/
def Wheel.fadeWeight (x : Wheel) (b j : Nat) : Option Rat :=
  match x.fade with
  | none => none
  | some f => if f.from_ = b && j < f.length then some (((j + 1 : Nat) : Rat) / (f.length : Rat)) else none

/-- A fast trip freezes the estimate at sample `j` of position `k` of the cadence from `b` on (R175). -/
def Chan.tripFreezes (c : Chan) (b k j : Nat) : Bool :=
  match c.tripFrom with
  | none => false
  | some t => decide (3 * t ≤ 3 * (b * cadenceClocks + 3072 * j) + 1024 * k)

/-- alpha of a corner in 2^-48: 1 - exp(-2 pi f_c / 16,000) for 0.1, 0.5 and 2 Hz (R174). -/
def dcAlpha : Nat → Int
  | 1 => 11053279455
  | 2 => 55262056920
  | 3 => 220983138516
  | _ => 0

/-- One fine sample: bank fade, integrator, DC block, narrowing and flags (R173 to R177, R185). A LOST sample leaves the integrator as it
is (log 34). The 54-bit output y - m is exact, in 2^-44 of a fine LSB, and is rounded once, to 48 bits (log 34). -/
def ChainSt.next (st : ChainSt) (f : FineIn) : ChainSt × Fine :=
  let weight := f.whl.fadeWeight f.b f.j
  let run (i : Integ) (b : Bank) (x : Int) : Integ × Int × Bool :=
    if f.lost then (i, 0, false) else if f.chan.intEnable then i.next b x else (i, x, false)
  let (i1, y1, o1) := run st.integ f.whl.bank f.now
  let (old, y, o) := match weight with
    | none => (none, y1, o1)
    | some w =>
      let (i2, y2, o2) := run (st.old.getD st.integ) f.whl.otherBank f.was
      (some i2, nearest 4 ((1 - w) * (y2 : Rat) + w * (y1 : Rat)), o1 || o2)
  let corner := f.chan.corner
  let out := if corner = 0 then y else nearest 5 ((y : Rat) - (st.m : Rat) / ((2 ^ 44 : Nat) : Rat))
  let z := sats 48 out
  let overload := f.overload || o || z != out
  let frozen := f.chan.dcFreeze || f.bridged || 0 < st.left || f.chan.tripFreezes f.b f.k f.j || overload || f.lost || corner = 0
  let m := if frozen then st.m
    else sats 96 (st.m + nearest 6 ((dcAlpha corner : Rat) * ((y * 2 ^ 44 - st.m : Int) : Rat) / ((2 ^ 48 : Nat) : Rat)))
  ({ m, integ := i1, old, left := if f.bridged then 32 else st.left - 1 },
    { x := if f.lost then 0 else z, climb := f.climb, overload, bridged := f.bridged, jockey := f.k == 8
      suspect := f.slice.suspect || f.slice.emergency, lost := f.lost, relief := f.whl.engine == 1 })

/-- An offset estimate carried from a slice's calibration to another's: the level that it stands for beyond the calibrated offset of the
one, taken as a level beyond the calibrated offset of the other (R139, log 50). -/
def translateEstimate (a b : CalSet) (m : Int) : Int :=
  let level : Rat := (m : Rat) / (a.gain : Rat) + (a.offset : Rat)
  let moved := (level - (a.offset : Rat)) * ((a.gain : Rat) / (b.gain : Rat)) + (b.offset : Rat)
  ((moved - (b.offset : Rat)) * (b.gain : Rat)).floor

/-- What a slice delivers in a publication: the 136 fine samples, and its chain for the next cadence. -/
structure SliceRun where
  fine : List Fine
  slice : Slice

/-- The stamp, in elapsed master clocks rounded down, of fine sample `j`, counted from boundary `b`, of position `k` (R170). -/
def fineClock (b j k : Nat) : Nat := b * cadenceClocks + 3072 * j + 1024 * k / 3

/-- Master clocks from a stamp to the instant at which its fine sample leaves the engine: 2.375 ms (R171). -/
def engineClocks : Nat := 116736

/-- Fine sample `j` of position `k` is LOST as a whole: its engine had failed, or its wheel was lost, before it left the engine; `h`: the
wheel's ON periods, `failed`: the stamp from which a failed engine's samples are LOST (R101, R156, R159, R171). A substitute that has
served from the closing boundary on serves the look-ahead. -/
def engineLost (h : Health) (failed : Option Nat × Option Nat) (b j k : Nat) : Bool :=
  let t := fineClock b j k
  ((j < 128 && failed.1.any fun f => decide (f ≤ t)) || failed.2.any fun f => decide (f ≤ t)) ||
    h.spans.any fun p => p.cut && decide (p.from_ ≤ t) && decide (t < p.to_) && decide (p.to_ < t + engineClocks)

/-- Slice `k` of wheel `w` over the closed cadence and the look-ahead, from the levels of its modulator (R161 to R177). The settings of
a sample are those in force at its stamp (R26). The first fine sample at a stamp off their grid is the one before it, index
8 j + floor(8 k / 9) (log 118). -/
def runSlice (old new : View) (h : Health) (failed : Option Nat × Option Nat) (w k : Nat) (f : FrontRun) : SliceRun :=
  let xs := f.firsts
  let y := (old.wheel w).slice k
  let normsOf (v : View) (l : List FirstFine) : List Norm :=
    match v.pins w k with
    | none => l.map fun _ => Norm.absent
    | some (c, p) => l.map fun x => v.norm c p x
  let own := normsOf old (xs.take 1024)
  let hist := List.replicate (213 - y.norm.length) Norm.absent ++ keepLast 213 y.norm
  let norms := (hist ++ own ++ List.replicate (1024 - own.length) Norm.absent ++ normsOf new (xs.drop 1024)).toArray
  let at_ := fun (m : Int) => norms.getD (m + 213).toNat Norm.absent
  let value := fun (m : Int) => (at_ m).v
  let ow := old.wheel w
  let nw := new.wheel w
  let o1 := ow.bank.fir k value
  let o2 := if ow.fade.isSome then ow.otherBank.fir k value else #[]
  let n1 := nw.bank.fir k value
  let n2 := if nw.fade.isSome then nw.otherBank.fir k value else #[]
  let q : Int := 4 * (2 * k / 9 : Nat)
  let chanOf (v : View) : Chan := match v.pins w k with
    | none => Chan.reset 0
    | some (c, _) => v.channel c
  let oc := chanOf old
  let nc := chanOf new
  let start : ChainSt :=
    let load : Option Nat := y.load.bind fun l => if l.1 = old.b then some l.2 else none
    if oc.intAt = some old.b then { m := 0, integ := ⟨0, 0⟩, old := none, left := y.left }
    else match load with
      | some j =>
        let src := ow.slice j
        let setOf (i : Nat) (climb : Bool) : CalSet := oc.set (bit climb) (if i = 8 then 1 else 0)
        { m := translateEstimate (setOf j src.climb) (setOf k y.climb) src.m, integ := ⟨src.integ, src.integIn⟩, old := none, left := y.left }
      | none => { m := y.m, integ := ⟨y.integ, y.integIn⟩, old := none, left := y.left }
  let fineIn (j : Nat) : FineIn :=
    let later := 128 ≤ j
    let win := (List.range 427).map fun (i : Nat) => at_ (8 * (j : Int) - 213 + q + (i : Int))
    { chan := if later then nc else oc, whl := if later then nw else ow
      slice := if later then nw.slice k else y, k, j := j % 128, b := if later then new.b else old.b
      now := if later then n1.getD j 0 else o1.getD j 0, was := if later then n2.getD j 0 else o2.getD j 0
      climb := (at_ (8 * j + (8 * k / 9 : Nat))).climb
      overload := win.any (·.overload), bridged := win.any (·.bridged), lost := win.any (·.missing) || (if later then new.refs.lost else old.refs.lost) || engineLost h failed old.b j k }
  let go := (List.range 136).foldl (fun (acc : ChainSt × List Fine × Option ChainSt) j =>
    let (st, out, kept) := acc
    let st := if j = 128 && nc.intAt = some new.b then { st with m := 0, integ := ⟨0, 0⟩, old := none } else st
    let (st', f) := st.next (fineIn j)
    (st', out ++ [f], if j = 127 then some st' else kept)) (start, [], none)
  let last := go.2.2.getD start
  let fine := go.2.1
  let f127 := fine.getD 127 Fine.missing
  { fine
    slice := { y with
      m := last.m, integ := last.integ.y, integIn := last.integ.x, left := last.left, lastBad := f127.overload || f127.lost
      norm := ((norms.toList.drop 1024).take 213)
      fastCic := f.fastCic, fineCic := f.fineCic, tail := f.tail, fastTail := f.fastTail
      bridged := y.bridged + BitVec.ofNat 64 (own.filter (·.bridged)).length } }

/-! ## Applying a calibration set (R268, R269) -/

/-- A table of points (abscissa, gamma, tau) at `x` (R268). -/
def interpPoints : List (Rat × Rat × Rat) → Rat → Rat × Rat
  | [], _ => (0, 0)
  | [p], _ => p.2
  | p :: q :: rest, x =>
    if x ≤ p.1 then p.2
    else if x < q.1 then
      let u := (x - p.1) / (q.1 - p.1)
      (p.2.1 + u * (q.2.1 - p.2.1), p.2.2 + u * (q.2.2 - p.2.2))
    else interpPoints (q :: rest) x

/-- A delay in TAU units, 2^-8 ns, in fine samples of 62.5 us. -/
def tauSamples (t : Int) : Rat := (t : Rat) / 16000000

/-- The segment part of a set at a cadence RMS of `r` fine LSB: gamma, and tau in fine samples (R268). -/
def CalSet.segAt (x : CalSet) (r : Rat) : Rat × Rat :=
  interpPoints (x.seg.map fun p => (((p.break_ * 65536 : Nat) : Rat), (p.gamma : Rat) / ((2 ^ 31 : Nat) : Rat), tauSamples p.tau)) r

/-- The temperature part of a set at `t` 1/64 degrees (R268). -/
def CalSet.tempAt (x : CalSet) (t : Rat) : Rat × Rat :=
  interpPoints (x.temp.map fun p => ((p.theta : Rat), (p.gamma : Rat) / ((2 ^ 31 : Nat) : Rat), tauSamples p.tau)) t

/-- Gain correction and correction delay of a set (R269). -/
def CalSet.correction (x : CalSet) (r t : Rat) : Rat × Rat :=
  let a := x.segAt r
  let b := x.tempAt t
  ((1 + a.1) * (1 + b.1), a.2 + b.2)

/-! ## Alignment (R195 to R197) -/

/-- Taps keep R197 at every 100 Hz: gain within 5 ppm and delay within 1 ns to 1.0 kHz, 0.02 % and 10 ns to 3.2 kHz. -/
def delayTapsOk (f : Nat) (taps : List Int) : Bool :=
  (List.range 33).all fun i =>
    let hz := 100 * i
    let (re, im) := tapResponse 3 taps f hz
    let (ppm, ns) := if hz ≤ 1000 then (5, 1) else (200, 10)
    absRat (sqrtRat (re * re + im * im) - 1) * 1000000 ≤ ppm && absRat (argTurns re im) * 1000000000 ≤ ns * (hz : Rat)

/-- A bank of taps within R197, from polynomials in the fraction less one half, 2^-30 (log 17). -/
def delayPolys : List (List Int) :=
  [[-4549232, 1258145, 21362804, -5856756, -13216149, 3420972, 2210837, -497266],
   [34095016, -13412702, -156622366, 61334407, 83405813, -31540401, -9747608, 3225266],
   [-142243368, 94261557, 610850117, -403981625, -171543067, 110043350, 16148061, -9210214],
   [649566171, -1298267004, -475579093, 946255849, 101344982, -196365241, -8612824, 14983827]]

/-- The taps in use at the fraction `f` / 65,536: those in ROM, which keep R197 (log 17). -/
def delayTaps (f : Nat) : List Int :=
  let rom := (List.range 8).map (Config.delayTap f)
  if delayTapsOk f rom then rom else (List.range 8).map (tapPoly delayPolys f)

/-- The value of a series `x` at `j + d`, d in fine samples: the eight-tap filter at the fraction resolved to 2^-16, rounded down
(DESIGN CHOICE, log 119); at a whole sample that sample unchanged (R197). -/
def delayed (x : Int → Rat) (j : Int) (d : Rat) : Rat :=
  let fl := d.floor
  let f := ((d - fl) * 65536).floor.toNat
  if f = 0 then x (j + fl)
  else sumRat ((delayTaps f).zipIdx.map fun (c, i) => (c : Rat) * x (j + fl - 3 + (i : Int))) / ((2 ^ 22 : Nat) : Rat)

/-- The samples of a channel around a cadence: by fine index from the cadence's start, -128 to 135. -/
def around (past : List Wave) (at_ : Nat) (fine : List Fine) : Int → Fine :=
  let prev := match past with
    | p :: _ => if p.at_ + 1 = at_ then p.fine else []
    | [] => []
  let a := (List.replicate (128 - prev.length) Fine.missing ++ prev ++ fine).toArray
  fun i => if i < -128 then Fine.missing else a.getD (i + 128).toNat Fine.missing

/-- The values at the 128 meter instants of a slice or channel served at position `k` by path `path`: gain and delay by the gear
of each sample, times SCALE / 2^47 (R195 to R198). -/
def alignWave (c : Chan) (path k : Nat) (theta : Int) (x : Int → Fine) : List Aligned :=
  let r : Rat := ((c.rms.getD 0 : Nat) : Rat)
  let cor (g : Nat) : Rat × Rat := (c.set g path).correction r (theta : Rat)
  let c0 := cor 0
  let c1 := cor 1
  let unit : Rat := (f32Val c.scale).getD 0 / ((2 ^ 47 : Nat) : Rat)
  let v (i : Int) : Rat := let f := x i; (f.x : Rat) * (if f.climb then c1.1 else c0.1)
  (List.range 128).map fun (j : Nat) =>
    let d := (if (x j).climb then c1.2 else c0.2) - (k : Rat) / 9
    let win := (List.range 8).map fun (i : Nat) => x ((j : Int) + d.floor - 3 + (i : Int))
    { v := delayed v j d * unit, climb := (x j).climb, overload := win.any (·.overload), bridged := win.any (·.bridged)
      jockey := win.any (·.jockey), suspect := win.any (·.suspect), lost := win.any (·.lost), relief := win.any (·.relief) }

/-- Cadences of history a slice and a channel keep: two cycles of the lowest frequency (R179, R204). -/
def pastKept : Nat := 18

/-! ## Crossings and cycles (R179) -/

/-- One sample of a reference at instant `t` (fine samples since reset) with value `v`; `low`: the level below which it must have
been since the previous crossing. Answers the history and the cycle that a counted crossing completes, valid or not (R179). A crossing
lies between two consecutive samples: a gap breaks the sequence as a sample that is not valid does (R203). -/
def Cross.next (x : Cross) (valid : Bool) (t v low : Rat) : Cross × Option (Rat × Rat) :=
  let x := if x.prev.all fun p => decide (t - p.1 < 2) then x else { x with armed := false, prev := none, last := none }
  if !valid then ({ x with armed := false, prev := none, last := none }, none)
  else
    let armed := x.armed || v < low
    match x.prev with
    | some (t0, v0) =>
      if v0 < 0 && 0 ≤ v && armed then
        let tc := t0 + (t - t0) * (-v0) / (v - v0)
        let done := x.last.map fun a => (a, tc)
        let cycles := match done with
          | some (a, b) => if 160 ≤ b - a && b - a ≤ 1120 then ((b - a, b) :: x.cycles).take 8 else x.cycles
          | none => x.cycles
        ({ armed := false, prev := some (t, v), last := some tc, cycles }, done)
      else ({ x with armed, prev := some (t, v) }, none)
    | none => ({ x with armed, prev := some (t, v) }, none)

/-- The frequency in Hz: 8 divided by the sum of the last 8 valid cycles, where they completed within 250 ms before the instant
`t` (R203). -/
def Cross.freq (x : Cross) (t : Rat) : Option Rat :=
  if x.cycles.length = 8 && x.cycles.all (fun c => t - 4000 ≤ c.2) then
    some (8 * 16000 / sumRat (x.cycles.map (·.1)))
  else none

/-- The weighted mean square over [ta, tb) of the samples of waves: each sample counts for half a period on either side
(R179). -/
def weighted (waves : List Wave) (ta tb : Rat) : Option Rat :=
  let parts := waves.flatMap fun w => w.fine.zipIdx.map fun (f, j) =>
    let t : Rat := ((w.at_ * 128 + j : Nat) : Rat) + (w.pos : Rat) / 9
    let len := minRat (t + 1 / 2) tb - maxRat (t - 1 / 2) ta
    (if 0 < len then len else 0, (f.x : Rat))
  let n := sumRat (parts.map (·.1))
  if n = 0 then none else some (sumRat (parts.map fun p => p.1 * p.2 * p.2) / n)

/-! ## Detectors (R178 to R180) -/

/-- The envelope over samples: final value and largest (R180); the state is in 2^-24 of a fine LSB. -/
def envelope (c : Chan) (xs : List Fine) : Int × Int :=
  xs.foldl (fun (e, mx) f =>
    let a : Int := (f.x.natAbs : Int) * 2 ^ 24
    let sh := if e < a then c.envAttack else c.envDecay
    let e := e + nearest 7 (((a - e : Int) : Rat) / ((2 ^ sh : Nat) : Rat))
    (e, max mx e)) (c.env, 0)

/-- The first sample that is largest under a measure, with its index. -/
def extreme (xs : List Fine) (better : Int → Int → Bool) : Option (Int × Nat) :=
  xs.zipIdx.foldl (fun b p => match b with
    | none => some (p.1.x, p.2)
    | some q => if better p.1.x q.1 then some (p.1.x, p.2) else b) none

/-- The OR of the flags of samples, with value zero (R178). -/
def orFlags (l : List Fine) : Fine :=
  { x := 0, climb := l.any (·.climb), overload := l.any (·.overload), bridged := l.any (·.bridged), jockey := l.any (·.jockey)
    suspect := l.any (·.suspect), lost := l.any (·.lost), relief := l.any (·.relief) }

/-- The detectors of a channel over a published cadence: RMS, peaks, envelope, and the history kept (R178, R180, R198). -/
def Chan.detect (c : Chan) (cad pos : Nat) (on settled : Bool) (w : Wave) : Chan :=
  let lost := w.fine.any (·.lost)
  let sq : Rat := sumRat (w.fine.map fun f => ((f.x * f.x : Int) : Rat)) / 128
  let (e, mx) := envelope c w.fine
  let stamped (p : Option (Int × Nat)) : Option (Int × Nat) := p.map fun (x, j) => (x, fineStamp cad j pos)
  { c with
    rms := if !on then none else if settled && !lost then some (satu 48 (rootField 8 sq)) else c.rms
    rmsOut := satu 48 (rootField 8 sq)
    detFlags := orFlags w.fine
    peakMax := stamped (extreme w.fine fun a b => b < a)
    peakMin := stamped (extreme w.fine fun a b => a < b)
    env := e, envMax := mx
    past := (w :: c.past).take copyKept }

/-- The cycle detector over a published cadence: crossings of the reference's samples, and the RMS of each valid cycle (R179).
`ref`: the reference's samples, `waves`: the measured channel's, look-ahead included. -/
def Chan.cycles (c : Chan) (cad at_ refPos : Nat) (ref : List Fine) (waves : List Wave) : Chan :=
  let go := ref.zipIdx.foldl (fun (acc : Cross × Option (Rat × Rat)) p =>
    let t : Rat := ((at_ * 128 + p.2 : Nat) : Rat) + (refPos : Rat) / 9
    let (x, done) := acc.1.next (!p.1.lost) t (p.1.x : Rat) (-(gearFull p.1.climb) / 200)
    (x, match done with
      | some (a, b) => if 160 ≤ b - a && b - a ≤ 1120 then some (a, b) else acc.2
      | none => acc.2)) (c.cycleX, none)
  let endT : Rat := (((at_ + 1) * 128 : Nat) : Rat)
  let stampAt (t : Rat) : Nat := roundRat ((t + ((cad * 128 : Nat) : Rat) - ((at_ * 128 : Nat) : Rat)) * 1048576 / 1000) |>.toNat
  let cyc := match go.2 with
    | some (a, b) =>
      (weighted waves a b).map fun q => (stampAt a, (roundRat ((b - a) * 1048576 / 1000)).toNat, satu 48 (rootField 9 q))
    | none => match go.1.cycles with
      | (_, e) :: _ => if 1600 ≤ endT - e then none else c.cycle
      | [] => none
  let flags := match go.2 with
    | some (a, b) => orFlags (waves.flatMap fun w => (w.fine.zipIdx.filter fun (_, j) =>
        let t : Rat := ((w.at_ * 128 + j : Nat) : Rat) + (w.pos : Rat) / 9
        decide (maxRat (t - 1 / 2) a < minRat (t + 1 / 2) b)).map (·.1))
    | none => c.cycleFlags
  { c with cycleX := go.1, cycle := cyc, cycleFlags := flags }

/-- The channel's own crossings over a published cadence, for an angle reference (R270). -/
def Chan.ownCrossings (c : Chan) (at_ pos : Nat) (xs : List Fine) : Chan :=
  { c with selfX := xs.zipIdx.foldl (fun x p =>
      (x.next (!p.1.lost) (((at_ * 128 + p.2 : Nat) : Rat) + (pos : Rat) / 9) (p.1.x : Rat) (-(gearFull p.1.climb) / 200)).1) c.selfX }

/-! ## Rows -/

/-- A bank fade is over once its last sample has been stamped (R185); the inactive bank stays in use to the end of its cadence (R186). -/
def fadeEnd (w : Nat) (s : State) : State :=
  match (s.wheel w).fade with
  | none => s
  | some f =>
    if f.from_ * cadenceClocks + 3072 * f.length ≤ s.now then s.modWheel w fun x => { x with fade := some { f with over_ := true } } else s

/-- The boundary after a fade's cadence frees the inactive bank (R186). -/
def fadeDone (w : Nat) (s : State) : State :=
  match (s.wheel w).fade with
  | none => s
  | some f => if f.from_ + 1 ≤ s.b then s.modWheel w fun x => { x with fade := none } else s

/-- CROSS_FADE_END (R185). -/
def execCrossFadeEnd (t wheel : Nat) (s : State) : Host.Outcome State Fault Refusal := .next (fadeEnd wheel (s.advance t))

/-- Master clocks from a shift to the end of its freeze: 78.125 us of bridged samples, half the window, 2 ms (R175, R177). -/
def shiftFreeze : Nat := 3840 + 82774 + 98304

/-- The freeze of a fast trip ends where a whole cadence has closed without an assertion (R175). -/
def Chan.tripRelease (c : Chan) : Chan := if c.tripQuiet then { c with tripFrom := none } else c

/-- The estimate resumes: after a shift's samples, and after a whole cadence without an asserted trip (R175). -/
def dcFreezeEnd (c : Nat) (s : State) : State :=
  s.modChannel c fun ch =>
    let ch := match ch.shiftAt with
      | some t => if t + shiftFreeze ≤ s.now then { ch with shiftAt := none } else ch
      | none => ch
    ch.tripRelease

/-- DC_FREEZE_END (R175). -/
def execDcFreezeEnd (t channel : Nat) (s : State) : Host.Outcome State Fault Refusal := .next (dcFreezeEnd channel (s.advance t))

/-- With no valid cycle for 100 ms the detector reports no cycle (R179). -/
def noCycle (c : Nat) (s : State) : State :=
  s.modChannel c fun ch =>
    match ch.cycleX.cycles with
    | (_, e) :: _ => if (e + 1600) * 3072 ≤ (s.now : Rat) then { ch with cycle := none } else ch
    | [] => { ch with cycle := none }

/-- NO_CYCLE_TIMEOUT (R179). -/
def execNoCycleTimeout (t channel : Nat) (s : State) : Host.Outcome State Fault Refusal := .next (noCycle channel (s.advance t))

/-- What a boundary does to the freezes of every channel: a whole cadence without an asserted trip ends that freeze (R175). -/
def freezePass (s : State) : State :=
  { s with chan := s.chan.map fun (c, ch) =>
      (c, Chan.tripRelease { ch with tripQuiet := !ch.tripSeen && !ch.tripState.asserted, tripSeen := ch.tripState.asserted }) }

end Sys2Proof.Machine
end

