-- ==== Sys2Proof/Machine/Meters.lean ====
section
/-! DEFINITION. A meter's cadence: valid instants, energies, phasors, frequency, RMS, apparent power, increments, gates and the
result record (R190, R199 to R216). -/
namespace Sys2Proof.Machine

/-- Phases of a meter type: pairs (Vp, Ip) (R190). -/
def phasesOf (type : Nat) : Nat := if type = 2 then 3 else if type = 1 || type = 3 then 2 else 1

/-- Slot `i` of a definition: V0 to V3 are 0 to 3, I0 to I3 are 4 to 7; none where unused. -/
def slotChannel (d : MeterDefine) (i : Nat) : Option Nat :=
  let c := if i < 4 then d.vSlot.getD i 0xFF else d.iSlot.getD (i - 4) 0xFF
  if c < 128 then some c else none

/-- The slots a definition uses. -/
def usedSlots (d : MeterDefine) : List Nat := (List.range 8).filter fun i => (slotChannel d i).isSome

/-- Sealed, sum mode, S mode, nominal frequency of a definition (R193). -/
def defSealed (d : MeterDefine) : Bool := d.options.getLsbD 0
/-- Arithmetic sum mode. -/
def defSumMode (d : MeterDefine) : Bool := d.options.getLsbD 1
/-- S_MODE. -/
def defSMode (d : MeterDefine) : Nat := d.options.toNat / 4 % 4
/-- F_NOM. -/
def defFNom (d : MeterDefine) : Rat := if d.options.getLsbD 4 then 60 else 50

/-- What the slots of a meter saw in one cadence: values by slot at the 128 instants, INVERT applied. -/
structure SlotData where
  vals : Nat → List Aligned
  used : List Nat

/-- The values of slot `i` under INVERT (R191). -/
def invertSlot (d : MeterDefine) (i : Nat) (l : List Aligned) : List Aligned :=
  if d.invert.getLsbD i then l.map fun a => { a with v := -a.v } else l

/-- A value that no slice delivered. -/
def Aligned.missing : Aligned :=
  { v := 0, climb := false, overload := false, bridged := false, jockey := false, suspect := false, lost := true, relief := false }

/-- The slots of a definition over the waves of its channels for one cadence. -/
def slotData (d : MeterDefine) (wave : Nat → Option Wave) : SlotData where
  vals := fun i => match (slotChannel d i).bind wave with
    | some w => invertSlot d i w.al
    | none => List.replicate 128 Aligned.missing
  used := usedSlots d

/-- The valid instants: no sample used in any used slot carries LOST (R199). -/
def SlotData.valid (x : SlotData) : List Bool :=
  let cols := x.used.map fun i => (x.vals i).map (·.lost)
  (List.range 128).map fun j => cols.all fun c => !c.getD j true

/-- Values of slot `i` at the valid instants. -/
def SlotData.kept (x : SlotData) (i : Nat) : List Rat :=
  (((x.vals i).zip x.valid).filter (·.2)).map (·.1.v)

/-- The sum of products of two lists. -/
def dot (a b : List Rat) : Rat := sumRat ((a.zip b).map fun p => p.1 * p.2)

/-- The mean of squares of a list, zero for an empty one. -/
def meanSq (l : List Rat) : Rat := if l.isEmpty then 0 else dot l l / (l.length : Rat)

/-! ## Fundamental phasors (R203 to R205) -/

/-- A fundamental phasor divided by the square root of two (R204). -/
structure Phasor where
  re : Rat
  im : Rat

/-- The phasor of weighted samples (instant before the window's end in fine samples, weight, value) at `f` Hz. -/
def phasorOf (f : Rat) (l : List (Rat × Rat × Rat)) : Phasor :=
  let n := sumRat (l.map (·.2.1))
  if n = 0 then ⟨0, 0⟩
  else
    let turn (p : Rat × Rat × Rat) : Rat := f * p.1 / 16000
    ⟨sumRat (l.map fun p => p.2.1 * p.2.2 * cosTurns (turn p)) / n,
     -(sumRat (l.map fun p => p.2.1 * p.2.2 * sinTurns (turn p))) / n⟩

/-- The window of two cycles of `f` that ends at the cadence's last instant: the weighted samples of a slot whose cadences are
given newest first, with their opening boundaries and validity (R179, R204). `now`: the boundary that opened the newest. -/
def windowOf (f : Rat) (now : Nat) (cads : List (Nat × List (Bool × Rat))) : List (Rat × Rat × Rat) :=
  let lo := 127 - 32000 / f
  cads.flatMap fun (b, l) => l.zipIdx.filterMap fun ((ok, v), j) =>
    let t : Rat := (j : Rat) - (((now - b) * 128 : Nat) : Rat)
    let len := minRat (t + 1 / 2) 127 - maxRat (t - 1 / 2) lo
    if ok && 0 < len then some (t - 127, len, v) else none

/-- Re(V I*) and Im(V I*) of the RMS phasors (R204). -/
def Phasor.power (v i : Phasor) : Rat × Rat := (2 * (v.re * i.re + v.im * i.im), 2 * (v.im * i.re - v.re * i.im))

/-- The square of a phasor's magnitude. -/
def Phasor.magSq (x : Phasor) : Rat := 2 * (x.re * x.re + x.im * x.im)

/-- The angle from `b` to `a` in turns (R205). The spec gives a phasor of zero no argument: the angle is then free (log 16). -/
def Phasor.angle (a b : Phasor) : Rat :=
  if a.magSq = 0 || b.magSq = 0 then Config.zeroAngle a.re a.im b.re b.im
  else argTurns (a.re * b.re + a.im * b.im) (a.im * b.re - a.re * b.im)

/-- An angle as a signed 16-bit number of 360/65,536 degrees (R205). -/
def angleField (f : Nat) (turns : Rat) : Int :=
  let n := (roundSigned f (turns * 65536) + 32768) % 65536
  n - 32768

/-! ## Hilbert networks (R202) -/

/-- One sample through the sections of an all-pass network: section i is (a + z^-1) / (1 + a z^-1), whose magnitude is 1 at every
frequency (R202, R562); its state is its last input and its last output. -/
def allPassStep (branch : Nat) : Nat → Nat → List Rat → Rat → Rat × List Rat
  | 0, _, _, x => (x, [])
  | n + 1, i, st, x =>
    let y := Config.allPass branch i * (x - st.getD 1 0) + st.getD 0 0
    let r := allPassStep branch n (i + 1) (st.drop 2) y
    (r.1, x :: y :: r.2)

/-- A series through the sixth-order network of a branch, 0 = H_V and 1 = H_I: outputs and final state. -/
def throughAllPass (branch : Nat) (st : List Rat) (l : List Rat) : List Rat × List Rat :=
  l.foldl (fun (out, st) x => let (y, st') := allPassStep branch 6 0 st x; (out ++ [y], st')) ([], st)

/-! ## The cadence of a meter -/

/-- Everything a meter's cadence yields before its increments. -/
structure MeterCalc where
  valid : Nat
  ep : List Rat
  eq : List Rat
  p1 : List Rat
  q1 : List Rat
  vSq : List Rat
  iSq : List Rat
  s : Rat
  freq : Option Rat
  noFreq : Bool
  angV : List Rat
  angI : List Rat
  residual : Option Rat
  fund : List Rat
  fundSum : Rat
  hilbert : Tab (List Rat)
  cross : Cross

/-- Apparent power in the mode of the definition (R207), in VA. `p`, `q`: mean active and reactive power. -/
def apparent (d : MeterDefine) (x : SlotData) (vSq iSq : Nat → Rat) (p q : Rat) : Rat :=
  let arith := sumRat ((List.range (phasesOf d.type)).map fun k => sqrtRat (vSq k * iSq k))
  let comb (l : List (Rat × List Rat)) : Rat :=
    meanSq ((List.range ((l.head?.map (·.2.length)).getD 0)).map fun j => sumRat (l.map fun c => c.1 * c.2.getD j 0))
  let v k := x.kept k
  let i k := x.kept (4 + k)
  if defSMode d = 1 then sqrtRat (p * p + q * q)
  else if defSMode d = 0 || d.type = 0 || d.type = 1 || d.type = 4 then arith
  else if d.type = 2 then
    let n := if (slotChannel d 7).isSome then iSq 3 else comb [(1, i 0), (1, i 1), (1, i 2)]
    let ie := (iSq 0 + iSq 1 + iSq 2 + n) / 3
    let ve := (3 * (vSq 0 + vSq 1 + vSq 2) + comb [(1, v 0), (-1, v 1)] + comb [(1, v 1), (-1, v 2)] + comb [(1, v 2), (-1, v 0)]) / 18
    3 * sqrtRat (ve * ie)
  else
    let ie := (iSq 0 + comb [(1, i 0), (1, i 1)] + iSq 1) / 3
    let ve := (vSq 0 + vSq 1 + comb [(1, v 1), (-1, v 0)]) / 9
    3 * sqrtRat (ve * ie)

/-- The mean of the squares of r[j], the sum of the phase currents less the neutral's, at the valid instants (R310). -/
def residualSq (d : MeterDefine) (x : SlotData) : Rat :=
  let cols := (List.range (phasesOf d.type)).map fun p => x.kept (4 + p)
  let n := x.kept 7
  meanSq (n.zipIdx.map fun (v, j) => sumRat (cols.map fun c => c.getD j 0) - v)

/-- The computation of a meter's cadence (R199 to R209). `o`: the opening boundary; `wave`: this cadence's wave of a channel;
`past`: its earlier ones, newest first; `unit`: volts or amperes of a fine LSB. -/
def calcMeter (mt : Meter) (d : MeterDefine) (prevFreq : Option Rat) (o : Nat) (wave : Nat → Option Wave)
    (past : Nat → List Wave) (unit : Nat → Rat) : MeterCalc :=
  let x := slotData d wave
  let ok := x.valid
  let n := (ok.filter id).length
  let dc := d.type == 4
  let ph := List.range (phasesOf d.type)
  let perInstant : Rat := if n = 0 then 0 else 128 / (n : Rat) / 16000
  -- networks and crossings start afresh where a redefinition at the opening boundary says so
  let fresh (i : Nat) : Bool := match mt.restart with
    | some (b, mask) => b == o && mask.getLsbD i
    | none => false
  let hil := x.used.map fun i =>
    let st := if fresh i then [] else mt.hilbert.get [] i
    (i, throughAllPass (if i < 4 then 0 else 1) st ((x.vals i).map (·.v)))
  let hilOf (i : Nat) : List Rat :=
    ((((hil.find? fun e => e.1 == i).map (·.2.1)).getD []).zip ok |>.filter (·.2)).map (·.1)
  let ep := ph.map fun p => dot (x.kept p) (x.kept (4 + p)) * perInstant
  let eq := if dc then ph.map fun _ => 0 else ph.map fun p => dot (hilOf p) (hilOf (4 + p)) * perInstant
  let unit0 : Rat := (slotChannel d 0).elim 0 unit
  let low (a : Aligned) : Rat := -(gearFull a.climb * unit0) / 200
  let cross0 := if fresh 0 then Cross.zero else mt.cross
  let cross := if dc then cross0 else
    ((x.vals 0).zip ok).zipIdx.foldl (fun c ((a, good), j) =>
      (c.next good (((o * 128 + j : Nat) : Rat)) a.v (low a)).1) cross0
  let freq := if dc then none else cross.freq (((o * 128 + 127 : Nat) : Rat))
  let f := prevFreq.getD (defFNom d)
  -- cadences of a slot for the phasor window: this one, then the earlier ones
  let cadOf (b : Nat) (data : SlotData) (i : Nat) : Nat × List (Bool × Rat) :=
    (b, data.valid.zip ((data.vals i).map (·.v)))
  let earlier := (List.range pastKept).map fun k =>
    let b := o - 1 - k
    (b, slotData d fun c => (past c).find? fun w => w.at_ == b && k < o)
  let phasor (i : Nat) : Phasor :=
    phasorOf f (windowOf f o (cadOf o x i :: earlier.map fun (b, e) => cadOf b e i))
  let phs := x.used.map fun i => (i, phasor i)
  let phOf (i : Nat) : Phasor := ((phs.find? fun e => e.1 == i).map (·.2)).getD ⟨0, 0⟩
  let pq := ph.map fun p => if dc then (0, 0) else (phOf p).power (phOf (4 + p))
  let vSq := (List.range 4).map fun i => meanSq (x.kept i)
  let iSq := (List.range 4).map fun i => meanSq (x.kept (4 + i))
  let p := sumRat ep * 125
  let q := sumRat eq * 125
  { valid := n, ep, eq, p1 := pq.map (·.1), q1 := pq.map (·.2), vSq, iSq
    s := apparent d x (fun i => vSq.getD i 0) (fun i => iSq.getD i 0) p q
    freq, noFreq := !dc && (freq.isNone || prevFreq.isNone)
    angV := (List.range 4).map fun i => if dc || i = 0 || !x.used.contains i then 0 else (phOf i).angle (phOf 0)
    angI := (List.range 4).map fun i => if dc || !x.used.contains (4 + i) then 0
      else (phOf (4 + i)).angle (phOf (if i = 3 then 0 else i))
    residual := if x.used.contains 7 then some (residualSq d x) else none
    fund := (List.range 4).map fun i => sqrtRat (phOf i).magSq
    fundSum := sqrtRat (Phasor.magSq ⟨(phOf 0).re + (phOf 1).re + (phOf 2).re, (phOf 0).im + (phOf 1).im + (phOf 2).im⟩)
    hilbert := hil.map fun (i, _, st) => (i, st)
    cross }

/-! ## Increments and gates (R210 to R214) -/

/-- The quadrant of a pair, 0 to 3 (R210). -/
def quadrant (p q : Rat) : Nat := if 0 ≤ p then (if 0 ≤ q then 0 else 3) else (if 0 ≤ q then 1 else 2)

/-- Energies of the 16 quantities in joules, and ampere-squared seconds for the last (R210). -/
def energies (d : MeterDefine) (c : MeterCalc) (gap : Bool) : List Rat :=
  let ep := sumRat c.ep
  let eq := sumRat c.eq
  let ep1 := if gap then 0 else sumRat c.p1 / 125
  let eq1 := if gap then 0 else sumRat c.q1 / 125
  let pos (x : Rat) : Rat := maxRat x 0
  let plus := if defSumMode d then sumRat (c.ep.map pos) else pos ep
  let minus := if defSumMode d then sumRat (c.ep.map fun e => pos (-e)) else pos (-ep)
  let quad (k : Nat) (a b : Rat) : List Rat := (List.range 4).map fun i => if i = k then absRat b else a
  let es := c.s / 125
  [plus, minus, pos ep1, pos (-ep1)] ++ quad (quadrant ep eq) 0 eq ++ quad (quadrant ep1 eq1) 0 eq1
    ++ [if 0 ≤ ep then es else 0, if ep < 0 then es else 0, sumRat (c.ep.map absRat),
        sumRat ((List.range 3).map fun i => c.iSq.getD i 0) / 125]

/-- The current gate after a cadence (R213); `ph`: phase currents as mean squares. -/
def gateAfter (d : MeterDefine) (before : Bool) (iSq : List Rat) : Bool :=
  if d.iStart = 0 then true
  else
    let i2 : Rat := ((d.iStart * d.iStart : Nat) : Rat) / 1000000000000
    let ph := iSq.take (phasesOf d.type)
    if ph.any fun x => i2 ≤ x then true
    else if ph.all fun x => x * 100 < 81 * i2 then false else before

/-- Creep gates: A, R for Q, R for Q1, S (R214). -/
structure Creep where
  a : Bool
  q : Bool
  q1 : Bool
  s : Bool

/-- The creep gates of a cadence (R214). -/
def creepOf (d : MeterDefine) (c : MeterCalc) : Creep :=
  let t : Rat := (d.creep : Rat) / 1000
  let on := d.creep != 0
  { a := on && absRat (sumRat c.ep * 125) < t, q := on && absRat (sumRat c.eq * 125) < t
    q1 := on && absRat (sumRat c.q1) < t, s := on && c.s < t }

/-- A gate holds quantity `q` at zero (R213, R214). -/
def gatedQ (gate : Bool) (k : Creep) (q : Nat) : Bool :=
  (!gate && q != 15) || (k.a && (q < 4 || q = 14)) || (k.q && 4 ≤ q && q < 8) || (k.q1 && 8 ≤ q && q < 12)
    || (k.s && (q = 12 || q = 13))

/-- Increment and new residual of a quantity: energy to 2^-32 of its unit, the part below kept (R210, R211). -/
def incrementOf (gated : Bool) (energy resid : Rat) : Nat × Rat :=
  if gated then (0, resid)
  else
    let x := energy / 3600 * ((2 ^ 32 : Nat) : Rat) + resid
    (x.floor.toNat, x - x.floor)

/-- A ratio in Q1.15, limited to -1 to +1 (R208). -/
def q15 (f : Nat) (x : Rat) : Int := max (-32768) (min 32767 (roundSigned f (x * 32768)))

/-- A meter's cadence as published, without its odometers. -/
structure MeterOut where
  result : Result
  yields : MeterCalc
  resid : List Rat
  gate : Bool
  gap : Bool

/-- The result of a meter's cadence (R199 to R216). `cad`, `stamp`: the cadence; `old`: the meter as it was in the cadence; `live`:
the meter that carries its running values. -/
def resultOf (m : Nat) (old live : Meter) (o cad stamp : Nat) (late cfSat : Bool) (wave : Nat → Option Wave)
    (past : Nat → List Wave) (unit : Nat → Rat) : MeterOut :=
  let d := old.def_
  let prev := if live.pubAt.any fun b => b + 1 = o then live.freq else none
  let c := calcMeter { live with restart := old.restart } d prev o wave past unit
  let gap := decide (c.valid < 96)
  let gate := gateAfter d live.gate c.iSq
  let k := creepOf d c
  let es := energies d c gap
  let pairs := (List.range 16).map fun q =>
    incrementOf (gap || gatedQ gate k q) (es.getD q 0) (live.resid.getD q 0)
  let x := slotData d wave
  let any (f : Aligned → Bool) : Bool := x.used.any fun i => (x.vals i).any f
  let p := sumRat c.ep * 125
  let q := sumRat c.eq * 125
  let p1 := sumRat c.p1
  let q1 := sumRat c.q1
  let mag := sqrtRat (p1 * p1 + q1 * q1)
  let flags := flagsOf [(0, late), (1, c.valid != 128), (2, !gap && c.valid != 128), (3, gap), (4, any (·.suspect)),
    (5, any (·.bridged)), (6, any (·.overload)), (7, any (·.jockey)), (8, any (·.relief)), (9, !gate), (10, k.a),
    (11, k.q || k.q1), (12, k.s), (13, c.noFreq), (14, cfSat), (15, old.redefined)]
  let mw (f : Nat) (v : Rat) : Int := sats 64 (roundSigned f (v * 65536))
  { result := {
      cadence := cad, stamp, meter := m, owner := d.owner, type := d.type
      gates := BitVec.ofNat 8 (bit gate + 2 * bit (defSealed d)), flags, valid := c.valid, defGen := old.defGen
      inc := pairs.map (·.1), odo := []
      p := mw 20 p :: (List.range 3).map fun i => mw 20 (c.ep.getD i 0 * 125)
      q := mw 21 q :: (List.range 3).map fun i => mw 21 (c.eq.getD i 0 * 125)
      p1 := mw 22 p1, q1 := mw 23 q1, s := satu 64 (roundField 24 (c.s * 65536))
      vrms := c.vSq.map fun v => satu 64 (rootField 25 (v * ((2 ^ 48 : Nat) : Rat)))
      irms := c.iSq.map fun v => satu 64 (rootField 26 (v * ((2 ^ 48 : Nat) : Rat)))
      pf := if c.s = 0 || k.s || !gate then 0 else q15 27 (p / c.s)
      dpf := if mag = 0 || !gate || (k.a && k.q1) || d.type = 4 then 0 else q15 28 (p1 / mag)
      freq := satu 32 (roundField 29 (c.freq.getD 0 * 65536))
      angV := c.angV.map (angleField 30), angI := c.angI.map (angleField 31) }
    yields := c, resid := pairs.map (·.2), gate, gap }

/-- The 512 bytes of a result record (R215). -/
def Result.bytes (r : Result) : List Byte :=
  leBytes 8 r.cadence ++ leBytes 8 r.stamp ++ leBytes 1 r.meter ++ leBytes 1 r.owner ++ leBytes 1 r.type ++ [r.gates]
    ++ leBytes 4 r.flags.toNat ++ leBytes 2 r.valid ++ leBytes 2 r.defGen.toNat ++ zeros 4
    ++ r.inc.flatMap (leBytes 8) ++ r.odo.flatMap (leBytes 8) ++ r.p.flatMap (leBytesInt 8) ++ r.q.flatMap (leBytesInt 8)
    ++ leBytesInt 8 r.p1 ++ leBytesInt 8 r.q1 ++ leBytes 8 r.s ++ r.vrms.flatMap (leBytes 8) ++ r.irms.flatMap (leBytes 8)
    ++ leBytesInt 2 r.pf ++ leBytesInt 2 r.dpf ++ leBytes 4 r.freq ++ r.angV.flatMap (leBytesInt 2)
    ++ r.angI.flatMap (leBytesInt 2) ++ zeros 48

/-- Where the record of meter `m` for cadence `n` lies (R245). -/
def resultAddr (m n : Nat) : Nat := 0x01480000 + n % 2 * 0x20000 + m * 0x200

end Sys2Proof.Machine
end

