-- ==== Sys2Proof/Machine/Outputs.lean ====
section
/-! DEFINITION. CF pulse outputs and fast trips (R217 to R228). -/
namespace Sys2Proof.Machine

/-! ## CF outputs -/

/-- Accumulator units of one pulse (R218). -/
def pulseUnits : Nat := 1000 * 2 ^ 32

/-- The first modulator clock edge at or after an instant: edges lie half a clock off the boundary (R164, R219). -/
def nextClockEdge (mc : Rat) : Nat := 8 * ((mc - 4) / 8).ceil.toNat + 4


/-- The edges of one increment, placed across [t0, t0 + len) (R219, R220). -/
def placeEdges (map : CfMap) (acc inc t0 len : Nat) : List CfEdge :=
  let step := inc * map.k
  if step = 0 then []
  else
    let period := cadenceClocks * pulseUnits / step / modClock * modClock
    let high := Nat.min (map.width * 49152) (period / 2)
    (List.range ((acc + step) / pulseUnits)).map fun i =>
      { at_ := nextClockEdge ((t0 : Rat) + (((i + 1) * pulseUnits - acc : Nat) : Rat) / (step : Rat) * (len : Rat)), high }

/-- Pulses that may remain due across an interval's end (R221). -/
def maxBacklog : Nat := 65535

/-- An increment reaches the output: the accumulator advances, and its edges join those still due; pulses beyond the backlog
are lost (R218 to R222). With `hold` the edges that fall due are not placed (R506). -/
def Cf.take (x : Cf) (inc t0 len : Nat) (hold : Bool) : Cf :=
  match x.map with
  | none => x
  | some m =>
    let inc := inc + x.carry
    let due := x.edges.take maxBacklog
    let new := if hold then [] else placeEdges m x.acc inc t0 len
    { x with
      acc := (x.acc + inc * m.k) % pulseUnits, carry := 0, edges := due ++ new
      lost := x.lost + BitVec.ofNat 32 (x.edges.length - maxBacklog) }

/-- The least spacing of rising edges: 308 modulator clocks (R221). -/
def edgeSpacing : Nat := 308 * modClock

/-- A placed edge falls due: it rises, or is delayed to the spacing or by a short low (R220, R221). -/
def cfEdge (n : Nat) (s : State) : State :=
  let x := s.cfOut n
  match x.edges with
  | [] => s
  | e :: rest =>
    if s.now < e.at_ || x.kick then s
    else
      let earliest := match x.lastRise with
        | none => 0
        | some r => r + edgeSpacing
      if s.now < earliest then s.modCf n fun x => { x with edges := { e with at_ := earliest } :: rest, sat := true }
      else if x.level then
        s.modCf n fun x => { x with edges := { e with at_ := s.now + 8 * modClock } :: rest, level := false, sat := true }
      else s.modCf n fun x => { x with edges := rest, level := true, lastRise := some s.now, highUntil := s.now + e.high }

/-- CF_EDGE (R220). -/
def execCfEdge (t cf : Nat) (s : State) : Host.Outcome State Fault Refusal := .next (cfEdge cf (s.advance t))

/-- The pulse width H has passed: the output goes low (R220). -/
def cfPulseEnd (n : Nat) (s : State) : State :=
  let x := s.cfOut n
  if x.level && x.highUntil ≤ s.now then s.modCf n fun x => { x with level := false } else s

/-- CF_PULSE_END (R220). -/
def execCfPulseEnd (t cf : Nat) (s : State) : Host.Outcome State Fault Refusal := .next (cfPulseEnd cf (s.advance t))

/-- An output in kickstand: it drives nothing and its pending edges are discarded (R115). -/
def Cf.toKick (x : Cf) : Cf := { x with kick := true, level := false, edges := [] }

/-! ## Fast trips -/

/-- A sample in the fine convention exceeds a comparator's limits, for which cruise full scale is 2^31: the sides crossed (R223). -/
def TripCfg.sides (c : TripCfg) (v : Rat) : BitVec 2 :=
  let hi := (c.mode = 1 || c.mode = 3) && decide (((c.tHi * 65536 : Int) : Rat) < v)
  let lo := (c.mode = 2 || c.mode = 3) && decide (v < ((c.tLo * 65536 : Int) : Rat))
  BitVec.ofNat 2 (bit hi + 2 * bit lo)

/-- Exported stamp of the fast sample `ago` samples before the last one judged, which emerged at the present instant 22.5
modulator clocks after the instant it represents (R127, R171); and its elapsed master clocks. -/
def State.fastInstant (s : State) (ago : Nat) : Nat := s.now - 180 - 128 * ago

/-- The exported stamp of an instant `mc` elapsed master clocks since reset, in the open cadence's numbering. -/
def State.stampAt (s : State) (mc : Nat) : Nat :=
  stampOf (s.time.cad * cadenceClocks + s.time.off - (s.now - mc))

/-- 125 % of climb full scale in the fine convention (R163, R224). -/
def climbLimit : Rat := ((5 * 2 ^ 41 : Nat) : Rat)

/-- The fast sample of channel `c` that represents the instant `t`, from the levels of the slice that serves it (R126 to R129, R224): scaled by
the gain and offset of the gear its window begins in, LOST where no slice serves, its wheel was not ON, or it emerged after a failure was
detected. An OVER clock before its own levels begins no disturbed interval for it. -/
def State.fastSample (s : State) (c t : Nat) (levels : List Int) : Fast :=
  let w := wheelOf c
  let v := s.viewAt t
  let server := (v.wheel w).serverThrough v.b (spokeOf c)
  let k := server.getD (spokeOf c)
  let y := (s.wheel w).slice k
  let h : Health := { s.health w k with failedAt := none }
  let a : Int := (t : Int) - 184
  let over_ := (overClocks levels).toArray
  let climb := gearAt h.climb h.gears a
  let disturbed := h.disturbed (a - 56) fun i => decide (0 ≤ i) && over_.getD i.toNat false
  let lost := server.isNone || levels.length < fastLevels || !h.covers a (a + 368) || y.failedAt.any fun f => decide (f.2 ≤ t + 180)
  let x := v.fast c (if k = 8 then 1 else 0) climb (fastOf (levels.drop 7))
  let x := if climb then maxRat (-climbLimit) (minRat x climbLimit) else x
  { v := if lost then 0 else x, climb, overload := fastOver levels, shifting := disturbed.any (meets a (a + 368)), jockey := k == 8
    suspect := y.suspect || y.emergency, lost, relief := (v.wheel w).engine == 1 }

/-- What a comparator does with one sample (R223 to R225): it counts, asserts after COUNT, deasserts after RELEASE unless it is
latched. -/
def TripState.next (st : TripState) (c : TripCfg) (v : Rat) (lost : Bool) (stamp : Nat) : TripState :=
  let sides := if lost then 0 else c.sides v
  let exceeds := c.mode != 0 && (if lost then c.lostTrip else sides != 0)
  let st := if exceeds then
      { st with run := st.run + 1, clear := 0, first := if st.run = 0 then stamp else st.first
                sides := if st.run = 0 then sides else st.sides ||| sides }
    else { st with run := 0, clear := st.clear + 1 }
  if exceeds && !st.asserted && c.count ≤ st.run then { st with asserted := true, latched := c.latch }
  else if !exceeds && st.asserted && !st.latched && c.release ≤ st.clear then { st with asserted := false }
  else st

/-- The comparator of channel `c` judges samples, each under the settings in force at its stamp (R26), and each change of its state raises
its event (R225, R423); an assertion freezes the DC estimate from its sample on (R175). -/
def tripRun (c : Nat) (x : TripIn) (s : State) : State :=
  let n := x.samples.length
  x.samples.zipIdx.foldl (fun s (p, i) =>
    let ch := s.channel c
    let t := s.fastInstant (n - 1 - i)
    let f := s.fastSample c t p
    let st := ch.tripState.next ((s.viewAt t).channel c).trip f.v f.lost (s.stampAt t)
    let s := s.modChannel c fun ch => { ch with tripState := st }
    if st.asserted && !ch.tripState.asserted then
      tripTrigger c st.first
        ((s.modChannel c fun ch => { ch with tripSeen := true, tripQuiet := false, tripFrom := ch.tripFrom.orElse fun _ => some t }).fireAt
          c 1 (st.sides.setWidth 32) st.first)
    else if !st.asserted && ch.tripState.asserted then s.fire c 2 (st.sides.setWidth 32)
    else s) s

/-- FAST_TRIP_ASSERT (R225). -/
def execFastTripAssert (t channel : Nat) (x : TripIn) (s : State) : Host.Outcome State Fault Refusal :=
  .next (tripRun channel x (s.advance t))

/-- FAST_TRIP_DEASSERT (R225). -/
def execFastTripDeassert (t channel : Nat) (x : TripIn) (s : State) : Host.Outcome State Fault Refusal :=
  .next (tripRun channel x (s.advance t))

/-- A comparator's count and state are cleared, and the event says what ended (R225, R423). -/
def clearTrip (c : Nat) (s : State) : State :=
  let st := (s.channel c).tripState
  let s := s.modChannel c fun x => { x with tripState := TripState.reset }
  if st.latched then s.fire c 3 (st.sides.setWidth 32)
  else if st.asserted then s.fire c 2 (st.sides.setWidth 32) else s

/-- Channels whose configured comparators drive output `k` (R225). -/
def tripDrivers (s : State) (k : Nat) : List Nat :=
  (s.chan.filter fun e => e.2.trip.mode != 0 && e.2.trip.outMask.getLsbD k).map (·.1)

/-- FASTTRIP_Nk is low: in kickstand, while a comparator that drives it is asserted, or while the wheel of one is not ON (R114,
R115, R225). -/
def tripOut (s : State) (k : Nat) : Bool :=
  s.tripKick.getLsbD k || (tripDrivers s k).any fun c =>
    (s.channel c).tripState.asserted || !s.domOn (wheelDom (wheelOf c))

/-- Outputs whose comparators include one on a wheel that is not ON assert at once, and leave that state as they leave kickstand, once
every channel has settled again (R114, R115, R187). -/
def tripKickWheels (s : State) : State :=
  { s with tripKick := s.tripKick ||| BitVec.ofNat 4 (maskOf ((List.range 4).filter fun k =>
      (tripDrivers s k).any fun c => !s.domOn (wheelDom (wheelOf c)))) }

/-- An output leaves kickstand at the first boundary at which a comparator drives it and every channel ORed into it has
settled (R114); without a dry image none does (R113). -/
def tripKickPass (s : State) : State :=
  let s := tripKickWheels s
  if !s.pwr.dryOk then s
  else { s with tripKick := BitVec.ofNat 4 (maskOf ((List.range 4).filter fun k =>
      s.tripKick.getLsbD k && !(!(tripDrivers s k).isEmpty && (tripDrivers s k).all fun c =>
        s.domOn (wheelDom (wheelOf c)) && (s.wheel (wheelOf c)).settled))) }

/-! ## Other outputs (R70, R73, R114, R115) -/

/-- VDDC_REQ[2:0] (R49, R70, R71). -/
def State.vddcReq (s : State) : Nat := s.fab.vreq

/-- HOST_WAKE_N is low (R120); the ball is open-drain and never drives high (R72). -/
def State.hostWake (s : State) : Bool := s.pwr.hold

/-- CFnn is high (R220); in kickstand it is low. -/
def State.cfHigh (s : State) (n : Nat) : Bool := !(s.cfOut n).kick && (s.cfOut n).level

/-- The tandem transmit lanes, and the clock pair where it is an output, are in electrical idle: TDM is not ON or tandem operation is
not enabled (R70, R114). -/
def State.tdmIdle (s : State) : Bool := !(s.domOn 16 && s.tdm.enabled)

/-- State of TDM_CLKP and TDM_CLKN (R73): an input on the device that is not preferred; on the preferred one an output. -/
inductive ClockPair where
  | input
  | idle
  | driven
deriving DecidableEq, Repr

/-- The clock pair of this device (R70, R73). -/
def State.clockPair (s : State) : ClockPair := if !s.pwr.tiebreak then .input else if s.tdmIdle then .idle else .driven

/-- The powerline DAC outputs are enabled, at mid-code between frames: from the first frame after the link is enabled until they return to
kickstand (R114, R437). In kickstand they stand at mid-code in high impedance (R70). -/
def State.plcDacOn (s : State) : Bool := s.domOn 14 && s.domOn 15 && s.plc.dac

/-- PLC_TXEN of phase `p`: from 2.00 us before the first sample of a frame that the phase transmits to 1.00 us after its last one; low in
kickstand (R70, R437). -/
def State.plcTxen (s : State) (p : Nat) : Bool :=
  s.plcDacOn && s.plc.tx.any fun x => x.phases.getLsbD p && decide (s.now * 100000 ≤ x.start * 100000 + (x.samples + 50) * 98304)

/-- The host ports drive HPn_IO for transfers: they are in high impedance until they are ready, and in HUSH (R70, R105). -/
def State.hpDriven (s : State) : Bool := s.pwr.portsReady

end Sys2Proof.Machine
end

