-- ==== Sys2Proof/Machine/Calendar.lean ====
section
/-! DEFINITION. Calendars: their bytes, their validity, local time and the rate of a second (R298 to R301). -/
namespace Sys2Proof.Machine

/-- The proleptic Gregorian date of a day, day 0 = 2000-01-01: year, month, day (R300). -/
def gregorian (day : Int) : Int × Nat × Nat :=
  let z := day + 730425
  let era := z / 146097
  let doe := z % 146097
  let yoe := (doe - doe / 1460 + doe / 36524 - doe / 146096) / 365
  let doy := doe - (365 * yoe + yoe / 4 - yoe / 100)
  let mp := (5 * doy + 2) / 153
  let d := doy - (153 * mp + 2) / 5 + 1
  let m := if mp < 10 then mp + 3 else mp - 9
  (yoe + era * 400 + (if m ≤ 2 then 1 else 0), m.toNat, d.toNat)

/-- Days in a month of a year. -/
def monthDays (leap : Bool) (m : Nat) : Nat := [31, if leap then 29 else 28, 31, 30, 31, 30, 31, 31, 30, 31, 30, 31].getD (m - 1) 0

/-- A leap year. -/
def leapYear (y : Nat) : Bool := y % 4 = 0 && (y % 100 != 0 || y % 400 = 0)

/-- The local offset at RTC second `s`: the last entry in effect (R300). -/
def Calendar.offsetAt (c : Calendar) (s : Nat) : Int := ((c.offsets.filter fun e => e.1 ≤ s).getLast?.map (·.2)).getD 0

/-- The local second of RTC second `s` (R300). -/
def Calendar.localAt (c : Calendar) (s : Nat) : Int := (s : Int) + c.offsetAt s

/-- (month, day) pairs in date order. -/
def dateLe (a b : Nat × Nat) : Bool := a.1 < b.1 || (a.1 = b.1 && a.2 ≤ b.2)

/-- The week profile in force on a date: the last season begun, before the first one the last of the list (R300). -/
def Calendar.week (c : Calendar) (m d : Nat) : List Nat :=
  let begun := c.seasons.filter fun e => dateLe (e.1, e.2.1) (m, d)
  let pick := match begun.getLast? with
    | some e => some e
    | none => c.seasons.getLast?
  c.weeks.getD ((pick.map (·.2.2)).getD 0) []

/-- The day profile of a date (R300). -/
def Calendar.profile (c : Calendar) (y : Int) (m d wd : Nat) : Nat :=
  let here (year : Int) := c.special.find? fun e => (e.1 : Int) = year && e.2.1 = m && e.2.2.1 = d
  match here y with
  | some e => e.2.2.2
  | none => match here 0 with
    | some e => e.2.2.2
    | none => (c.week m d).getD wd 0

/-- The rate at RTC second `s` (R300). -/
def Calendar.rateAt (c : Calendar) (s : Nat) : Nat :=
  let l := c.localAt s
  let day := l / 86400
  let sod := (l % 86400).toNat
  let (y, m, d) := gregorian day
  let prof := c.days.getD (c.profile y m d ((day + 5) % 7).toNat) []
  ((prof.filter fun p => p.1 ≤ sod).getLast?.map (·.2)).getD 0

/-- The last billing instant at or before RTC second `s`, as 12 x year + month (R307); none without a billing day. -/
def Calendar.billKey (c : Calendar) (s : Nat) : Option Int :=
  if c.billDay = 0 then none
  else
    let l := c.localAt s
    let (y, m, d) := gregorian (l / 86400)
    let now := 12 * y + (m : Int)
    some (if c.billDay < d || (c.billDay = d && (c.billSecond : Int) ≤ l % 86400) then now else now - 1)

/-- Strictly rising by an order. -/
def risingBy {α : Type} (lt : α → α → Bool) (l : List α) : Bool := (l.zip (l.drop 1)).all fun (a, b) => lt a b

/-- A special day's date exists in some year of its setting (R299). -/
def specialExists (e : Nat × Nat × Nat × Nat) : Bool :=
  1 ≤ e.2.1 && e.2.1 ≤ 12 && 1 ≤ e.2.2.1 && e.2.2.1 ≤ monthDays (e.1 = 0 || leapYear e.1) e.2.1

/-- The calendar that 3,936 bytes stand for; none where a rule of R298 or R299 is broken. -/
def parseCalendar (b : List Byte) : Option Calendar :=
  let f := field b
  let noff := f 16 1
  let nsea := f 17 1
  let nwk := f 18 1
  let nday := f 19 1
  let nsp := f 20 1
  let zero (off len : Nat) : Bool := (slice b off len).all (· == 0)
  let counts := 1 ≤ noff && noff ≤ 32 && 1 ≤ nsea && nsea ≤ 12 && 1 ≤ nwk && nwk ≤ 8 && 1 ≤ nday && nday ≤ 32 && nsp ≤ 128
  let offsets := (List.range noff).map fun i => (f (64 + 16 * i) 8, fieldInt b (72 + 16 * i) 4)
  let seasons := (List.range nsea).map fun i => (f (576 + 8 * i) 1, f (577 + 8 * i) 1, f (578 + 8 * i) 1)
  let weeks := (List.range nwk).map fun i => (List.range 7).map fun k => f (672 + 8 * i + k) 1
  let points (i : Nat) : List Nat := (List.range (f (736 + 68 * i) 1)).map fun k => f (740 + 68 * i + 4 * k) 4
  let days := (List.range nday).map fun i => (points i).map fun p => (p % 2 ^ 17, p / 2 ^ 24)
  let special := (List.range nsp).map fun i =>
    (f (2912 + 8 * i) 2, f (2914 + 8 * i) 1, f (2915 + 8 * i) 1, f (2916 + 8 * i) 1)
  let reserved := zero 28 36 && f 23 1 < 2
    && (List.range noff).all (fun i => zero (76 + 16 * i) 4) && zero (64 + 16 * noff) (16 * (32 - noff))
    && (List.range nsea).all (fun i => zero (579 + 8 * i) 5) && zero (576 + 8 * nsea) (8 * (12 - nsea))
    && (List.range nwk).all (fun i => zero (679 + 8 * i) 1) && zero (672 + 8 * nwk) (8 * (8 - nwk))
    && (List.range nday).all (fun i => zero (737 + 68 * i) 3 && zero (740 + 68 * i + 4 * f (736 + 68 * i) 1) (4 * (16 - f (736 + 68 * i) 1))
        && (points i).all fun p => p / 2 ^ 17 % 2 ^ 7 = 0)
    && zero (736 + 68 * nday) (68 * (32 - nday))
    && (List.range nsp).all (fun i => zero (2917 + 8 * i) 3) && zero (2912 + 8 * nsp) (8 * (128 - nsp))
  let ok := f 0 4 = 1 && f 8 4 = 3936 && BitVec.ofNat 32 (f 12 4) == crc32 (slice b 16 3920) && counts && reserved
    && f 21 1 ≤ 7 && f 22 1 ≤ 28 && f 24 4 < 86400
    && (offsets.head?.map (·.1)) == some 0 && risingBy (fun a b => a.1 < b.1) offsets
    && offsets.all (fun e => -57600 ≤ e.2 && e.2 ≤ 57600)
    && seasons.all (fun e => 1 ≤ e.1 && e.1 ≤ 12 && 1 ≤ e.2.1 && e.2.1 ≤ 31 && e.2.2 < nwk)
    && risingBy (fun a b => a.1 < b.1 || (a.1 = b.1 && a.2.1 < b.2.1)) seasons
    && weeks.all (fun w => w.all (· < nday))
    && (List.range nday).all (fun i => 1 ≤ f (736 + 68 * i) 1 && f (736 + 68 * i) 1 ≤ 16)
    && days.all (fun d => (d.head?.map (·.1)) == some 0 && risingBy (fun a b => a.1 < b.1) d && d.all fun p => p.1 < 86400 && p.2 ≤ 7)
    && special.all (fun e => (e.1 = 0 || (2000 ≤ e.1 && e.1 ≤ 2199)) && specialExists e && e.2.2.2 < nday)
    && (special.map fun e => (e.1, e.2.1, e.2.2.1)).eraseDups.length = nsp
  if ok then
    some { id := BitVec.ofNat 32 (f 4 4), nweek := nwk, defaultRate := f 21 1, billDay := f 22 1, billSecond := f 24 4
           closeAtActivation := f 23 1 % 2 = 1, offsets, seasons, weeks, days, special }
  else none

end Sys2Proof.Machine
end

