-- ==== Sys2Proof/Machine/Billing.lean ====
section
/-! DEFINITION. Booking, rate selection, demand, billing periods, tamper criteria, records and signed readings (10). -/
namespace Sys2Proof.Machine

/-! ## Sticky flags and records (R291, R292, R295) -/

/-- A bit of RFLAGS [31:16] is set in both sticky fields (R315): 0 is BRIDGED. -/
def Ledger.stick (l : Ledger) (bits : BitVec 16) : Ledger :=
  { l with
    stickyRead := l.stickyRead ||| bits, stickyPeriod := l.stickyPeriod ||| bits
    sinceRead := l.sinceRead ||| bits, sincePeriod := l.sincePeriod ||| bits }

/-- An outage is recorded in a ledger (R109, R295). -/
def Ledger.outage (l : Ledger) (last first : Nat) : Ledger :=
  { l with records := { l.records with outageCount := l.records.outageCount + 1, outageLast := last, outageFirst := first } }.stick
    (stickyBit 4)

/-- A domain loss is recorded in a ledger (R98, R295). -/
def Ledger.domainLoss (l : Ledger) (first last : Nat) : Ledger :=
  { l with records := { l.records with dlossCount := l.records.dlossCount + 1, dlossFirst := first, dlossLast := last } }.stick
    (stickyBit 5)

/-- A seal record in a ledger (R288, R289, R295). -/
def Ledger.sealRecord (l : Ledger) (count : BitVec 32) (isOpen trusted unknown : Bool) (time : Nat) : Ledger :=
  { l with records := { l.records with
      sealCount := count, sealState := BitVec.ofNat 32 (bit isOpen + 2 * bit trusted + 4 * bit unknown)
      sealTime := if unknown then 0 else time } }.stick (stickyBit 8)

/-- Sub-intervals in progress and their history are lost or cut (R306): they are short. -/
def Demand.cut (d : Demand) (lost : Bool) : Demand := if lost then { d with acc := 0, short := true, hist := [] }
  else { d with short := true }

/-! ## Periods and demand (R304 to R308) -/

/-- The billing period closes at a boundary (R308). -/
def Ledger.closePeriod (l : Ledger) (cause stamp : Nat) : Ledger :=
  let part (v : Nat) : Nat := v / 2 ^ 16 % 2 ^ 64
  let snap : Snapshot := {
    period := l.period, cause, sflags := l.stickyPeriod, open_ := l.periodOpen, close := stamp
    tot := l.total.map part, rate := l.rate.map part
    md := l.md.map fun (mx, at_) => (mx, if at_ = 0 then none else some ((at_ - l.periodOpen) / 2 ^ 24))
    totFull := l.total, rateFull := l.rate }
  { l with
    snap := l.snap.put (l.period % 12) snap, md := l.md.map fun _ => (0, 0), stickyPeriod := 0
    sincePeriod := 0, sinceMd := l.sinceMd.map fun _ => (0, 0)
    period := (l.period + 1) % 2 ^ 32, periodOpen := stamp }

/-- The demand of a window of energies, 2^-16 of its unit (R305). -/
def demandOf (e s l : Nat) : Nat := e * 3600 / (s * 60 * l) / 2 ^ 16

/-- Demand quantity `k` closes its sub-interval, and an eligible window may raise MAX (R305, R306). -/
def Ledger.closeSub (l : Ledger) (k stamp : Nat) (endShort startShort : Bool) : Ledger :=
  let d := l.demand.getD k Demand.unused
  if d.cfg.q = 0xFF then l
  else
    let win := (d.acc, d.short || endShort) :: d.hist
    let last := win.take d.cfg.s
    let e := (last.map (·.1)).sum
    let v := demandOf e d.cfg.s d.cfg.l
    let ok := last.length = d.cfg.s && last.all fun x => !x.2
    let larger (old : Nat × Nat) : Nat × Nat := if ok && old.1 < v then (v, stamp) else old
    { l with
      md := l.md.set k (larger (l.md.getD k (0, 0))), sinceMd := l.sinceMd.set k (larger (l.sinceMd.getD k (0, 0)))
      demand := l.demand.set k { d with acc := 0, short := startShort, hist := win.take 14, closes := d.closes + 1 } }

/-- A waiting effect of a boundary is applied (R28). -/
def Ledger.apply (l : Ledger) : LedgerOp → Ledger
  | .subClose which stamp e st => which.foldl (fun l k => l.closeSub k stamp e st) l
  | .periodClose cause stamp => l.closePeriod cause stamp
  | .rateQ q0 q1 => { l with rateQ0 := q0, rateQ1 := q1, rate := l.rate.map fun _ => 0 }
  | .demand es => { l with demand := es.map fun c => { Demand.unused with cfg := c } }
  | .cut => { l with demand := l.demand.map fun d => d.cut false }

/-- The order of the effects of one boundary: windows, the close, then configuration (R307, R320). -/
def LedgerOp.rank : LedgerOp → Nat
  | .subClose .. => 0
  | .periodClose .. => 1
  | .rateQ .. => 2
  | .demand .. => 3
  | .cut => 4

/-- Two closes on one boundary are one, with the lowest cause (R307). -/
def insertOp (b : Nat) (op : LedgerOp) : List (Nat × LedgerOp) → List (Nat × LedgerOp)
  | [] => [(b, op)]
  | (c, o) :: rest =>
    match op, o with
    | .periodClose x t, .periodClose y u =>
      if b = c then (c, .periodClose (Nat.min x y) (if x < y then t else u)) :: rest else (c, o) :: insertOp b op rest
    | _, _ => if c < b || (c = b && o.rank ≤ op.rank) then (c, o) :: insertOp b op rest else (b, op) :: (c, o) :: rest

/-- The effects up to boundary `b` are applied. -/
def Ledger.settle (l : Ledger) (b : Nat) : Ledger :=
  ((l.ops.filter fun o => o.1 ≤ b).foldl (fun l o => l.apply o.2) { l with ops := l.ops.filter fun o => b < o.1 })

/-- A booking of the cadence that closed at the present boundary is still to come. -/
def State.bookingDue (s : State) : Bool := (s.closing.open_ && s.closing.bnd == s.b) || s.book.awaiting.any fun a => a.closedAt == s.b

/-- An effect of the present boundary on the ledger of meter `m`: after the booking of the cadence that closes there (R28). -/
def ledgerOp (m : Nat) (op : LedgerOp) (s : State) : State :=
  s.modLedger m fun l =>
    let l := { l with ops := insertOp s.b op l.ops }
    if s.bookingDue then l else l.settle s.b

/-! ## Tamper criteria (R309 to R311, R499) -/

/-- The criterion class of a TAMPER entry: 0 reversed current, 1 bypass, 2 missing neutral. -/
def criterionOf (entry : Nat) : Nat := if entry < 3 then 0 else entry - 2

/-- The criterion of an entry is met in a cadence; none where the cadence is excluded (R310). -/
def criterionMet (cfg : TamperCfg) (p : Published) (entry : Nat) : Option Bool :=
  let r := p.result
  let gap := r.flags.getLsbD 3
  let noFreq := r.flags.getLsbD 13
  let amps (k : Nat) : Rat := (r.irms.getD k 0 : Rat) / ((2 ^ 24 : Nat) : Rat)
  let volts (k : Nat) : Rat := (r.vrms.getD k 0 : Rat) / ((2 ^ 24 : Nat) : Rat)
  let mA (n : Nat) : Rat := (n : Rat) / 1000
  let part (n : Nat) : Rat := (n : Rat) / 1000
  let uNom := (f32Val cfg.uNom).getD 0
  let f (k : Nat) : Rat := p.fund.getD k 0
  if gap then none
  else if !cfg.enable.getLsbD (criterionOf entry) then some false
  else if entry < 3 then
    some (cfg.revMask.getLsbD entry && entry < phasesOf r.type
      && ((r.p.getD (1 + entry) 0 : Int) : Rat) / 65536 < -((f32Val cfg.pRev).getD 0) && mA cfg.iRev ≤ amps entry)
  else if entry = 3 then
    match p.residual with
    | some q =>
      let top := (List.range 4).foldl (fun m k => maxRat m (amps k)) 0
      some (r.type ≤ 2 && mA cfg.iByp * mA cfg.iByp < q && (part cfg.bypRel * top) * (part cfg.bypRel * top) < q)
    | none => some false
  else if r.type = 0 then some (volts 0 < part cfg.neuLow * uNom && mA cfg.iByp ≤ amps 0)
  else if r.type = 1 then
    if noFreq then none else some (part cfg.neuZs * (f 0 + f 1) / 2 < absRat (f 0 - f 1))
  else if r.type = 2 then
    if p.v3 && part cfg.neuPe * uNom < volts 3 then some true
    else if noFreq then none else some (part cfg.neuZs * (f 0 + f 1 + f 2) < p.fundSum)
  else some false

/-- One cadence towards a criterion's counts (R311); an excluded cadence neither advances nor breaks them. -/
def TamperEnt.count_ (e : TamperEnt) (met : Option Bool) : TamperEnt :=
  match met with
  | none => e
  | some true => { e with onRun := e.onRun + 1, offRun := 0 }
  | some false => { e with onRun := 0, offRun := e.offRun + 1 }

/-- The guard source of meter `m` closes the floodgate for a criterion class: its response is close and covers it (R499, R501). -/
def meterCloses (s : State) (m criterion : Nat) : Bool :=
  let r := s.response (0x100 + m)
  r.response = 2 && (r.param = 0 || r.param.getLsbD criterion)

/-- A guard source whose firing is recorded by another rule closes the floodgate where its response is close (R501, R504). -/
def guardDue (g : Nat) (closes : Bool) (s : State) : State :=
  if closes then { s with guard := { s.guard with due := s.guard.due ++ [g] } } else s

/-- A criterion starts after T_ON consecutive cadences (R311); `stamp`: the boundary that closed the last one. -/
def tamperStart (m entry stamp : Nat) (s : State) : State :=
  let l := s.ledger m
  let e := l.tamper.getD entry TamperEnt.zero
  if entry < 5 && !e.active && l.cfg.tOn ≤ e.onRun && !s.guard.fuses.getLsbD (19 + criterionOf entry) then
    let closes := meterCloses s m (criterionOf entry)
    let s := s.modLedger m fun l =>
      { l with tamper := l.tamper.set entry { e with active := true, count := e.count + 1, lastStart := stamp } }.stick (stickyBit 7)
    guardDue (0x100 + m) closes (s.fireFull (256 + m) 1 (BitVec.ofNat 32 entry) stamp false false 0 closes)
  else s

/-- A criterion ends after T_OFF consecutive cadences in which it is not met (R311). -/
def tamperEnd (m entry stamp : Nat) (s : State) : State :=
  let l := s.ledger m
  let e := l.tamper.getD entry TamperEnt.zero
  if entry < 5 && e.active && l.cfg.tOff ≤ e.offRun then
    (s.modLedger m fun l => { l with tamper := l.tamper.set entry { e with active := false } }).fireAt (256 + m) 2
      (BitVec.ofNat 32 entry) stamp
  else s

/-- The criteria of a meter on a booked cadence (R310, R311). -/
def tamperPass (p : Published) (stamp : Nat) (s : State) : State :=
  let m := p.meter
  let s := s.modLedger m fun l =>
    { l with tamper := l.tamper.zipIdx.map fun (e, k) => e.count_ (criterionMet l.cfg p k) }
  overTo 5 (fun s k => tamperEnd m k stamp (tamperStart m k stamp s)) s

/-! ## Booking (R294, R295) -/

/-- Steps 1 to 4 and 6 of the booking of one meter's cadence (R294, R295); `untrusted`: the clock as it is booked (R303). -/
def Ledger.book (l : Ledger) (p : Published) (cad : Nat) (untrusted : Bool) : Ledger :=
  let inc (q : Nat) : Nat := p.result.inc.getD q 0
  let wrap (v : Nat) : Nat := v % 2 ^ 96
  let gap := p.result.flags.getLsbD 3
  let addRate (rate : List Nat) (k q : Nat) : List Nat :=
    if q < 16 then rate.set (2 * p.rate + k) (wrap (rate.getD (2 * p.rate + k) 0 + inc q)) else rate
  { l with
    total := l.total.zipIdx.map fun (v, q) => wrap (v + inc q)
    rate := addRate (addRate l.rate 0 l.rateQ0) 1 l.rateQ1
    demand := l.demand.map fun (d : Demand) =>
      if d.cfg.q < 16 && d.cfg.rateMask.getLsbD p.rate then { d with acc := d.acc + inc d.cfg.q } else d
    gapCadences := if gap then l.gapCadences + 1 else l.gapCadences
    records := if p.default then
        { l.records with
          defaultCadences := l.records.defaultCadences + 1
          defaultFirst := if l.defaultActive then l.records.defaultFirst else cad
          defaultLast := cad }
      else l.records
    defaultActive := p.default, booked := cad }.stick
      (stickyOf p.result.flags ||| (if p.default then stickyBit 6 else 0) ||| (if untrusted then stickyBit 9 else 0))

/-- The outage that a start leaves waits, for every defined meter, for its first cadence measured again; it begins at the last cadence
booked (R109). -/
def outagePass (s : State) : State :=
  if s.pwr.outageOpen then
    { s with pwr := { s.pwr with outageOpen := false, outageDue := s.definedMeters.map fun m => (m, s.book.lastCadence.getD 0) } }
  else s

/-- The outage of meter `m` is recorded before the first cadence measured again is booked (R109). -/
def outageEnds (m cad : Nat) (s : State) : State :=
  match Tab.find s.pwr.outageDue m with
  | none => s
  | some last =>
    ({ s with pwr := { s.pwr with outageDue := s.pwr.outageDue.erase m } } : State).modLedger m fun l => l.outage last cad

/-- One published cadence of a meter is booked as one step (R294). A number that has been defined anew since takes none of it: its ledger
was cleared (R293). -/
def bookMeter (cad stamp : Nat) (s : State) (p : Published) : State :=
  if (s.meter p.meter).state != .undefined && (s.meter p.meter).born != p.born then s
  else
    let s := outageEnds p.meter cad s
    tamperPass p stamp (s.modLedger p.meter fun l => l.book p cad (!s.trusted))

/-- The oldest published cadence is booked, each meter as one step, and the effects of its closing boundary follow (R22, R28,
R294). -/
def bookOne (s : State) : State :=
  match s.book.awaiting with
  | [] => s
  | a :: rest =>
    let stamp := stampOf ((a.cadence + 1) * cadenceClocks)
    let s := outagePass { s with book := { s.book with awaiting := rest } }
    let s := a.meters.foldl (bookMeter a.cadence stamp) s
    { s with
      led := s.led.map fun (m, l) => (m, l.settle a.closedAt)
      book := { s.book with count := s.book.count + 1, lastCadence := some a.cadence } }

/-- Every published cadence is booked. -/
def bookAll (s : State) : State := overTo s.book.awaiting.length (fun s _ => bookOne s) s

/-- BOOKING (R294). -/
def execBooking (s : State) : Host.Outcome State Fault Refusal := .next (bookOne s)

/-! ## Rates, activation and closes at a boundary (R300 to R307) -/

/-- The present boundary begins an RTC second (R301). -/
def State.beginsSecond (s : State) : Bool := s.time.off = 0 && s.time.cad % 125 = 0

/-- Rates and activations act at the present boundary: it begins an RTC second, or the timebase stepped at it (R301, R468, R477). -/
def State.tariffTurn (s : State) : Bool := s.beginsSecond || s.time.stepped

/-- Meters of polder `p` that follow its calendar (R296). -/
def mode0Of (s : State) (p : Nat) : List Nat :=
  s.definedMeters.filter fun m => (s.meter m).def_.owner = p && (s.ledger m).mode = 0

/-- The two copies of a polder's calendar exchange (R302). -/
def activate (p : Nat) (s : State) : State :=
  let t := s.tariff p
  let s := s.modTariff p fun t =>
    { t with active := t.passive, passive := t.active, pendingT := none, billDone := t.passive.billKey s.second, billWait := false }
  if t.passive.closeAtActivation then
    (mode0Of s p).foldl (fun s m => ledgerOp m (.periodClose 3 s.stamp) s) s
  else s

/-- A pending activation takes place at the boundary that begins its second with the clock trusted (R302); one whose second has
passed takes place at the first such boundary (R303). -/
def activationPass (deferred : Bool) (p : Nat) (s : State) : State :=
  match (s.tariff p).pendingT with
  | none => s
  | some t =>
    if s.tariffTurn && s.trusted && (if deferred then t < s.second else t = s.second) then activate p s else s

/-- The rates of the cadence that opens (R301, R303). -/
def ratePass (s : State) : State :=
  if s.tariffTurn then
    s.definedMeters.foldl (fun s m =>
      if (s.ledger m).mode = 0 then
        let cal := (s.tariff (s.meter m).def_.owner).active
        s.modLedger m fun l => { l with activeRate := if s.trusted then cal.rateAt s.second else cal.defaultRate, nowDefault := !s.trusted }
      else s) s
  else s

/-- The local offset of a polder's calendar at the present second is not that of the second before, by an entry or by an activation
(R306). -/
def offsetMoves (s : State) (p : Nat) : Bool := (s.tariff p).active.offsetAt s.second != (s.tariff p).offset

/-- The offsets of the present second become those of the second before the next one. -/
def offsetPass (s : State) : State :=
  if s.tariffTurn then overTo 16 (fun s p => s.modTariff p fun t => { t with offset := t.active.offsetAt s.second }) s else s

/-- Sub-intervals of meter `m` close at the present boundary (R305, R306). -/
def closeSubs (m : Nat) (which : List Nat) (short : Bool) (s : State) : State :=
  ledgerOp m (.subClose which s.stamp short short) (s.modLedger m fun l => { l with subAt := some s.b })

/-- The demand quantities of a meter whose sub-interval closes at the present boundary; an offset change closes every one, short
(R305, R306); a step has closed them already. -/
def demandPass (m : Nat) (s : State) : State :=
  if s.beginsSecond && (s.ledger m).subAt != some s.b && (s.meter m).state != .undefined then
    let p := (s.meter m).def_.owner
    let l := (s.tariff p).active.localAt s.second
    let ds := (s.ledger m).demand
    if offsetMoves s p then closeSubs m (List.range 4) true s
    else
      let which := (List.range 4).filter fun k =>
        let d := ds.getD k Demand.unused
        d.cfg.q != 0xFF && l % ((60 * d.cfg.l : Nat) : Int) = 0
      if which.isEmpty then s else closeSubs m which false s
  else s

/-- Billing-date closes of a polder (R303, R307): cause 1 at once, a wait while the clock is untrusted, cause 5 when it ends. -/
def billingPass (deferred : Bool) (p : Nat) (s : State) : State :=
  let t := s.tariff p
  match t.active.billKey s.second with
  | none => s
  | some key =>
    let due := match t.billDone with
      | none => true
      | some k => decide (k < key)
    let close (cause : Nat) : State :=
      (mode0Of s p).foldl (fun s m => ledgerOp m (.periodClose cause s.stamp) s)
        (s.modTariff p fun t => { t with billDone := some key, billWait := false })
    if !s.beginsSecond then s
    else if deferred then (if t.billWait && s.trusted then close 5 else s)
    else if due && !t.billWait then
      (if s.trusted then close 1 else s.modTariff p fun t => { t with billWait := true })
    else s

/-- Steps 4 to 6 of R27 for tariffs, demand and billing. -/
def tariffPass (s : State) : State :=
  let s := overTo 16 (fun s p => activationPass true p (activationPass false p s)) s
  let s := ratePass s
  let s := s.definedMeters.foldl (fun s m => demandPass m s) s
  overTo 16 (fun s p => billingPass false p (billingPass true p s)) (offsetPass s)

/-- A step of the timebase closes every sub-interval short (R306); those that have just begun there are short. -/
def demandStep (s : State) : State :=
  s.definedMeters.foldl (fun s m => if (s.ledger m).subAt = some s.b then ledgerOp m .cut s else closeSubs m (List.range 4) true s) s

/-- CALENDAR_ACTIVATION (R302). -/
def execCalendarActivation (polder : Nat) (s : State) : Host.Outcome State Fault Refusal := .next (activationPass false polder s)

/-- DEFERRED_CALENDAR_ACTIVATION (R303). -/
def execDeferredCalendarActivation (polder : Nat) (s : State) : Host.Outcome State Fault Refusal :=
  .next (activationPass true polder s)

/-- DEMAND_SUBINTERVAL_CLOSE (R305). -/
def execDemandSubintervalClose (meter : Nat) (s : State) : Host.Outcome State Fault Refusal := .next (demandPass meter s)

/-- BILLING_DATE_CLOSE (R307). -/
def execBillingDateClose (polder : Nat) (s : State) : Host.Outcome State Fault Refusal := .next (billingPass false polder s)

/-- DEFERRED_BILLING_DATE_CLOSE (R307). -/
def execDeferredBillingDateClose (polder : Nat) (s : State) : Host.Outcome State Fault Refusal := .next (billingPass true polder s)

/-- TAMPER_CRITERION_START (R311). -/
def execTamperCriterionStart (meter entry : Nat) (s : State) : Host.Outcome State Fault Refusal :=
  .next (tamperStart meter entry (stampOf (((s.ledger meter).booked + 1) * cadenceClocks)) s)

/-- TAMPER_CRITERION_END (R311). -/
def execTamperCriterionEnd (meter entry : Nat) (s : State) : Host.Outcome State Fault Refusal :=
  .next (tamperEnd meter entry (stampOf (((s.ledger meter).booked + 1) * cadenceClocks)) s)

/-! ## Signed readings (R312 to R318) -/

/-- A 96-bit register, 12 bytes (R290). -/
def reg96 (v : Nat) : List Byte := leBytes 12 v

/-- The 48 bytes of a ledger's header (R291). -/
def Ledger.header (l : Ledger) (m : Nat) : List Byte :=
  leBytes 1 m ++ leBytes 1 l.owner ++ leBytes 1 (bit l.sealed + 2 * bit l.defaultActive) ++ leBytes 1 l.activeRate
    ++ leBytes 2 l.defGen.toNat ++ leBytes 1 l.rateQ0 ++ leBytes 1 l.rateQ1 ++ leBytes 8 l.booked ++ leBytes 8 l.readSeq
    ++ leBytes 4 l.period ++ leBytes 2 l.stickyRead.toNat ++ leBytes 2 l.stickyPeriod.toNat ++ leBytes 8 l.periodOpen
    ++ leBytes 8 l.gapCadences

/-- The 96 bytes of the RECORDS block (R292). -/
def Records.bytes (r : Records) : List Byte :=
  leBytes 4 r.sealCount.toNat ++ leBytes 4 r.sealState.toNat ++ leBytes 8 r.sealTime ++ leBytes 4 r.outageCount.toNat
    ++ leBytes 4 r.dlossCount.toNat ++ leBytes 8 r.outageLast ++ leBytes 8 r.outageFirst ++ leBytes 8 r.dlossFirst
    ++ leBytes 8 r.dlossLast ++ leBytes 8 r.defaultCadences ++ leBytes 8 r.defaultFirst ++ leBytes 8 r.defaultLast ++ zeros 16

/-- The 16 bytes of a TAMPER entry (R292). -/
def TamperEnt.bytes (e : TamperEnt) : List Byte := leBytes 4 e.count.toNat ++ leBytes 1 (bit e.active) ++ zeros 3 ++ leBytes 8 e.lastStart

/-- The 328 bytes of a snapshot (R308). -/
def Snapshot.bytes (x : Snapshot) : List Byte :=
  leBytes 4 x.period ++ leBytes 1 x.cause ++ zeros 1 ++ leBytes 2 x.sflags.toNat ++ leBytes 8 x.open_ ++ leBytes 8 x.close
    ++ x.tot.flatMap (leBytes 8) ++ x.rate.flatMap (leBytes 8)
    ++ x.md.flatMap fun (v, o) => leBytes 8 v ++ leBytes 4 (o.getD 0xFFFFFFFF)

/-- The snapshot that SNAP_INDEX names: 0 is the period closed last (R312). -/
def Ledger.snapshot (l : Ledger) (i : Nat) : Option Snapshot :=
  if i < 12 && i + 1 < l.period then
    (l.snap.find ((l.period - 1 - i) % 12)).bind fun x => if x.period = l.period - 1 - i then some x else none
  else none

/-- The items of a reading in ascending order of their SELECT bits (R316). -/
def Ledger.items (l : Ledger) (select : BitVec 32) (snapIndex : Nat) : List Byte :=
  let has (n : Nat) (b : List Byte) : List Byte := if select.getLsbD n then b else []
  has 0 (l.total.flatMap reg96)
    ++ has 1 (leBytes 1 l.activeRate ++ leBytes 1 l.rateQ0 ++ leBytes 1 l.rateQ1 ++ zeros 1 ++ l.rate.flatMap reg96)
    ++ has 2 ((List.range 4).flatMap fun k =>
        let d := (l.demand.getD k Demand.unused).cfg
        let m := l.md.getD k (0, 0)
        leBytes 1 d.q ++ leBytes 1 d.l ++ leBytes 1 d.s ++ leBytes 1 d.rateMask.toNat ++ zeros 4 ++ leBytes 8 m.1 ++ leBytes 8 m.2)
    ++ has 3 (l.tamper.flatMap TamperEnt.bytes)
    ++ has 4 (l.records.bytes ++ leBytes 4 l.period ++ zeros 4 ++ leBytes 8 l.periodOpen ++ leBytes 8 l.gapCadences)
    ++ has 5 (match l.snapshot snapIndex with
        | some x => x.bytes
        | none => zeros 328)

/-- RFLAGS of a reading of meter `m` taken now (R315). -/
def readingFlags (m : Nat) (s : State) : Nat :=
  let l := s.ledger m
  maskOf (([(0, s.refs.state == .unassured), (1, s.log.compromised || s.log.lost.contains m), (2, !s.trusted),
    (3, l.tamper.any (·.active)), (4, s.guard.closed), (5, s.tdm.enabled), (6, s.seals.open_), (7, l.sealed),
    (8, l.defaultActive)].filter (·.2)).map (·.1)) + 2 ^ 16 * l.stickyRead.toNat

/-- The record of a reading without its signature (R314). -/
def readingRecord (r : LedgerReadSigned) (polder : Nat) (seq : Nat) (s : State) : List Byte :=
  let l := s.ledger r.meter
  let items := l.items r.select r.snapIndex
  leBytes 2 1 ++ leBytes 2 (80 + items.length + 64) ++ leBytes 1 r.meter ++ leBytes 1 polder ++ leBytes 2 l.defGen.toNat
    ++ leBytes 16 Config.deviceId.toNat ++ leBytes 8 seq ++ leBytes 8 (stampOf ((l.booked + 1) * cadenceClocks))
    ++ leBytes 8 l.booked ++ leBytes 4 (if s.tdm.enabled then s.tdm.term.toNat else 0) ++ leBytes 4 (readingFlags r.meter s)
    ++ leBytes 8 s.flash.dryHash.toNat ++ leBytes 4 (s.polder polder).keyId.toNat ++ leBytes 4 r.select.toNat
    ++ leBytes 1 (if r.select.getLsbD 5 then r.snapIndex else 0) ++ zeros 7 ++ items

/-- A device may sign a reading (R534). -/
def State.maySign (s : State) : Bool := !s.tdm.enabled || (s.tdm.role == .captain && s.tdm.acks.any id)

/-- A queued reading is taken and composed from the last booked state (R313), where the device may sign it (R534). -/
def composeReading (s : State) : State :=
  match s.sign.busy, s.sign.queue with
  | none, q :: rest =>
    if s.maySign then
      let l := s.ledger q.req.meter
      let seq := l.readSeq + 1
      let rec_ : SignRec := {
        held := q.held, meter := q.req.meter, seq, record := readingRecord q.req l.owner seq s
        signKey := (s.polder l.owner).signKey }
      { s with sign := { queue := rest, busy := some rec_ } }
    else { s with sign := { s.sign with queue := rest } }.finish q.held stBusyRetry [] false
  | _, _ => s

/-- READING_COMPOSITION (R313). -/
def execReadingComposition (t : Nat) (s : State) : Host.Outcome State Fault Refusal := .next (composeReading (s.advance t))

/-- The signature is complete: READ_SEQ advances, STICKY_READ clears, the nonce is committed and the completion is posted in one
step (R317, R318). -/
def readingSigned (s : State) : State :=
  match s.sign.busy with
  | none => s
  | some r =>
    let (rnd, s) := s.draw
    let sig := slice (Config.ecdsaSign r.signKey rnd (Config.sha256 r.record)) 0 64
    let s := { s with sign := { s.sign with busy := none } }
    let s := s.modLedger r.meter fun l => { l with readSeq := r.seq, stickyRead := 0 }
    (s.journal r.held.polder r.held.nonce).finish r.held stOk (r.record ++ sig) false


end Sys2Proof.Machine
end

