-- ==== Sys2Proof/Machine/Publication.lean ====
section
/-! DEFINITION. The publication of a closed cadence: the chains of its slices, its channels, its meters' records, its CF edges, and
what the wheels learn from it (06, 07, R139 to R153, R23, R46). -/
namespace Sys2Proof.Machine

/-! ## What the cadence's samples yield -/

/-- What the slices and channels of a published cadence delivered, by slice number 9 w + k and by channel. -/
structure PubRun where
  /-- Its opening boundary. -/
  o : Nat
  old : View
  new : View
  runs : Tab SliceRun
  /-- Mean raw first fine value of a slice, where no sample was missing. -/
  raws : Tab (Option Rat)
  sliceWaves : Tab Wave
  waves : Tab Wave
  /-- The look-ahead samples of a channel. -/
  ahead : Tab (Nat × List Fine)
  /-- The frequency that each meter published with the cadence before (R204). -/
  freqs : Tab (Option Rat)

/-- The mean raw first fine value over the cadence (R148, R270). -/
def meanRaw (xs : List FirstFine) : Option Rat :=
  let l := xs.take 1024
  if l.isEmpty || l.any (·.missing) then none else some (sumRat (l.map fun x => (x.raw : Rat)) / (l.length : Rat))

/-- A fast sample of a channel for captures and streams: scaled by the calibration of its gear, to a 48-bit fine value (R135, R257). -/
def View.fastOut (v : View) (c path k : Nat) : Option RawFast → Fast
  | none => Fast.missing
  | some x =>
    let wh := v.wheel (wheelOf c)
    let y := wh.slice k
    { v := ((sats 48 (nearest 8 (v.fast c path x.climb x.raw)) : Int) : Rat), climb := x.climb, overload := x.overload, shifting := x.shifting
      jockey := k == 8, suspect := y.suspect || y.emergency, lost := false, relief := wh.engine == 1 }

/-- The cadence's chains, alignments and channels, from the levels of its modulators (R125 to R135, R161 to R177, R195 to R198). -/
def pubRun (p : PubIn) (s : State) : PubRun :=
  let old := s.closedView
  let new := s.openView
  let o := old.b
  let ids := (List.range 144).filter fun i => old.on (i / 9) && (old.pins (i / 9) (i % 9)).isSome
  let fronts := ids.map fun i => (i, ((old.wheel (i / 9)).slice (i % 9)).front (s.health (i / 9) (i % 9)) o (p.levels.get [] i))
  let failed (w : Nat) : Option Nat × Option Nat := ((old.wheel w).lostFrom, (new.wheel w).lostFrom)
  let runs := fronts.map fun (i, f) => (i, runSlice old new (s.health (i / 9) (i % 9)) (failed (i / 9)) (i / 9) (i % 9) f)
  let fineOf (i : Nat) : List Fine := ((Tab.find runs i).map (·.fine)).getD []
  let waveOf (c path k : Nat) (past : List Wave) (fine : List Fine) : Wave :=
    { at_ := o, pos := k, fine := fine.take 128, fast := []
      al := alignWave (old.channel c) path k (old.wheel (wheelOf c)).temp (around past o fine) }
  let sliceWaves := ids.map fun i =>
    let (c, path) := (old.pins (i / 9) (i % 9)).getD (0, 0)
    (i, waveOf c path (i % 9) ((old.wheel (i / 9)).slice (i % 9)).past (fineOf i))
  let chans := (List.range 128).filter fun c => old.on (wheelOf c)
  let lost : List Fine := List.replicate 136 Fine.missing
  let series (c : Nat) : Nat × List Fine × Nat × List Fine :=
    let w := wheelOf c
    let now := (old.wheel w).serverThrough o (spokeOf c)
    let next := (new.wheel w).serverThrough (o + 1) (spokeOf c)
    let get (k : Option Nat) : List Fine := match k with
      | some k => fineOf (9 * w + k)
      | none => lost
    (now.getD (spokeOf c), (get now).take 128, next.getD (spokeOf c), (get next).drop 128)
  { o, old, new, runs, sliceWaves
    raws := fronts.map fun (i, f) => (i, meanRaw f.firsts)
    waves := chans.map fun c =>
      let (k, a, _, b) := series c
      let path := if k = 8 then 1 else 0
      (c, { waveOf c path k (old.channel c).past (a ++ b) with
            fast := if ((old.wheel (wheelOf c)).serverThrough o (spokeOf c)).isNone then []
              else (((Tab.find fronts (9 * wheelOf c + k)).map (·.fasts)).getD []).map (old.fastOut c path k) })
    ahead := chans.map fun c => let (_, _, k, b) := series c; (c, (k, b))
    freqs := s.mtr.map fun (m, x) => (m, if x.pubAt.any fun b => b + 1 = o then x.freq else none) }

/-! ## Slices and channels after a publication -/

/-- The chain of slice `i` = 9 w + k goes on from the end of the cadence. -/
def Wheel.keepSlice (wh : Wheel) (r : PubRun) (i : Nat) (x : SliceRun) : Wheel :=
  wh.modSlice (i % 9) fun y =>
    { y with
      m := x.slice.m, integ := x.slice.integ, integIn := x.slice.integIn, left := x.slice.left, lastBad := x.slice.lastBad
      norm := x.slice.norm, bridged := x.slice.bridged
      fastCic := x.slice.fastCic, fineCic := x.slice.fineCic, tail := x.slice.tail, fastTail := x.slice.fastTail
      past := match Tab.find r.sliceWaves i with
        | some v => (v :: y.past).take pastKept
        | none => y.past }

/-- The chains of the slices go on from the end of the cadence, while their wheel is ON since before it closed; those of a wheel that has
been lost since go on as it stood at the loss. -/
def keepSlices (r : PubRun) (s : State) : State :=
  let close := (r.o + 1) * cadenceClocks
  r.runs.foldl (fun s (i, x) =>
    let w := i / 9
    let s := match Tab.find s.cut w with
      | some wh => if (s.dom (wheelDom w)).spans.any fun p => p.cut && decide (p.from_ < close) && decide (close ≤ p.to_) then
          { s with cut := s.cut.put w (wh.keepSlice r i x) } else s
      | none => s
    if (s.dom (wheelDom w)).onAt.any fun t => decide (t < close) then s.modWheel w fun wh => wh.keepSlice r i x else s) s

/-- The detectors and histories of the channels after the cadence (R178 to R181). -/
def keepChannels (cad : Nat) (r : PubRun) (s : State) : State :=
  let s := { s with chan := s.chan.map fun (c, ch) =>
    (c, if r.old.on (wheelOf c) then ch else { ch with rms := none, rmsOut := 0, past := [], ahead := [] }) }
  r.waves.foldl (fun s (c, v) =>
    let was := r.old.channel c
    let ref := was.cycleRef
    let (rp, rf) := match Tab.find r.waves ref with
      | some x => (x.pos, x.fine)
      | none => (spokeOf ref, List.replicate 128 Fine.missing)
    let next := (Tab.find r.ahead c).getD (v.pos, [])
    let here : List Wave := { v with at_ := r.o + 1, pos := next.1, fine := next.2, fast := [], al := [] } :: v :: was.past
    let d := (((was.detect cad v.pos true (r.old.wheel (wheelOf c)).settled v).cycles cad r.o rp rf here).ownCrossings r.o v.pos v.fine)
    s.modChannel c fun ch =>
      { ch with
        rms := d.rms, rmsOut := d.rmsOut, detFlags := d.detFlags, cycleFlags := d.cycleFlags, peakMax := d.peakMax, peakMin := d.peakMin, env := d.env, envMax := d.envMax, past := d.past
        ahead := next.2, aheadPos := next.1
        cycle := d.cycle, selfX := d.selfX, cycleX := if ch.cycleRef = was.cycleRef then d.cycleX else Cross.zero }) s

/-! ## Comparisons and service measurements (R139 to R153) -/

/-- The outcome of a shadowed cadence: none where it is excluded, else whether it failed (R140). `a` shadows `b`. -/
def shadowFails (w : Nat) (a b : Nat) (r : PubRun) : Option Bool :=
  match Tab.find r.runs (9 * w + a), Tab.find r.runs (9 * w + b) with
  | some ra, some rb =>
    let fa := ra.fine.take 128
    let fb := rb.fine.take 128
    let bad (l : List Fine) : Bool := l.any fun f => f.overload || f.bridged || f.climb != (l.head?.map (·.climb)).getD false
    if bad fa || bad fb || r.old.refs.handed then none
    else
      let x := around ((r.old.wheel w).slice a).past r.o ra.fine
      let va := (List.range 128).map fun (j : Nat) => delayed (fun i => ((x i).x : Rat)) (j : Int) (((b : Int) - (a : Int) : Int) / 9 : Rat)
      let vb := fb.map fun f => (f.x : Rat)
      let mean (l : List Rat) : Rat := sumRat l / 128
      let rms (l : List Rat) : Rat := sqrtRat (meanSq l)
      let wh := r.old.wheel w
      let full := gearFull ((fb.head?.map (·.climb)).getD false)
      let t := maxRat ((wh.rel : Rat) / 10000 * rms vb) ((wh.floorPpm : Rat) / 1000000 * full)
      some (t < absRat (mean va - mean vb) || t < absRat (rms va - rms vb))
  | _, _ => none

/-- One shadowed cadence into a tally. -/
def Tally.add (t : Tally) : Option Bool → Tally
  | none => t
  | some f => { compared := t.compared + 1, failed := t.failed + bit f }

/-- The jockey's dwell in the rotation (R139, R141). -/
def tallyDwell (w : Nat) (r : PubRun) (s : State) : State :=
  let x := r.old.wheel w
  match x.visit with
  | none => s
  | some v =>
    if x.jockey.state == .dwell && x.prob.isNone && v.at_ + 1 ≤ r.o && r.o < v.at_ + 17 then
      let f := shadowFails w 8 v.spoke r
      let upd (u : Visit) : Visit := if u.spoke = v.spoke && u.at_ = v.at_ then { u with tally := u.tally.add f } else u
      s.modWheel w fun x => { x with visit := x.visit.map upd, verdictDue := x.verdictDue.map upd }
    else s

/-- A spoke in its check or probation (R150). -/
def tallyReturn (w : Nat) (r : PubRun) (s : State) : State :=
  let x := r.old.wheel w
  match x.ret with
  | none => s
  | some v =>
    let st := (x.slice v.spoke).state
    if (st == .check || st == .probation) && v.br + 1 ≤ r.o then
      let i := (r.o - v.br - 1) / 16
      let f := shadowFails w v.spoke 8 r
      s.modWheel w fun x => { x with ret := x.ret.map fun u =>
        if u.spoke = v.spoke && u.br = v.br then { u with tallies := u.tallies.put i ((u.tallies.get ⟨0, 0⟩ i).add f) } else u }
    else s

/-- A visit of wheel probation; its first cadence settles (R153). -/
def tallyVisit (w : Nat) (r : PubRun) (s : State) : State :=
  let x := r.old.wheel w
  match x.prob, x.jockeyAt with
  | some p, some k =>
    if (r.o - p.bw) % 8 = 0 then s
    else
      let i := (r.o - p.bw) / 8
      let f := shadowFails w 8 k r
      s.modWheel w fun x => { x with prob := x.prob.map fun u =>
        if u.bw = p.bw then { u with tallies := u.tallies.put i ((u.tallies.get ⟨0, 0⟩ i).add f) } else u }
  | _, _ => s

/-- One cadence into the halves of a phase that began `r` cadences before: the first is discarded, then eight and eight (R148). -/
def Halves.add (h : Halves) (r : Nat) (v : Option Rat) : Halves :=
  match v with
  | none => h
  | some x =>
    if r = 0 then h
    else if r ≤ 8 then { h with nA := h.nA + 1, sumA := h.sumA + x }
    else if r ≤ 16 then { h with nB := h.nB + 1, sumB := h.sumB + x } else h

/-- A service run's cadence (R148). -/
def tallyService (w : Nat) (r : PubRun) (s : State) : State :=
  match (r.old.wheel w).service with
  | none => s
  | some v =>
    let j := (r.o - v.bt) / 17
    let x := (Tab.find r.raws (9 * w + v.spoke)).getD none
    s.modWheel w fun wh => { wh with service := wh.service.map fun u =>
      if u.spoke = v.spoke && u.bt = v.bt then
        { u with halves := u.halves.put j ((u.halves.get Halves.zero j).add ((r.o - v.bt) % 17) x) }
      else u }

/-- What the wheels learn from a published cadence. -/
def tallyPass (r : PubRun) (s : State) : State :=
  overTo 16 (fun s w =>
    if r.old.on w then tallyService w r (tallyVisit w r (tallyReturn w r (tallyDwell w r s))) else s) s

/-! ## Meters and CF outputs -/

/-- The record of meter `m` is published, and the cadence of the meter joins those to be booked (R23, R215, R423). -/
def publishMeter (late : Bool) (r : PubRun) (acc : State × List Published) (e : Nat × Meter) : State × List Published :=
  let (s, out) := acc
  let (m, was) := e
  let c := s.toPublish
  -- the meter may have ended, and its number may have been defined anew, at the boundary that closed the cadence
  let gone := (s.meter m).state == .undefined || (s.meter m).born != was.born
  let live := if gone then was else s.meter m
  let unit (ch : Nat) : Rat := absRat ((f32Val (r.old.channel ch).scale).getD 0) / ((2 ^ 47 : Nat) : Rat)
  let sat := c.cf.any fun (_, x) => x.sat && x.map.any fun k => k.meter = m
  let mo := resultOf m was live r.o c.cad c.stamp late sat (Tab.find r.waves) (fun ch => (r.old.channel ch).past) unit
  let (rate, dflt) := c.rates.get (0, false) m
  let total := (s.ledger m).total
  let res : Result := { mo.result with
    odo := (List.range 16).map fun q => (total.getD q 0 + mo.result.inc.getD q 0) % 2 ^ 64 }
  let s := { s with mem := s.mem.writeAll (resultAddr m c.cad) res.bytes }
  let first := live.fresh
  let gapEvent := mo.gap && !live.prevGap
  let s := if gone then s
    else s.modMeter m fun x =>
      { x with
        resid := mo.resid, hilbert := mo.yields.hilbert, cross := mo.yields.cross, freq := mo.yields.freq, gate := mo.gate
        lastPub := c.cad, pubAt := some r.o, prevGap := mo.gap, fresh := false }
  let s := if first then s.fire (256 + m) 4 0 else s
  let s := if gapEvent then s.fire (256 + m) 5 (BitVec.ofNat 32 c.cad) else s
  let s := flagTrigger m res.flags c.stamp s
  (s, out ++ [{ meter := m, born := was.born, result := res, rate, default := dflt
                residual := mo.yields.residual, v3 := (slotChannel was.def_ 3).isSome
                fund := mo.yields.fund, fundSum := mo.yields.fundSum }])

/-- The increments of a published cadence reach the CF outputs mapped in it (R219, R222). -/
def cfPass (late : Bool) (pubs : List Published) (s : State) : State :=
  let hold := s.guard.closed
  let endAt := (s.toPublish.bnd + 1) * cadenceClocks + 196608
  overTo 16 (fun s n =>
    let x := s.cfOut n
    let was := s.toPublish.cf.get Cf.reset n
    match x.map with
    | none => s
    | some k =>
      if was.map != some k then s
      else match pubs.find? fun p => p.meter = k.meter with
        | none => s
        | some p =>
          let inc := p.result.inc.getD k.q 0
          let len := if late then endAt - s.now else cadenceClocks
          if late && len < 49152 then s.modCf n fun x => { x with carry := x.carry + inc }
          else s.modCf n fun x => x.take inc s.now len hold) s

/-- A cadence that has closed and waits takes over where the chains and detectors of the one before it ended. -/
def Closing.follow (cad : Nat) (r : PubRun) (s : State) (c : Closing) : Closing :=
  let whl := r.runs.foldl (fun l (i, x) => l.put (i / 9) ((l.get Wheel.reset (i / 9)).keepSlice r i x)) c.whl
  { c with whl, chan := (keepChannels cad r { s with chan := c.chan }).chan }

/-- The cadence published is no longer due. -/
def published (cad : Nat) (r : PubRun) (s : State) : State :=
  match s.older with
  | [] => { s with closing := { s.closing with open_ := false } }
  | _ :: rest => { s with closing := s.closing.follow cad r s, older := rest.map (Closing.follow cad r s) }

/-- The publication of the cadence that is to be published next, at the present instant (R23, R24, R46): the cadence before it is booked at the
latest now; every defined meter is published, or none. -/
def publish (late : Bool) (r : PubRun) (s : State) : State :=
  let s := bookAll s
  let c := s.toPublish
  let meters := if c.domsOn.getLsbD 5 then c.mtr.filter fun e => e.2.state == .defined else []
  let (s, pubs) := meters.foldl (publishMeter late r) (s, [])
  let s := { s with book := { s.book with awaiting := s.book.awaiting ++ [{ cadence := c.cad, closedAt := c.bnd, meters := pubs }] } }
  let s := cfPass late pubs s
  let s := keepChannels c.cad r (keepSlices r (tallyPass r s))
  let s := if late then
      { s with fab := { s.fab with ovrLate := s.fab.ovrLate + 1 } }.fire 641 2 (BitVec.ofNat 32 c.cad)
    else s
  published c.cad r s

end Sys2Proof.Machine
end

