-- ==== Sys2Proof/Machine/Calibration.lean ====
section
/-! DEFINITION. Calibration runs and candidates, the three references, and recording seal changes (09). -/
namespace Sys2Proof.Machine

/-! ## Runs (R270 to R274) -/

/-- The boundary at which run A begins (R272). -/
def Cand.runStart (k : Cand) : Nat := if k.leg then k.bc + 19 else k.bc + 1

/-- The boundary at which run B ends. -/
def Cand.runEnd (k : Cand) : Nat := k.runStart + 2 * k.run.n

/-- The candidate of channel `c` and gear `g`. -/
def State.cand (s : State) (c g : Nat) : Option Cand := (s.channel c).cand.find g

/-- The state with the candidate of channel `c` and gear `g` changed. -/
def State.modCand (s : State) (c g : Nat) (f : Cand → Cand) : State :=
  s.modChannel c fun ch => { ch with cand := ch.cand.map fun (h, k) => (h, if h = g then f k else k) }

/-- A kind that needs an angle reference (R273). -/
def angleKind (kind : Nat) : Bool := 2 ≤ kind && kind ≤ 5

/-- The fundamental phasor of waves, newest first, at `f` (R204). -/
def wavePhasor (f : Rat) (o : Nat) (waves : List Wave) : Phasor :=
  phasorOf f (windowOf f o (waves.map fun w => (w.at_, w.al.map fun a => (!a.lost, a.v))))

/-- The frequency a run uses: of the meter for POWER, else of PHASE_REF (R270), as known before this cadence. -/
def runFreq (r : PubRun) (k : Cand) : Option Rat :=
  if k.run.kind = 3 then r.freqs.get none k.run.meter
  else (r.old.channel k.run.phaseRef).selfX.freq (((r.o * 128 - 1 : Nat) : Rat))

/-- An angle in turns brought to [-1/2, 1/2). -/
def wrapTurns (x : Rat) : Rat := x - (x + 1 / 2).floor

/-- What one path measures in a cadence (R270): the mean raw value, the magnitude, REF_ANG less the angle in turns (zero where REF_ANG leaves
tau unchanged), or power and reactive power. A run takes the means of these over its counted cadences (log 52). -/
def runMeasure (r : PubRun) (s : State) (k : Cand) (c slice : Nat) (f : Rat) : Rat × Rat :=
  let i := 9 * wheelOf c + slice
  let wave := Tab.find r.sliceWaves i
  let al := (wave.map (·.al)).getD []
  let past := ((r.old.wheel (wheelOf c)).slice slice).past
  let own := wavePhasor f r.o (wave.toList ++ past)
  let vals := al.map (·.v)
  let mag : Rat := if k.run.signal = 1 then sumRat vals / 128 else sqrtRat (meanSq vals)
  let refOf (ch : Nat) : Phasor := wavePhasor f r.o ((Tab.find r.waves ch).toList ++ (r.old.channel ch).past)
  let turn : Rat := match f64Val k.run.refAng with
    | some a => wrapTurns (a / 360 - own.angle (refOf k.run.phaseRef))
    | none => 0
  match k.run.kind with
  | 0 => (((Tab.find r.raws i).getD none).getD 0, 0)
  | 1 => (mag, 0)
  | 2 => (turn, 0)
  | 3 =>
    let d := (s.meter k.run.meter).def_
    let sg (slot : Nat) : Rat := if d.invert.getLsbD slot then -1 else 1
    let v := (slotChannel d k.run.phase).elim ⟨0, 0⟩ refOf
    let (p, q) := v.power own
    let g := sg k.run.phase * sg (4 + k.run.phase)
    (g * p, g * q)
  | _ => (mag, turn)

/-- The cadence counts for the run (R273). `slices`: those measured. -/
def runCounts (r : PubRun) (k : Cand) (c : Nat) (slices : List Nat) (freqOk : Bool) : Bool :=
  let w := wheelOf c
  let clean (i : Nat) : Bool :=
    let f := ((Tab.find r.runs (9 * w + i)).map fun x => x.fine.take 128).getD [Fine.missing]
    f.all fun x => !x.overload && !x.bridged && !x.lost && x.climb == (k.gear == 1)
  slices.all clean && ((r.old.wheel w).fadeWeight r.o 0).isNone && !r.old.refs.handed && !r.old.refs.moved
    && (freqOk || !angleKind k.run.kind)

/-- One measurement into a path's sum. -/
def RunSum.add (x : RunSum) (v : Rat × Rat) : RunSum := { counted := x.counted + 1, c1 := x.c1 + v.1, c2 := x.c2 + v.2 }

/-- A published cadence of a run (R272, R273): the reference leg's, or run A's or B's. -/
def candCadence (r : PubRun) (s : State) (c : Nat) (k : Cand) : Cand :=
  let w := wheelOf c
  let k := { k with seen := r.o }
  if k.leg && k.bc + 1 ≤ r.o && r.o < k.bc + 18 then
    let inLeg := ((r.old.wheel w).slice (spokeOf c)).state == .service
    { k with legHalves := k.legHalves.add (r.o - k.bc - 1) (if inLeg then (Tab.find r.raws (9 * w + spokeOf c)).getD none else none) }
  else if k.runStart ≤ r.o && r.o < k.runEnd then
    let slices := (if k.spokePath then [spokeOf c] else []) ++ (if k.jockeyPath then [8] else [])
    let freq := runFreq r k
    if runCounts r k c slices freq.isSome then
      let f := freq.getD 50
      let v0 := runMeasure r s k c (spokeOf c) f
      let v1 := runMeasure r s k c 8 f
      let inA := r.o < k.runStart + k.run.n
      let add (x : RunSum) (v : Rat × Rat) (on : Bool) : RunSum := if on then x.add v else x
      { k with
        a0 := add k.a0 v0 (inA && k.spokePath), b0 := add k.b0 v0 (!inA && k.spokePath)
        a1 := add k.a1 v1 (inA && k.jockeyPath), b1 := add k.b1 v1 (!inA && k.jockeyPath)
        rSum := k.rSum + (((r.old.channel c).rms.getD 0 : Nat) : Rat), thetaSum := k.thetaSum + ((r.old.wheel w).temp : Rat)
        counted := k.counted + 1, freqSum := k.freqSum + f }
    else k
  else k

/-- The coefficients c of one run on one path (R274, R389): C1 and C2 of a sum, from the set in force. -/
def runCoeffs (k : Cand) (x : CalSet) (m : RunSum) : Rat × Rat :=
  let n : Rat := if m.counted = 0 then 1 else (m.counted : Rat)
  let c1 := m.c1 / n
  let c2 := m.c2 / n
  let f : Rat := if k.counted = 0 then 50 else k.freqSum / (k.counted : Rat)
  let r : Rat := if k.counted = 0 then 0 else k.rSum / (k.counted : Rat)
  let th : Rat := if k.counted = 0 then 0 else k.thetaSum / (k.counted : Rat)
  let refMag := (f64Val k.run.refMag).getD 0
  match k.run.kind with
  | 0 => (c1, 0)
  | 1 => (if c1 = 0 then 0 else (x.gain : Rat) * refMag / c1, 0)
  | 2 => (c1 / f, 0)
  | 3 =>
    let p := (f64Val k.run.refP1).getD 0
    let q := (f64Val k.run.refQ1).getD 0
    let mag := sqrtRat (c1 * c1 + c2 * c2)
    (if mag = 0 then 0 else (x.gain : Rat) * sqrtRat (p * p + q * q) / mag,
     wrapTurns ((⟨c1, c2⟩ : Phasor).angle ⟨p, q⟩) / f)
  | 4 => (if c1 = 0 then 0 else (1 + (x.segAt r).1) * refMag / c1 - 1, c2 / f)
  | _ => (if c1 = 0 then 0 else (1 + (x.tempAt th).1) * refMag / c1 - 1, c2 / f)

/-- Delay agreement: within TOL_G / (2 pi f) (R273). -/
def agreeDelay (tol : Nat) (f a b : Rat) : Bool := absRat (a - b) * twoPi * f * 1000000 ≤ (tol : Rat)

/-- TOL_G of a run: 0 selects 200 ppm (R270). -/
def runTol (r : CalRun) : Nat := if r.tol = 0 then 200 else r.tol

/-- The repeat-agreement test of a path (R273). -/
def runAgrees (k : Cand) (a b : Rat × Rat) : Bool :=
  let f : Rat := if k.counted = 0 then 50 else k.freqSum / (k.counted : Rat)
  let tol := runTol k.run
  match k.run.kind with
  | 0 => agreeOffset a.1 b.1
  | 1 => agreeGain tol a.1 b.1
  | 2 => agreeDelay tol f a.1 b.1
  | 3 => agreeGain tol a.1 b.1 && agreeDelay tol f a.2 b.2
  | _ => agreeGain tol a.1 b.1 && agreeDelay tol f a.2 b.2

/-- A delay in seconds in TAU units (R266). -/
def tauUnits (t : Rat) : Int := roundSigned 45 (t * 1000000000 * 256)

/-- A point put at an index of a list, or appended. -/
def putAt {α : Type} (l : List α) (i : Nat) (x : α) : List α := if i < l.length then l.set i x else l ++ [x]

/-- The set that the mean coefficients give (R274); `refResp`: what the leg recorded. -/
def newSet (k : Cand) (x : CalSet) (c : Rat × Rat) (refResp : Option Int) : CalSet :=
  let n : Rat := if k.counted = 0 then 1 else (k.counted : Rat)
  let r := k.rSum / n
  let th := k.thetaSum / n
  let shift (t : Rat) : List SegPoint :=
    if x.seg.isEmpty then [{ break_ := satu 32 (roundField 43 (r / 65536)), gamma := 0, tau := tauUnits t }]
    else x.seg.map fun p => { p with tau := p.tau + tauUnits t }
  let gammaOf (g : Rat) : Int := sats 32 (roundSigned 44 (g * ((2 ^ 31 : Nat) : Rat)))
  let tauOf (base t : Rat) : Int := roundSigned 45 (base * 16000000) + tauUnits t
  match k.run.kind with
  | 0 => { x with offset := roundSigned 40 (c.1 * 16) }
  | 1 => { x with gain := roundField 41 c.1, refResp := refResp.getD x.refResp }
  | 2 => { x with seg := shift c.1 }
  | 3 => { x with gain := roundField 41 c.1, seg := shift c.2 }
  | 4 =>
    let p : SegPoint := { break_ := satu 32 (roundField 43 (r / 65536)), gamma := gammaOf c.1, tau := tauOf (x.segAt r).2 c.2 }
    { x with seg := putAt x.seg k.run.index p }
  | _ =>
    let p : TempPoint := { theta := sats 32 (roundSigned 46 th), gamma := gammaOf c.1, tau := tauOf (x.tempAt th).2 c.2 }
    { x with temp := putAt x.temp k.run.index p }

/-- The end of a run: the candidate's status becomes final (R275). -/
def calEnd (c g : Nat) (s : State) : State :=
  match s.cand c g with
  | none => s
  | some k =>
    if k.status == .running && k.runEnd ≤ k.seen + 1 then
      let ch := s.channel c
      let failed := k.broken || (k.leg && ((s.wheel (wheelOf c)).slice (spokeOf c)).state == .failed)
      let few (x : RunSum) : Bool := 4 * x.counted < 3 * k.run.n
      let path (on : Bool) (p : Nat) (a b : RunSum) (resp : Option Int) : CandStatus × Option CalSet :=
        if !on then (.ready, none)
        else
          let x := ch.set g p
          let ca := runCoeffs k x a
          let cb := runCoeffs k x b
          if few a || few b then (.insufficient, none)
          else if !runAgrees k ca cb then (.disagree, none)
          else
            let n := newSet k x ((ca.1 + cb.1) / 2, (ca.2 + cb.2) / 2) resp
            if setValid g n then (.ready, some n) else (.limit, none)
      let p0 := path k.spokePath 0 k.a0 k.b0 k.refResp
      let p1 := path k.jockeyPath 1 k.a1 k.b1 none
      let worst : CandStatus :=
        if failed then .failed
        else if p0.1 == .insufficient || p1.1 == .insufficient then .insufficient
        else if p0.1 == .disagree || p1.1 == .disagree then .disagree
        else if p0.1 == .limit || p1.1 == .limit then .limit else .ready
      s.modCand c g fun k =>
        { k with
          status := worst
          new0 := if worst == .ready then p0.2 else none
          new1 := if worst == .ready then p1.2 else none
          readyAt := if worst == .ready then some s.now else none }
    else s

/-- What calibration runs take from a published cadence, and the end of those it completes (R272, R275). -/
def calPublish (r : PubRun) (s : State) : State :=
  let running := (s.chan.flatMap fun (c, ch) => (ch.cand.filter fun e => e.2.status == .running).map fun e => (c, e.1))
  running.foldl (fun s (c, g) =>
    let s' := s
    calEnd c g (s.modCand c g (candCadence r s' c))) s

/-- The reference leg ends 17 cadences after it began (R272): the spoke returns, and once the last cadence of the leg is published
its halves are judged and REF_RESP is recorded. -/
def legEnd (c g : Nat) (s : State) : State :=
  match s.cand c g with
  | none => s
  | some k =>
    let w := wheelOf c
    if k.status == .running && k.leg then
      let s := if k.bc + 18 ≤ s.b && ((s.wheel w).slice (spokeOf c)).state == .service && (s.wheel w).ret.isNone
        then returnPass w (spokeOf c) s else s
      if k.bc + 18 ≤ k.seen + 1 && k.refResp.isNone && !k.broken then
        let off : Rat := (((s.channel c).set g 0).offset : Rat) / 16
        match k.legHalves.means with
        | some (a, b) =>
          if agreeGain 200 (a - off) (b - off) then
            s.modCand c g fun k => { k with refResp := some (roundSigned 42 (((a + b) / 2 - off) * 65536)) }
          else s.modCand c g fun k => { k with broken := true }
        | none => s.modCand c g fun k => { k with broken := true }
      else s
    else s

/-- A broken leg puts the spoke in FAILED; the jockey serves on (R275). -/
def legFail (c g : Nat) (s : State) : State :=
  match s.cand c g with
  | none => s
  | some k =>
    let w := wheelOf c
    let st := ((s.wheel w).slice (spokeOf c)).state
    if k.broken && k.status == .running && (st == .check || st == .settling || st == .service || st == .probation) then
      failSlice w (spokeOf c) (s.modWheel w fun x => { x with ret := none })
    else s

/-- The wheel is released at the end of run B, or at BC + 36 with a leg (R272): the jockey goes on unless it serves. -/
def calRelease (w : Nat) (s : State) : State :=
  match (s.wheel w).calRun with
  | none => s
  | some c =>
    let ends := (s.channel c).cand.map fun e => (if e.2.leg then Nat.max e.2.runEnd (e.2.bc + 36) else e.2.runEnd, e.2.status)
    let last := ends.foldl (fun m e => Nat.max m e.1) 0
    if last ≤ s.b then
      let s := s.modWheel w fun x => { x with calRun := none }
      let x := s.wheel w
      if x.jockey.state == .serving || x.jockey.state == .failed || x.jockey.state == .off || x.takeover.isSome then s
      else follow w (spokeOf c + 1) (s.modWheel w fun x => { x with visit := none })
    else s

/-- What a boundary does to the calibration run that holds wheel `w` (R272). -/
def calPass (s : State) (w : Nat) : State :=
  match (s.wheel w).calRun with
  | none => s
  | some c => calRelease w (overTo 2 (fun s g => legFail c g (legEnd c g s)) s)

/-- CALIBRATION_RUN_END (R275). -/
def execCalibrationRunEnd (channel gear : Nat) (s : State) : Host.Outcome State Fault Refusal := .next (calEnd channel gear s)

/-- REFERENCE_LEG_END (R272). -/
def execReferenceLegEnd (channel gear : Nat) (s : State) : Host.Outcome State Fault Refusal := .next (legEnd channel gear s)

/-- A READY candidate that is not committed within 3,600 s is removed (R275). -/
def candExpire (c g : Nat) (s : State) : State :=
  match s.cand c g with
  | none => s
  | some k =>
    match k.readyAt with
    | none => s
    | some t => if k.status == .ready && t + seconds 3600 ≤ s.now then s.modChannel c fun ch => { ch with cand := Tab.erase ch.cand g } else s

/-- CANDIDATE_EXPIRY (R275). -/
def execCandidateExpiry (t channel gear : Nat) (s : State) : Host.Outcome State Fault Refusal := .next (candExpire channel gear (s.advance t))

/-- A fault ends every run and discards every candidate; a spoke in a reference leg becomes COVERED (R278). -/
def calFault (s : State) : State :=
  let s := overTo 16 (fun s w => s.modWheel w Wheel.endRun) s
  { s with chan := s.chan.map fun (c, ch) => (c, { ch with cand := [] }) }

/-! ## References (R279 to R284) -/

/-- d_XY: the deviation of X from Y against the anchor; none where either is absent, failed or not anchored (R280). -/
def Refs.dev (r : Refs) (x y : Nat) : Option Rat :=
  if r.failed.contains x || r.failed.contains y then none
  else match r.ratios.find x, r.ratios.find y, r.anchor.find x, r.anchor.find y with
    | some a, some b, some c, some d => if b = 0 || c = 0 || d = 0 then none else some ((a / b) / (c / d) - 1)
    | _, _, _, _ => none

/-- A deviation in ppm exceeds `n`. -/
def beyond (n : Nat) (d : Rat) : Bool := (n : Rat) < absRat d * 1000000

/-- Anchored references that take part beside the selected one (R281). -/
def Refs.others (r : Refs) : List Nat := [0, 1, 2].filter fun x => x != r.sel && (r.dev r.sel x).isSome

/-- The selected reference deviates by more than `n` ppm from both others, and those agree within 100 ppm (R281). -/
def Refs.outvoted (r : Refs) (n : Nat) : Bool :=
  match r.others with
  | [a, b] => beyond n ((r.dev r.sel a).getD 0) && beyond n ((r.dev r.sel b).getD 0) && !beyond 100 ((r.dev a b).getD 0)
  | _ => false

/-- The UNASSURED row of R281. -/
def Refs.unsure (r : Refs) : Bool :=
  let os := r.others
  os.isEmpty || (os.all (fun x => beyond 200 ((r.dev r.sel x).getD 0))
    && (match os with
        | [a, b] => beyond 100 ((r.dev a b).getD 0)
        | _ => true))

/-- The selected reference is within 150 ppm of another anchored one (R281). -/
def Refs.assured (r : Refs) : Bool := r.others.any fun x => !beyond 150 ((r.dev r.sel x).getD 0)

/-- A non-selected reference deviates by more than 200 ppm from two others that agree (R281). -/
def Refs.deviates (r : Refs) (x : Nat) : Bool :=
  x != r.sel && (match [0, 1, 2].filter fun y => y != x && (r.dev x y).isSome with
    | [a, b] => beyond 200 ((r.dev x a).getD 0) && beyond 200 ((r.dev x b).getD 0) && !beyond 100 ((r.dev a b).getD 0)
    | _ => false)

/-- A run of consecutive means. -/
def runNext (c : Bool) (n : Nat) : Nat := if c then n + 1 else 0

/-- EV0643 with a code and a reference (R423). -/
def refEvent (code ref : Nat) (s : State) : State := s.fire 643 code (BitVec.ofNat 32 ref)

/-- The one-second means of the ratios, to 0.1 ppm: the nearest, ties to even (R280; DESIGN CHOICE, log 126); the selected reference is 1 to
itself, and one that is absent or FAILED has none. -/
def Refs.means (r : Refs) (samples : Tab (List Rat)) : Tab Rat :=
  (([0, 1, 2].filter fun x => !r.failed.contains x).filterMap fun x =>
    if x = r.sel then some (x, 1)
    else match samples.get [] x with
      | [] => none
      | l => some (x, (roundEven (10000000 * (sumRat l / (l.length : Rat))) : Rat) / 10000000))

/-- The one-second evaluation of R281: each row applies after 10 consecutive means and clears after 10. -/
def refEvaluate (samples : Tab (List Rat)) (s : State) : State :=
  let r := { s.refs with ratios := s.refs.means samples }
  let warn := r.outvoted 200
  let r := { r with
    warnRun := runNext warn r.warnRun, warnOff := runNext (!warn) r.warnOff
    hoRun := runNext (r.outvoted 500 && r.autoHo) r.hoRun
    unRun := runNext r.unsure r.unRun, clearRun := runNext r.assured r.clearRun
    devRun := [0, 1, 2].map fun x => (x, runNext (r.deviates x) (r.devRun.get 0 x))
    devOff := [0, 1, 2].map fun x => (x, runNext (!r.deviates x) (r.devOff.get 0 x)) }
  let was := s.refs.state
  let s := { s with refs := r }
  let s := overTo 3 (fun s x =>
    if 10 ≤ s.refs.devRun.get 0 x && !s.refs.deviant.contains x then
      refEvent 6 x { s with refs := { s.refs with deviant := x :: s.refs.deviant } }
    else if 10 ≤ s.refs.devOff.get 0 x then { s with refs := { s.refs with deviant := s.refs.deviant.filter (· != x) } }
    else s) s
  let set (st : RefState) (s : State) : State := { s with refs := { s.refs with state := st } }
  if was == .unassured then
    if 10 ≤ r.clearRun then refEvent 4 r.sel (set .normal s) else s
  else if 10 ≤ r.unRun then refEvent 3 r.sel (set .unassured s)
  else if 10 ≤ r.hoRun then
    if was == .handover then s else { set .handover s with refs := { (set .handover s).refs with handoverDue := true } }
  else if 10 ≤ r.warnRun then (if was == .normal then refEvent 1 r.sel (set .warn s) else s)
  else if was != .normal && 10 ≤ r.warnOff then set .normal s
  else s

/-- REFERENCE_RATIO_MEAN (R280, R281). -/
def execReferenceRatioMean (r : RatioIn) (s : State) : Host.Outcome State Fault Refusal :=
  .next (if s.beginsSecond then refEvaluate r.samples s else s)

/-- The reference chosen for a handover: anchored, not failed, not deviating, with the smallest sum of |d| to the others; ties go to
XREF, BG_A, BG_B (R281, R282). -/
def Refs.target (r : Refs) : Option Nat :=
  let cands := [2, 0, 1].filter fun x => x != r.sel && (r.anchor.find x).isSome && (r.ratios.find x).isSome
    && !r.failed.contains x && !r.deviant.contains x
  let score (x : Nat) : Rat := sumRat (([0, 1, 2].filter (· != x)).map fun y => absRat ((r.dev x y).getD 0))
  cands.foldl (fun b x => match b with
    | none => some x
    | some y => if score x < score y then some x else some y) none

/-- The handover to reference `n` (R282): k_ref takes the last ratio, and its target follows from the anchor. -/
def handoverTo (n : Nat) (s : State) : State :=
  let r := s.refs
  let q := r.ratios.get 1 n
  let r := { r with
    sel := n, kRef := r.kRef * q, kTarget := r.anchorK * r.anchor.get 1 n / r.anchor.get 1 r.anchorSel
    ratios := r.ratios.map fun (x, v) => (x, v / q)
    handoverDue := false, lost := false, handed := true, moved := true, state := .normal
    warnRun := 0, warnOff := 0, hoRun := 0, unRun := 0, clearRun := 0 }
  refEvent 2 n { s with refs := r }

/-- k_ref moves toward its target by at most 0.2 ppm of its value (R282). -/
def Refs.slew (r : Refs) : Refs :=
  let step := r.kRef / 5000000
  let k := if absRat (r.kTarget - r.kRef) ≤ step then r.kTarget else if r.kRef < r.kTarget then r.kRef + step else r.kRef - step
  { r with kRef := k, moved := k != r.kRef }

/-- What a boundary does to the references at step 1 of R27 (R282, R283). -/
def refPass (s : State) : State :=
  let s := { s with refs := { s.refs.slew with handed := false } }
  if s.refs.handoverDue then
    match s.refs.target with
    | some n => handoverTo n s
    | none => { s with refs := { s.refs with handoverDue := s.refs.lost } }
  else s

/-- A present reference leaves its window: it is FAILED, and a selected one is handed over at the next boundary, its samples LOST
meanwhile (R279, R283). -/
def refFail (x : Nat) (s : State) : State :=
  let r := s.refs
  if r.failed.contains x || 2 < x then s
  else
    let s := { s with refs := { r with
      failed := x :: r.failed, handoverDue := r.handoverDue || x = r.sel, lost := r.lost || x = r.sel } }
    refEvent 5 x s

/-- REFERENCE_FAILURE (R283). -/
def execReferenceFailure (t reference : Nat) (s : State) : Host.Outcome State Fault Refusal := .next (refFail reference (s.advance t))

/-- `cal.anchor` (R280, R281). -/
def anchorNow (s : State) : State :=
  let r := s.refs
  let clears := r.state == .unassured
  let s := { s with refs := { r with
    anchor := r.ratios.filter fun e => !r.failed.contains e.1, anchorSel := r.sel, anchorK := r.kRef, kTarget := r.kRef
    state := .normal, warnRun := 0, warnOff := 0, hoRun := 0, unRun := 0, clearRun := 0 } }
  if clears then refEvent 4 r.sel s else s

/-! ## Seal records (R288, R289) -/

/-- Sealed meters that are defined. -/
def State.sealedMeters (s : State) : List Nat := s.definedMeters.filter fun m => defSealed (s.meter m).def_

/-- The device writes the ledgers of its meters: it is single or the captain (R536). -/
def State.writesLedger (s : State) : Bool := s.tdm.role == .single || s.tdm.role == .captain

/-- A seal change is counted and recorded: in the ledger of every sealed meter, in the event log and P00's audit log, in the audit
log of every polder that owns a sealed meter, and as the seal event (R288). `extra`: further changes the record stands for. -/
def recordSeal (isOpen : Bool) (time extra : Nat) (latched unknown : Bool) (s : State) : State :=
  let count := s.seals.count + 1 + BitVec.ofNat 32 extra
  let s := { s with seals := { s.seals with count, recorded := isOpen } }
  let ms := s.sealedMeters
  let s := if s.writesLedger then
      ms.foldl (fun s m => s.modLedger m fun l => l.sealRecord count isOpen s.trusted unknown time) s
    else s
  let owners := ((ms.map fun m => (s.meter m).def_.owner).eraseDups).filter (· != 0)
  let entry : LogEntry := { time, owner := 0, source := 680, code := 1, lflags := s.lflags latched unknown, data := 0
                            seq := s.log.seq + 1, detail := 0 }
  let s := owners.foldl (fun s p => s.modPolder p fun q => q.addAudit (.entry entry)) s
  s.fireFull 680 1 0 time latched unknown 0 false

end Sys2Proof.Machine
end

