-- ==== Sys2Proof/Machine/Parse.lean ====
section
/-! DEFINITION. From the bytes of a command's payload to the command, by the layouts of 13 (R377): which opcodes
exist, the command a payload stands for, whether its length is the catalogue's and whether its reserved bytes are
zero. A payload that is too short is read as if zero bytes followed it; its length check fails. -/
namespace Sys2Proof

/-- The polder record at offset `o` (R326). -/
def parseRecord (b : List Byte) (o : Nat) : PolderRecord where
  polder := field b o 1
  state := field b (o + 1) 1
  priv := BitVec.ofNat 16 (field b (o + 2) 2)
  sluices := BitVec.ofNat 32 (field b (o + 4) 4)
  tickets := field b (o + 8) 2
  options := BitVec.ofNat 8 (field b (o + 10) 1)
  ftripOut := BitVec.ofNat 8 (field b (o + 11) 1)
  cfOut := BitVec.ofNat 16 (field b (o + 12) 2)
  tripCh := BitVec.ofNat 128 (field b (o + 16) 16)
  pqCh := BitVec.ofNat 128 (field b (o + 32) 16)
  domains := BitVec.ofNat 64 (field b (o + 48) 8)
  poolShare := field b (o + 56) 2
  streamShare := field b (o + 58) 2
  keyGen := field b (o + 60) 4
  keyId := field b (o + 64) 4
  evt := BitVec.ofNat 1024 (field b (o + 72) 128)

/-- The reserved bytes of a polder record at offset `o` (R326). -/
def recordZones (o : Nat) : List (Nat × Nat) := [(o + 14, 2), (o + 68, 4), (o + 200, 56)]

/-- The command that opcode `op` with payload `raw` stands for; none for an opcode that 13 does not list. -/
def parseCmd (op : Nat) (raw : List Byte) : Option Cmd :=
  let b := raw
  match op with
  | 0x0101 => some (.devInfo)
  | 0x0102 => some (.devIdentity)
  | 0x0103 => some (.devEcho raw)
  | 0x0201 => some (.powerSetDomains ⟨(BitVec.ofNat 64 (field b 0 8)), (BitVec.ofNat 64 (field b 8 8))⟩)
  | 0x0202 => some (.powerSetState ⟨(field b 0 1), (BitVec.ofNat 16 (field b 2 2))⟩)
  | 0x0203 => some (.powerStatus)
  | 0x0301 => some (.wheelSetGear ⟨(BitVec.ofNat 128 (field b 0 16)), (field b 16 1)⟩)
  | 0x0302 => some (.wheelSetJockey ⟨(BitVec.ofNat 16 (field b 0 2)), (field b 2 1), (field b 4 2), (field b 6 2)⟩)
  | 0x0303 => some (.wheelServiceSpoke ⟨(field b 0 1), (field b 1 1), (field b 2 1)⟩)
  | 0x0304 => some (.wheelReturnSpoke ⟨(field b 0 1), (field b 1 1)⟩)
  | 0x0305 => some (.wheelUseRelief (field b 0 1) (field b 1 1))
  | 0x0306 => some (.wheelStatus (field b 0 1))
  | 0x0401 => some (.chainLoadBank ⟨(BitVec.ofNat 16 (field b 0 2)), slice b 4 1768⟩)
  | 0x0402 => some (.chainSwitchBank ⟨(BitVec.ofNat 16 (field b 0 2)), (field b 2 1)⟩)
  | 0x0403 => some (.chainSetChannel ⟨(field b 0 1), (BitVec.ofNat 8 (field b 1 1)), (field b 2 1), (field b 3 1), (field b 4 1), (field b 5 1), (field b 6 1), (field b 7 1), (BitVec.ofNat 32 (field b 8 4))⟩)
  | 0x0404 => some (.chainSetTrip ⟨(field b 0 1), (field b 1 1), (field b 2 1), (BitVec.ofNat 8 (field b 3 1)), (BitVec.ofNat 8 (field b 4 1)), (field b 6 2), fieldInt b 8 4, fieldInt b 12 4⟩)
  | 0x0405 => some (.chainClearTrip (BitVec.ofNat 128 (field b 0 16)))
  | 0x0406 => some (.chainStatus (field b 0 1))
  | 0x0501 => some (.meterDefine ⟨(field b 0 1), (field b 1 1), (field b 2 1), (BitVec.ofNat 8 (field b 3 1)), (List.range 4).map (fun i => field b (4 + i) 1), (List.range 4).map (fun i => field b (8 + i) 1), (BitVec.ofNat 8 (field b 12 1)), (field b 16 4), (field b 20 4)⟩)
  | 0x0502 => some (.meterUndefine ⟨(field b 0 1), (BitVec.ofNat 32 (field b 4 4))⟩)
  | 0x0503 => some (.meterMapCf ⟨(field b 0 1), (field b 1 1), (field b 2 1), (field b 3 1), (field b 4 4), (BitVec.ofNat 32 (field b 8 4))⟩)
  | 0x0504 => some (.meterStatus (field b 0 1))
  | 0x0601 => some (.pqSetChannel ⟨(field b 0 1), (field b 1 1), (field b 2 1), (field b 3 1), (field b 4 1), (field b 5 1), (field b 6 1), (BitVec.ofNat 32 (field b 8 4)), (field b 12 2), (field b 14 2), (field b 16 2), (field b 18 2)⟩)
  | 0x0602 => some (.pqSetMeter ⟨(field b 0 1), (field b 1 1)⟩)
  | 0x0603 => some (.pqSetCapture ⟨(field b 0 1), (field b 1 1), (field b 2 1), (field b 3 1), (field b 4 2), (field b 6 2), (BitVec.ofNat 16 (field b 8 2)), (List.range 32).map (fun i => field b (12 + i) 1), (List.range 8).map (fun i => field b (44 + i) 1), (BitVec.ofNat 8 (field b 52 1)), (field b 53 1), (BitVec.ofNat 32 (field b 56 4))⟩)
  | 0x0604 => some (.pqArm (field b 0 1) (field b 1 1))
  | 0x0605 => some (.pqTrigger (field b 0 1))
  | 0x0606 => some (.pqRelease ⟨(field b 0 1), (BitVec.ofNat 16 (field b 2 2))⟩)
  | 0x0607 => some (.pqStatus (field b 0 1))
  | 0x0608 => some (.pqStreamOpen ⟨(field b 0 1), (field b 1 1), (field b 2 1), (List.range 16).map (fun i => field b (4 + i) 1)⟩)
  | 0x0609 => some (.pqStreamClose (field b 0 1))
  | 0x0701 => some (.calRun ⟨(field b 0 1), (field b 1 1), (field b 2 1), (field b 3 1), (field b 4 2), (field b 6 2), (field b 8 1), (field b 9 1), (field b 10 1), (BitVec.ofNat 64 (field b 16 8)), (BitVec.ofNat 64 (field b 24 8)), (BitVec.ofNat 64 (field b 32 8)), (BitVec.ofNat 64 (field b 40 8)), (List.range 16).map (fun i => (⟨field b (48 + 2 * i) 1, field b (48 + 2 * i + 1) 1⟩ : CalTarget))⟩)
  | 0x0702 => some (.calCommit ⟨(field b 0 1), (List.range 16).map (fun i => (⟨field b (4 + 2 * i) 1, field b (4 + 2 * i + 1) 1⟩ : CalTarget))⟩)
  | 0x0703 => some (.calDiscard ⟨(field b 0 1), (field b 1 1)⟩)
  | 0x0704 => some (.calStatus ⟨(field b 0 1), (field b 1 1)⟩)
  | 0x0705 => some (.calRead ⟨(field b 0 1), (field b 1 1), (field b 2 1)⟩)
  | 0x0706 => some (.calAnchor)
  | 0x0707 => some (.calSetReference ⟨(field b 0 1), (field b 1 1)⟩)
  | 0x0801 => some (.tariffStageCalendar (slice b 0 3936))
  | 0x0802 => some (.tariffActivateAt (BitVec.ofNat 64 (field b 0 8)))
  | 0x0803 => some (.tariffSetMeter ⟨(field b 0 1), (field b 1 1), (field b 2 1), (field b 4 1), (field b 5 1)⟩)
  | 0x0804 => some (.tariffStatus)
  | 0x0901 => some (.ledgerReadSigned ⟨(field b 0 1), (field b 1 1), (BitVec.ofNat 32 (field b 4 4))⟩)
  | 0x0902 => some (.ledgerSetDemand ⟨(field b 0 1), (List.range 4).map (fun i => (⟨field b (4 + 8 * i) 1, field b (5 + 8 * i) 1, field b (6 + 8 * i) 1, BitVec.ofNat 8 (field b (7 + 8 * i) 1)⟩ : DemandEntry))⟩)
  | 0x0903 => some (.ledgerSetTamper ⟨(field b 0 1), ⟨(BitVec.ofNat 8 (field b 1 1)), (BitVec.ofNat 8 (field b 2 1)), (BitVec.ofNat 32 (field b 4 4)), (field b 8 4), (field b 12 2), (field b 14 2), (field b 16 4), (BitVec.ofNat 32 (field b 20 4)), (field b 24 2), (field b 26 2), (field b 28 2), (field b 30 2)⟩⟩)
  | 0x0904 => some (.ledgerClosePeriod (BitVec.ofNat 256 (field b 0 32)))
  | 0x0905 => some (.ledgerStatus (field b 0 1))
  | 0x0A01 => some (.polderCreate ⟨parseRecord b 0, (BitVec.ofNat 256 (field b 256 32)), (BitVec.ofNat 256 (field b 288 32))⟩)
  | 0x0A02 => some (.polderAssign (field b 0 1) ((List.range (field b 0 1)).map (fun i => parseRecord b (8 + 256 * i))))
  | 0x0A03 => some (.polderRelease (parseRecord b 0))
  | 0x0A04 => some (.polderClose)
  | 0x0A05 => some (.polderDissolve (field b 0 1))
  | 0x0A06 => some (.polderRekey ⟨(BitVec.ofNat 8 (field b 0 1)), (field b 4 4), slice b 8 64, slice b 72 72⟩)
  | 0x0A07 => some (.polderGetKey)
  | 0x0A08 => some (.polderStatus (field b 0 1))
  | 0x0A09 => some (.polderReadAudit ⟨(field b 0 4), (field b 4 2)⟩)
  | 0x0B01 => some (.eventRead (field b 0 1))
  | 0x0B02 => some (.eventMask ⟨(field b 0 1), (BitVec.ofNat 32 (field b 4 4)), (BitVec.ofNat 32 (field b 8 4))⟩)
  | 0x0B03 => some (.eventRoute ⟨(field b 0 1), (BitVec.ofNat 16 (field b 2 2))⟩)
  | 0x0C01 => some (.plcSetLink ⟨(field b 0 1), (field b 1 1), (field b 2 1), (field b 3 1), (field b 4 1)⟩)
  | 0x0C02 => some (.plcSetNetwork ⟨(BitVec.ofNat 64 (field b 0 8)), (field b 8 2), (field b 10 1), (BitVec.ofNat 128 (field b 16 16))⟩)
  | 0x0C03 => some (.plcSetSpectrum ⟨(field b 0 1), (List.range 16).map (fun i => (field b (4 + 4 * i) 2, field b (6 + 4 * i) 2)), (List.range 206).map (fun i => fieldInt b (68 + i) 1)⟩)
  | 0x0C04 => some (.plcSend ⟨(field b 0 2), (field b 2 1), (field b 3 1), (field b 4 1), (field b 6 2), slice b 8 (field b 6 2)⟩)
  | 0x0C05 => some (.plcRecv)
  | 0x0C06 => some (.plcStatus)
  | 0x0D01 => some (.timeSet ⟨(field b 0 1), fieldInt b 8 8⟩)
  | 0x0D02 => some (.timeTrust (field b 0 1))
  | 0x0D03 => some (.timeSetAlarm ⟨(BitVec.ofNat 64 (field b 0 8)), (BitVec.ofNat 64 (field b 8 8)), (field b 16 1)⟩)
  | 0x0D04 => some (.timeSetPeriodic ⟨(field b 0 1), (field b 1 1)⟩)
  | 0x0D05 => some (.timeStatus)
  | 0x0E01 => some (.storeRead ⟨(field b 0 4), (field b 4 4)⟩)
  | 0x0E02 => some (.storeProgram ⟨(field b 0 4), (field b 4 4), raw.drop 8⟩)
  | 0x0E03 => some (.storeErase ⟨(field b 0 4), (field b 4 4)⟩)
  | 0x0F01 => some (.guardUnlock ⟨(field b 0 1), (field b 4 4), if field b 0 1 = 1 then slice b 8 64 else []⟩)
  | 0x0F02 => some (.guardSetKey (slice b 0 64))
  | 0x0F03 => some (.guardSetResponse ⟨(field b 0 1), (List.range (field b 0 1)).map (fun i => (⟨field b (4 + 4 * i) 2, field b (6 + 4 * i) 1, field b (7 + 4 * i) 1⟩ : GuardEntry))⟩)
  | 0x1001 => some (.tandemEnable ⟨(field b 0 1), (BitVec.ofNat 128 (field b 4 16))⟩)
  | 0x1002 => some (.tandemHandover)
  | 0x1003 => some (.tandemStatus)
  | 0x1101 => some (.imageStage ⟨(field b 0 1), (field b 4 4), raw.drop 8⟩)
  | 0x1102 => some (.imageActivate (field b 0 1))
  | 0x1103 => some (.imageConfirm)
  | 0x1104 => some (.imageStatus)
  | _ => none

/-- The length of the payload of opcode `op`, where its layout fixes one (R352, R377). -/
def lengthOk (op : Nat) (raw : List Byte) : Bool :=
  let b := raw
  let n := raw.length
  match op with
  | 0x0103 => decide (n ≤ 32)
  | 0x1101 => decide (8 + 16 ≤ n ∧ n ≤ 8 + 32704 ∧ n % 16 = 8)
  | 0x0101 => n == (0)
  | 0x0102 => n == (0)
  | 0x0201 => n == (16)
  | 0x0202 => n == (4)
  | 0x0203 => n == (0)
  | 0x0301 => n == (20)
  | 0x0302 => n == (8)
  | 0x0303 => n == (4)
  | 0x0304 => n == (4)
  | 0x0305 => n == (4)
  | 0x0306 => n == (4)
  | 0x0401 => n == (1772)
  | 0x0402 => n == (4)
  | 0x0403 => n == (16)
  | 0x0404 => n == (16)
  | 0x0405 => n == (16)
  | 0x0406 => n == (4)
  | 0x0501 => n == (32)
  | 0x0502 => n == (8)
  | 0x0503 => n == (12)
  | 0x0504 => n == (4)
  | 0x0601 => n == (20)
  | 0x0602 => n == (4)
  | 0x0603 => n == (60)
  | 0x0604 => n == (4)
  | 0x0605 => n == (4)
  | 0x0606 => n == (4)
  | 0x0607 => n == (4)
  | 0x0608 => n == (20)
  | 0x0609 => n == (4)
  | 0x0701 => n == (80)
  | 0x0702 => n == (36)
  | 0x0703 => n == (4)
  | 0x0704 => n == (4)
  | 0x0705 => n == (4)
  | 0x0706 => n == (0)
  | 0x0707 => n == (4)
  | 0x0801 => n == (3936)
  | 0x0802 => n == (8)
  | 0x0803 => n == (8)
  | 0x0804 => n == (0)
  | 0x0901 => n == (8)
  | 0x0902 => n == (36)
  | 0x0903 => n == (32)
  | 0x0904 => n == (32)
  | 0x0905 => n == (4)
  | 0x0A01 => n == (320)
  | 0x0A02 => n == (8 + 256 * field b 0 1)
  | 0x0A03 => n == (256)
  | 0x0A04 => n == (0)
  | 0x0A05 => n == (4)
  | 0x0A06 => n == (144)
  | 0x0A07 => n == (0)
  | 0x0A08 => n == (4)
  | 0x0A09 => n == (8)
  | 0x0B01 => n == (4)
  | 0x0B02 => n == (12)
  | 0x0B03 => n == (4)
  | 0x0C01 => n == (8)
  | 0x0C02 => n == (32)
  | 0x0C03 => n == (276)
  | 0x0C04 => n == (8 + field b 6 2)
  | 0x0C05 => n == (0)
  | 0x0C06 => n == (0)
  | 0x0D01 => n == (16)
  | 0x0D02 => n == (4)
  | 0x0D03 => n == (24)
  | 0x0D04 => n == (4)
  | 0x0D05 => n == (0)
  | 0x0E01 => n == (8)
  | 0x0E02 => n == (8 + field b 4 4)
  | 0x0E03 => n == (8)
  | 0x0F01 => n == (if field b 0 1 = 1 then 72 else 4)
  | 0x0F02 => n == (64)
  | 0x0F03 => n == (4 + 4 * field b 0 1)
  | 0x1001 => n == (20)
  | 0x1002 => n == (0)
  | 0x1003 => n == (0)
  | 0x1102 => n == (4)
  | 0x1103 => n == (0)
  | 0x1104 => n == (0)
  | _ => false

/-- The reserved byte ranges (offset, length) of the payload of opcode `op` (R11, R377). -/
def reservedZones (op : Nat) (raw : List Byte) : List (Nat × Nat) :=
  let b := raw
  match op with
  | 0x0A02 => (1, 7) :: ((List.range (field b 0 1)).map fun i => recordZones (8 + 256 * i)).flatten
  | 0x0202 => [(1, 1)]
  | 0x0301 => [(17, 3)]
  | 0x0302 => [(3, 1)]
  | 0x0303 => [(3, 1)]
  | 0x0304 => [(2, 2)]
  | 0x0305 => [(2, 2)]
  | 0x0306 => [(1, 3)]
  | 0x0401 => [(2, 2)]
  | 0x0402 => [(3, 1)]
  | 0x0403 => [(12, 4)]
  | 0x0404 => [(5, 1)]
  | 0x0406 => [(1, 3)]
  | 0x0501 => [(13, 3), (24, 8)]
  | 0x0502 => [(1, 3)]
  | 0x0504 => [(1, 3)]
  | 0x0601 => [(7, 1)]
  | 0x0602 => [(2, 2)]
  | 0x0603 => [(10, 2), (54, 2)]
  | 0x0604 => [(2, 2)]
  | 0x0605 => [(1, 3)]
  | 0x0606 => [(1, 1)]
  | 0x0607 => [(1, 3)]
  | 0x0608 => [(3, 1)]
  | 0x0609 => [(1, 3)]
  | 0x0701 => [(11, 5)]
  | 0x0702 => [(1, 3)]
  | 0x0703 => [(2, 2)]
  | 0x0704 => [(2, 2)]
  | 0x0705 => [(3, 1)]
  | 0x0707 => [(2, 2)]
  | 0x0803 => [(3, 1), (6, 2)]
  | 0x0901 => [(2, 2)]
  | 0x0902 => [(1, 3), (8, 4), (16, 4), (24, 4), (32, 4)]
  | 0x0903 => [(3, 1)]
  | 0x0905 => [(1, 3)]
  | 0x0A01 => [(14, 2), (68, 4), (200, 56)]
  | 0x0A03 => [(14, 2), (68, 4), (200, 56)]
  | 0x0A05 => [(1, 3)]
  | 0x0A06 => [(1, 3)]
  | 0x0A08 => [(1, 3)]
  | 0x0A09 => [(6, 2)]
  | 0x0B01 => [(1, 3)]
  | 0x0B02 => [(1, 3)]
  | 0x0B03 => [(1, 1)]
  | 0x0C01 => [(5, 3)]
  | 0x0C02 => [(11, 5)]
  | 0x0C03 => [(1, 3), (274, 2)]
  | 0x0C04 => [(5, 1)]
  | 0x0D01 => [(1, 7)]
  | 0x0D02 => [(1, 3)]
  | 0x0D03 => [(17, 7)]
  | 0x0D04 => [(2, 2)]
  | 0x0F01 => [(1, 3)]
  | 0x0F03 => [(1, 3)]
  | 0x1001 => [(1, 3)]
  | 0x1101 => [(1, 3)]
  | 0x1102 => [(1, 3)]
  | _ => []

/-- Every reserved byte of the payload is zero (R11). -/
def reservedOk (op : Nat) (raw : List Byte) : Bool :=
  (reservedZones op raw).all fun z => field raw z.1 z.2 == 0

/-- The opcode of a command (13). -/
def Cmd.opcode : Cmd → Nat
  | .devInfo => 0x0101
  | .devIdentity => 0x0102
  | .devEcho _ => 0x0103
  | .powerSetDomains _ => 0x0201
  | .powerSetState _ => 0x0202
  | .powerStatus => 0x0203
  | .wheelSetGear _ => 0x0301
  | .wheelSetJockey _ => 0x0302
  | .wheelServiceSpoke _ => 0x0303
  | .wheelReturnSpoke _ => 0x0304
  | .wheelUseRelief _ _ => 0x0305
  | .wheelStatus _ => 0x0306
  | .chainLoadBank _ => 0x0401
  | .chainSwitchBank _ => 0x0402
  | .chainSetChannel _ => 0x0403
  | .chainSetTrip _ => 0x0404
  | .chainClearTrip _ => 0x0405
  | .chainStatus _ => 0x0406
  | .meterDefine _ => 0x0501
  | .meterUndefine _ => 0x0502
  | .meterMapCf _ => 0x0503
  | .meterStatus _ => 0x0504
  | .pqSetChannel _ => 0x0601
  | .pqSetMeter _ => 0x0602
  | .pqSetCapture _ => 0x0603
  | .pqArm _ _ => 0x0604
  | .pqTrigger _ => 0x0605
  | .pqRelease _ => 0x0606
  | .pqStatus _ => 0x0607
  | .pqStreamOpen _ => 0x0608
  | .pqStreamClose _ => 0x0609
  | .calRun _ => 0x0701
  | .calCommit _ => 0x0702
  | .calDiscard _ => 0x0703
  | .calStatus _ => 0x0704
  | .calRead _ => 0x0705
  | .calAnchor => 0x0706
  | .calSetReference _ => 0x0707
  | .tariffStageCalendar _ => 0x0801
  | .tariffActivateAt _ => 0x0802
  | .tariffSetMeter _ => 0x0803
  | .tariffStatus => 0x0804
  | .ledgerReadSigned _ => 0x0901
  | .ledgerSetDemand _ => 0x0902
  | .ledgerSetTamper _ => 0x0903
  | .ledgerClosePeriod _ => 0x0904
  | .ledgerStatus _ => 0x0905
  | .polderCreate _ => 0x0A01
  | .polderAssign _ _ => 0x0A02
  | .polderRelease _ => 0x0A03
  | .polderClose => 0x0A04
  | .polderDissolve _ => 0x0A05
  | .polderRekey _ => 0x0A06
  | .polderGetKey => 0x0A07
  | .polderStatus _ => 0x0A08
  | .polderReadAudit _ => 0x0A09
  | .eventRead _ => 0x0B01
  | .eventMask _ => 0x0B02
  | .eventRoute _ => 0x0B03
  | .plcSetLink _ => 0x0C01
  | .plcSetNetwork _ => 0x0C02
  | .plcSetSpectrum _ => 0x0C03
  | .plcSend _ => 0x0C04
  | .plcRecv => 0x0C05
  | .plcStatus => 0x0C06
  | .timeSet _ => 0x0D01
  | .timeTrust _ => 0x0D02
  | .timeSetAlarm _ => 0x0D03
  | .timeSetPeriodic _ => 0x0D04
  | .timeStatus => 0x0D05
  | .storeRead _ => 0x0E01
  | .storeProgram _ => 0x0E02
  | .storeErase _ => 0x0E03
  | .guardUnlock _ => 0x0F01
  | .guardSetKey _ => 0x0F02
  | .guardSetResponse _ => 0x0F03
  | .tandemEnable _ => 0x1001
  | .tandemHandover => 0x1002
  | .tandemStatus => 0x1003
  | .imageStage _ => 0x1101
  | .imageActivate _ => 0x1102
  | .imageConfirm => 0x1103
  | .imageStatus => 0x1104

/-- The payload bytes of opcode `op` reach up to and including the fields that name its target objects (R335): a
payload shorter than this names an object the polder does not hold. -/
def targetSpan (op : Nat) : Nat :=
  match op with
  | 0x0201 => 16
  | 0x0301 => 16
  | 0x0302 => 2
  | 0x0303 => 1
  | 0x0304 => 1
  | 0x0305 => 1
  | 0x0401 => 2
  | 0x0402 => 2
  | 0x0403 => 1
  | 0x0404 => 5
  | 0x0405 => 16
  | 0x0501 => 1
  | 0x0502 => 1
  | 0x0503 => 3
  | 0x0504 => 1
  | 0x0601 => 1
  | 0x0602 => 1
  | 0x0603 => 54
  | 0x0604 => 1
  | 0x0605 => 1
  | 0x0606 => 1
  | 0x0607 => 1
  | 0x0608 => 20
  | 0x0609 => 1
  | 0x0701 => 80
  | 0x0702 => 36
  | 0x0703 => 1
  | 0x0803 => 1
  | 0x0901 => 1
  | 0x0902 => 1
  | 0x0903 => 1
  | 0x0904 => 32
  | 0x0905 => 1
  | 0x0A05 => 1
  | 0x0A08 => 1
  | 0x0B02 => 8
  | _ => 0

/-! ## From the command to its payload (13) -/

/-- A calibration target as it stands in a list (R389). -/
def CalTarget.payload (x : CalTarget) : List Byte := leBytes 1 x.channel ++ leBytes 1 x.gear

/-- An entry of a demand configuration (R390). -/
def DemandEntry.payload (x : DemandEntry) : List Byte :=
  leBytes 1 x.q ++ leBytes 1 x.l ++ leBytes 1 x.s ++ leBytes 1 x.rateMask.toNat ++ zeros 4

/-- A tamper configuration from its offset 1 on (R309). -/
def TamperCfg.payload (x : TamperCfg) : List Byte :=
  leBytes 1 x.enable.toNat ++ leBytes 1 x.revMask.toNat ++ zeros 1 ++ leBytes 4 x.pRev.toNat ++ leBytes 4 x.iRev ++ leBytes 2 x.bypRel
    ++ leBytes 2 x.neuLow ++ leBytes 4 x.iByp ++ leBytes 4 x.uNom.toNat ++ leBytes 2 x.neuPe ++ leBytes 2 x.neuZs ++ leBytes 2 x.tOn
    ++ leBytes 2 x.tOff

/-- An entry of `guard.set_response` (R398). -/
def GuardEntry.payload (x : GuardEntry) : List Byte := leBytes 2 x.source ++ leBytes 1 x.response ++ leBytes 1 x.param

/-- A polder record (R326). -/
def PolderRecord.payload (r : PolderRecord) : List Byte :=
  leBytes 1 r.polder ++ leBytes 1 r.state ++ leBytes 2 r.priv.toNat ++ leBytes 4 r.sluices.toNat ++ leBytes 2 r.tickets
    ++ leBytes 1 r.options.toNat ++ leBytes 1 r.ftripOut.toNat ++ leBytes 2 r.cfOut.toNat ++ zeros 2 ++ leBytes 16 r.tripCh.toNat
    ++ leBytes 16 r.pqCh.toNat ++ leBytes 8 r.domains.toNat ++ leBytes 2 r.poolShare ++ leBytes 2 r.streamShare ++ leBytes 4 r.keyGen
    ++ leBytes 4 r.keyId ++ zeros 4 ++ leBytes 128 r.evt.toNat ++ zeros 56

/-- The payload of a command, by the layout of its opcode; reserved bytes are zero (R11). -/
def Cmd.payload : Cmd → List Byte
  | .devInfo => []
  | .devIdentity => []
  | .devEcho data => data
  | .powerSetDomains p => leBytes 8 p.on.toNat ++ leBytes 8 p.off.toNat
  | .powerSetState p => leBytes 1 p.state ++ zeros 1 ++ leBytes 2 p.wakeCfg.toNat
  | .powerStatus => []
  | .wheelSetGear p => leBytes 16 p.channels.toNat ++ leBytes 1 p.policy ++ zeros 3
  | .wheelSetJockey p =>
    leBytes 2 p.wheels.toNat ++ leBytes 1 p.policy ++ zeros 1 ++ leBytes 2 p.rel ++ leBytes 2 p.floorPpm
  | .wheelServiceSpoke p => leBytes 1 p.wheel ++ leBytes 1 p.spoke ++ leBytes 1 p.action ++ zeros 1
  | .wheelReturnSpoke p => leBytes 1 p.wheel ++ leBytes 1 p.spoke ++ zeros 2
  | .wheelUseRelief wheel mode => leBytes 1 wheel ++ leBytes 1 mode ++ zeros 2
  | .wheelStatus wheel => leBytes 1 wheel ++ zeros 3
  | .chainLoadBank p => leBytes 2 p.wheels.toNat ++ zeros 2 ++ p.set
  | .chainSwitchBank p => leBytes 2 p.wheels.toNat ++ leBytes 1 p.fade ++ zeros 1
  | .chainSetChannel p =>
    leBytes 1 p.channel ++ leBytes 1 p.what.toNat ++ leBytes 1 p.corner ++ leBytes 1 p.dcFreeze
      ++ leBytes 1 p.intEnable ++ leBytes 1 p.cycleRef ++ leBytes 1 p.envAttack ++ leBytes 1 p.envDecay
      ++ leBytes 4 p.scale.toNat ++ zeros 4
  | .chainSetTrip p =>
    leBytes 1 p.channel ++ leBytes 1 p.mode ++ leBytes 1 p.count ++ leBytes 1 p.tflags.toNat
      ++ leBytes 1 p.outMask.toNat ++ zeros 1 ++ leBytes 2 p.release ++ leBytesInt 4 p.tHi ++ leBytesInt 4 p.tLo
  | .chainClearTrip channels => leBytes 16 channels.toNat
  | .chainStatus channel => leBytes 1 channel ++ zeros 3
  | .meterDefine p =>
    leBytes 1 p.meter ++ leBytes 1 p.owner ++ leBytes 1 p.type ++ leBytes 1 p.options.toNat
      ++ p.vSlot.flatMap (leBytes 1) ++ p.iSlot.flatMap (leBytes 1) ++ leBytes 1 p.invert.toNat ++ zeros 3
      ++ leBytes 4 p.iStart ++ leBytes 4 p.creep ++ zeros 8
  | .meterUndefine p => leBytes 1 p.meter ++ zeros 3 ++ leBytes 4 p.expGen.toNat
  | .meterMapCf p =>
    leBytes 1 p.cf ++ leBytes 1 p.meter ++ leBytes 1 p.q ++ leBytes 1 p.width ++ leBytes 4 p.k
      ++ leBytes 4 p.expGen.toNat
  | .meterStatus meter => leBytes 1 meter ++ zeros 3
  | .pqSetChannel p =>
    leBytes 1 p.channel ++ leBytes 1 p.enable ++ leBytes 1 p.kind ++ leBytes 1 p.fNom ++ leBytes 1 p.ref
      ++ leBytes 1 p.harm ++ leBytes 1 p.iharm ++ zeros 1 ++ leBytes 4 p.udin.toNat ++ leBytes 2 p.dip
      ++ leBytes 2 p.swell ++ leBytes 2 p.intr ++ leBytes 2 p.hyst
  | .pqSetMeter p => leBytes 1 p.meter ++ leBytes 1 p.enable ++ zeros 2
  | .pqSetCapture p =>
    leBytes 1 p.capture ++ leBytes 1 p.format ++ leBytes 1 p.nseg ++ leBytes 1 p.nchan ++ leBytes 2 p.preMs
      ++ leBytes 2 p.postMs ++ leBytes 2 p.kinds.toNat ++ zeros 2 ++ p.channels.flatMap (leBytes 1)
      ++ p.sources.flatMap (leBytes 1) ++ leBytes 1 p.srcIsMeter.toNat ++ leBytes 1 p.flagMeter ++ zeros 2
      ++ leBytes 4 p.flagMask.toNat
  | .pqArm capture arm => leBytes 1 capture ++ leBytes 1 arm ++ zeros 2
  | .pqTrigger capture => leBytes 1 capture ++ zeros 3
  | .pqRelease p => leBytes 1 p.capture ++ zeros 1 ++ leBytes 2 p.segs.toNat
  | .pqStatus capture => leBytes 1 capture ++ zeros 3
  | .pqStreamOpen p =>
    leBytes 1 p.nchan ++ leBytes 1 p.format ++ leBytes 1 p.size ++ zeros 1 ++ p.channels.flatMap (leBytes 1)
  | .pqStreamClose stream => leBytes 1 stream ++ zeros 3
  | .calRun p =>
    leBytes 1 p.kind ++ leBytes 1 p.ntarget ++ leBytes 1 p.signal ++ leBytes 1 p.phaseRef ++ leBytes 2 p.n
      ++ leBytes 2 p.tol ++ leBytes 1 p.index ++ leBytes 1 p.meter ++ leBytes 1 p.phase ++ zeros 5
      ++ leBytes 8 p.refMag.toNat ++ leBytes 8 p.refAng.toNat ++ leBytes 8 p.refP1.toNat ++ leBytes 8 p.refQ1.toNat
      ++ p.targets.flatMap CalTarget.payload
  | .calCommit p => leBytes 1 p.ntarget ++ zeros 3 ++ p.targets.flatMap CalTarget.payload
  | .calDiscard p => leBytes 1 p.channel ++ leBytes 1 p.gear ++ zeros 2
  | .calStatus p => leBytes 1 p.channel ++ leBytes 1 p.gear ++ zeros 2
  | .calRead p => leBytes 1 p.channel ++ leBytes 1 p.gear ++ leBytes 1 p.path ++ zeros 1
  | .calAnchor => []
  | .calSetReference p => leBytes 1 p.preferred ++ leBytes 1 p.auto ++ zeros 2
  | .tariffStageCalendar cal => cal
  | .tariffActivateAt t => leBytes 8 t.toNat
  | .tariffSetMeter p =>
    leBytes 1 p.meter ++ leBytes 1 p.mode ++ leBytes 1 p.rate ++ zeros 1 ++ leBytes 1 p.rateQ0
      ++ leBytes 1 p.rateQ1 ++ zeros 2
  | .tariffStatus => []
  | .ledgerReadSigned p => leBytes 1 p.meter ++ leBytes 1 p.snapIndex ++ zeros 2 ++ leBytes 4 p.select.toNat
  | .ledgerSetDemand p => leBytes 1 p.meter ++ zeros 3 ++ p.entries.flatMap DemandEntry.payload
  | .ledgerSetTamper p => leBytes 1 p.meter ++ p.cfg.payload
  | .ledgerClosePeriod meters => leBytes 32 meters.toNat
  | .ledgerStatus meter => leBytes 1 meter ++ zeros 3
  | .polderCreate p => p.record.payload ++ leBytes 32 p.authKey.toNat ++ leBytes 32 p.sessionKey.toNat
  | .polderAssign n records => leBytes 1 n ++ zeros 7 ++ records.flatMap PolderRecord.payload
  | .polderRelease r => r.payload
  | .polderClose => []
  | .polderDissolve polder => leBytes 1 polder ++ zeros 3
  | .polderRekey p => leBytes 1 p.options.toNat ++ zeros 3 ++ leBytes 4 p.newKeyGen ++ p.ephPub ++ p.wrapped
  | .polderGetKey => []
  | .polderStatus polder => leBytes 1 polder ++ zeros 3
  | .polderReadAudit p => leBytes 4 p.fromNo ++ leBytes 2 p.count ++ zeros 2
  | .eventRead max => leBytes 1 max ++ zeros 3
  | .eventMask p => leBytes 1 p.group ++ zeros 3 ++ leBytes 4 p.select.toNat ++ leBytes 4 p.enable.toNat
  | .eventRoute p => leBytes 1 p.line ++ zeros 1 ++ leBytes 2 p.polders.toNat
  | .plcSetLink p =>
    leBytes 1 p.enable ++ leBytes 1 p.txMode ++ leBytes 1 p.txPhase ++ leBytes 1 p.rxMode ++ leBytes 1 p.rxPhase
      ++ zeros 3
  | .plcSetNetwork p =>
    leBytes 8 p.netName.toNat ++ leBytes 2 p.node ++ leBytes 1 p.role ++ zeros 5 ++ leBytes 16 p.netKey.toNat
  | .plcSetSpectrum p =>
    leBytes 1 p.nnotch ++ zeros 3 ++ (p.notches.flatMap fun x => leBytes 2 x.1 ++ leBytes 2 x.2)
      ++ p.psd.flatMap (leBytesInt 1) ++ zeros 2
  | .plcSend p =>
    leBytes 2 p.dest ++ leBytes 1 p.destPolder ++ leBytes 1 p.priority ++ leBytes 1 p.mode ++ zeros 1
      ++ leBytes 2 p.dlen ++ p.data
  | .plcRecv => []
  | .plcStatus => []
  | .timeSet p => leBytes 1 p.mode ++ zeros 7 ++ leBytesInt 8 p.offset
  | .timeTrust action => leBytes 1 action ++ zeros 3
  | .timeSetAlarm p => leBytes 8 p.seconds.toNat ++ leBytes 8 p.mask.toNat ++ leBytes 1 p.enable ++ zeros 7
  | .timeSetPeriodic p => leBytes 1 p.k ++ leBytes 1 p.enable ++ zeros 2
  | .timeStatus => []
  | .storeRead p => leBytes 4 p.addr ++ leBytes 4 p.len
  | .storeProgram p => leBytes 4 p.addr ++ leBytes 4 p.len ++ p.data
  | .storeErase p => leBytes 4 p.addr ++ leBytes 4 p.count
  | .guardUnlock p => leBytes 1 p.step ++ zeros 3 ++ (if p.step = 1 then leBytes 4 p.challengeId ++ p.sig else [])
  | .guardSetKey pub => pub
  | .guardSetResponse p => leBytes 1 p.n ++ zeros 3 ++ p.entries.flatMap GuardEntry.payload
  | .tandemEnable p => leBytes 1 p.enable ++ zeros 3 ++ leBytes 16 p.partnerId.toNat
  | .tandemHandover => []
  | .tandemStatus => []
  | .imageStage p => leBytes 1 p.kind ++ zeros 3 ++ leBytes 4 p.offset ++ p.data
  | .imageActivate kind => leBytes 1 kind ++ zeros 3
  | .imageConfirm => []
  | .imageStatus => []

end Sys2Proof
end

