-- ==== Sys2Proof/Machine/Hosts.lean ====
section
/-! DEFINITION. Host ports, foundation registers and the aperture: what a port may read, what each register reads as, and what a
read or write of a register with a behaviour of its own does (14). -/
namespace Sys2Proof.Machine

/-! ## Ports (R403 to R409) -/

/-- The host ports answer transfers (R105, R121). -/
def State.portsUp (s : State) : Bool := s.pwr.portsReady

/-- A transfer on a port: nothing happens while the ports are not ready or for a port that does not exist (R121). -/
def State.onPort (s : State) (t port : Nat) (f : State → State) : State :=
  let s := s.advance t
  if s.portsUp && port < 2 then f s else s

/-- Port `n` carries polder `p` (R408). -/
def State.carries (s : State) (n p : Nat) : Bool := p < 16 && (s.port n).perm.getLsbD p

/-- The word a read on port `n` returns. -/
def State.serve (s : State) (n : Nat) (v : Nat) : State := s.modPort n fun p => { p with rdata := BitVec.ofNat 32 v }

/-- An error flag of HPT_STATn is set, and EV0652 fires (R403 to R405, R420). -/
def State.portError (s : State) (n : Nat) (f : Port → Port) : State := (s.modPort n f).fire 652 1 0

/-- Who owns an address of the aperture (R409). -/
inductive Aperture where
  /-- No owner: always blocked, attributed to P00. -/
  | blocked
  /-- It reads zero and is not blocked. -/
  | vacant
  | owned (polder : Nat)
deriving DecidableEq, Repr

/-- The polder whose share of a region holds offset `off`: shares in units of 4 KiB, placed in ascending polder order (R326). -/
def shareHolder (share : Nat → Nat) (off : Nat) : Aperture :=
  let rec go : Nat → Nat → Nat → Aperture
    | 0, _, _ => .blocked
    | n + 1, p, base =>
      if off < base + share p * 4096 then (if base ≤ off then .owned p else .blocked) else go n (p + 1) (base + share p * 4096)
  go 16 0 0

/-- The owner of the records of meter `m` (R409). -/
def State.meterAperture (s : State) (m : Nat) : Aperture :=
  let x := s.meter m
  if x.state != .undefined then .owned x.def_.owner
  else match x.former with
    | some p => .owned p
    | none => if x.defGen = 0 then .vacant else .blocked

/-- The owner of an aperture address (R409). -/
def State.aperture (s : State) (a : Nat) : Aperture :=
  if a < 0x01480000 then .blocked
  else if a < 0x014C0000 then s.meterAperture ((a - 0x01480000) / 0x200 % 256)
  else if a < 0x01540000 then
    let c := (a - 0x014C0000) / 0x1000
    match firstFrom (fun p => (s.polder p).pqCh.getLsbD c) 16 0 with
    | some p => .owned p
    | none => .vacant
  else if a < 0x01544000 then s.meterAperture ((a - 0x01540000) / 0x40)
  else if a < 0x01564000 then .owned ((a - 0x01544000) / 0x2000)
  else if a < 0x01580000 then .blocked
  else if a < 0x01600000 then shareHolder (fun p => (s.polder p).streamShare) (a - 0x01580000)
  else if a < 0x02000000 then shareHolder (fun p => (s.polder p).poolShare) (a - 0x01600000)
  else .blocked

/-- An address lies in the SRAM aperture (R34). -/
def inAperture (a : Nat) : Bool := 0x01000000 ≤ a && a < 0x02000000

/-- The stream whose CONS word lies at an aperture address (R260). -/
def State.consWord (s : State) (a : Nat) : Option Nat := (s.pq.streams.find? fun e => !e.2.ended && e.2.base + 4 = a).map (·.1)

/-- A host access of the aperture is let through (R409). -/
def State.permitted (s : State) (n a : Nat) (write : Bool) : Bool :=
  if write then (match s.consWord a with
    | some k => s.carries n ((s.pq.streams.find k).elim 0 (·.owner))
    | none => false)
  else match s.aperture a with
    | .vacant => true
    | .owned p => s.carries n p
    | .blocked => false

/-- A blocked access is counted for a polder; at most one audit entry a second carries the count (R339). -/
def Polder.block (p : Polder) (time : Nat) : Polder :=
  let sec := time / 2 ^ 24
  if p.blockedSec = some sec then { p with blockedCount := p.blockedCount + 1 }
  else { p.addAudit (.blocked time (p.blockedCount + 1)) with blockedSec := some sec, blockedCount := 0 }

/-- Accesses counted in an earlier second are written once the next second begins (R339). -/
def Polder.blockFlush (p : Polder) (time : Nat) : Polder :=
  if p.blockedCount = 0 || p.blockedSec = some (time / 2 ^ 24) then p
  else { p.addAudit (.blocked time p.blockedCount) with blockedSec := some (time / 2 ^ 24), blockedCount := 0 }

/-- An aperture access that the port may not make: it reads zero or has no effect, and is counted (R409). -/
def blockAccess (n a : Nat) (write : Bool) (s : State) : State :=
  if !inAperture a || s.permitted n a write then s
  else
    let p := match s.aperture a with
      | .owned p => p
      | _ => 0
    let time := s.stamp
    let s := (s.modPort n fun x => { x with blocked := true, blockCount := x.blockCount + 1 }).modPolder p fun x => x.block time
    if write then s else s.serve n 0

/-- BLOCKED_ACCESS (R409). -/
def execBlockedAccess (t port address : Nat) (write : Bool) (s : State) : Host.Outcome State Fault Refusal :=
  .next (s.onPort t port (blockAccess port address write))

/-- An instruction that a port accepts (R403). -/
def goodInstruction (qpi : Bool) (i : Byte) : Bool := i = 0xEB || i = 0x32 || (!qpi && (i = 0x03 || i = 0x02))

/-- BAD_INSTRUCTION (R403). -/
def execBadInstruction (t port : Nat) (instruction : Byte) (s : State) : Host.Outcome State Fault Refusal :=
  .next (s.onPort t port fun s =>
    if goodInstruction (s.port port).qpi instruction then s else s.portError port fun p => { p with badInstr := true })

/-- UNALIGNED_ADDRESS (R404). -/
def execUnalignedAddress (t port address : Nat) (s : State) : Host.Outcome State Fault Refusal :=
  .next (s.onPort t port fun s => if address % 4 = 0 then s else s.portError port fun p => { p with unaligned := true })

/-! ## Wake line and readiness (R120, R121) -/

/-- The end of the host's first sluice access releases HOST_WAKE_N (R120). -/
def firstAccess (s : State) : State := { s with pwr := { s.pwr with hold := false } }

/-- FIRST_SLUICE_ACCESS (R120, R121). -/
def execFirstSluiceAccess (t port sluice : Nat) (s : State) : Host.Outcome State Fault Refusal :=
  .next (s.onPort t port fun s => if sluice < 32 then firstAccess s else s)

/-- TRANSFER_BEFORE_READY (R121): it is not answered, its data are discarded and no register changes; only time passes. -/
def execTransferBeforeReady (t _port : Nat) (s : State) : Host.Outcome State Fault Refusal := .next (s.advance t)

/-- Milliseconds of a start so far, saturating (R124). -/
def State.startMs (s : State) : Nat := Nat.min 0xFFFF ((s.now - s.pwr.startAt) / 49152)

/-- The host ports become ready (R112, R114, R119, R341, R411): the episode ends, the lines leave kickstand, and after HUSH the domains
it kept off are decided again. Without a dry image every output stays in kickstand (R113). -/
def portsReady (s : State) : State :=
  if s.pwr.portsReady || !s.pwr.porstHigh || s.pwr.aonLost || s.pwr.halted || s.pwr.state == .nap || s.pwr.state == .hush
      || s.flash.restarting.isSome || s.pwr.startBoundary || (s.pwr.dryOk && !s.pwr.firstPub) then s
  else
    let ms := if s.irqKick then s.startMs else s.pwr.portsMs
    let s := { s with pwr := { s.pwr with portsReady := true, portsMs := ms, episodeOpen := false }, irqKick := !s.pwr.dryOk }
    [14, 15, 16].foldl (fun s n => if s.decides n then s.modDom n Dom.turnOn else s) s

/-- HOST_PORTS_READY (R112, R121). -/
def execHostPortsReady (t : Nat) (s : State) : Host.Outcome State Fault Refusal := .next (portsReady (s.advance t))

/-! ## The event block (R425 to R428) -/

/-- The pending bits of group `g` that port `n` sees (R426). -/
def State.visible (s : State) (n g : Nat) : BitVec 32 :=
  BitVec.ofNat 32 (maskOf ((List.range 32).filter fun i => s.evt.pending.getLsbD (32 * g + i) && s.carries n (s.owner (32 * g + i))))

/-- The pending bits with those of a group cleared. -/
def clearBits (pending : BitVec 1024) (g : Nat) (bits : BitVec 32) : BitVec 1024 := pending &&& ~~~((bits.setWidth 1024) <<< (32 * g))

/-- Group `g` is sequence-clear (R425). -/
def Evt.sequenced (e : Evt) (g : Nat) : Bool := e.mode.getLsbD g

/-- A read of EVT_STATg (R426, R427). -/
def evtStatRead (n g : Nat) (s : State) : State :=
  if 32 ≤ g then s
  else
    let bits := s.visible n g
    let seq := s.evt.seq.get 0 g + 1
    let pending := if s.evt.sequenced g then s.evt.pending else clearBits s.evt.pending g bits
    let s := { s with evt := { s.evt with seq := s.evt.seq.put g seq, pending } }
    (s.modPort n fun p => { p with lastRead := p.lastRead.put g { seq, bits, fired := 0 } }).serve n bits.toNat

/-- EVT_STAT_READ (R426). -/
def execEvtStatRead (t port group : Nat) (s : State) : Host.Outcome State Fault Refusal :=
  .next (s.onPort t port (evtStatRead port group))

/-- A write to EVT_SEQg (R427). -/
def evtSeqWrite (n g : Nat) (v : BitVec 32) (s : State) : State :=
  match (s.port n).lastRead.find g with
  | none => s
  | some r =>
    if g < 32 && s.evt.sequenced g && v.setWidth 16 = r.seq then
      { s with evt := { s.evt with pending := clearBits s.evt.pending g (r.bits &&& ~~~r.fired) } }
    else s

/-- EVT_SEQ_WRITE (R427). -/
def execEvtSeqWrite (t port group : Nat) (value : BitVec 32) (s : State) : Host.Outcome State Fault Refusal :=
  .next (s.onPort t port (evtSeqWrite port group value))

/-- A write to EVT_CTRL (R412, R428). -/
def evtCtrlWrite (v : BitVec 32) (s : State) : State := { s with evt := { s.evt with enable := v.getLsbD 0 } }

/-- EVT_CTRL_WRITE (R428). -/
def execEvtCtrlWrite (t port : Nat) (value : BitVec 32) (s : State) : Host.Outcome State Fault Refusal :=
  .next (s.onPort t port (evtCtrlWrite value))

/-- A read of EVT_CTRL (R425). -/
def evtCtrlRead (n : Nat) (s : State) : State :=
  let v := bit s.evt.enable + 256 * bit s.evt.whileOn
  { s with evt := { s.evt with whileOn := false } }.serve n v

/-- EVT_CTRL_READ (R425). -/
def execEvtCtrlRead (t port : Nat) (s : State) : Host.Outcome State Fault Refusal := .next (s.onPort t port (evtCtrlRead port))

/-- A write to EVT_MODE (R412, R429). -/
def evtModeWrite (v : BitVec 32) (s : State) : State :=
  if !s.evt.enable then { s with evt := { s.evt with mode := v } }
  else if v = s.evt.mode then s
  else { s with evt := { s.evt with whileOn := true } }.fire 651 1 0

/-- EVT_MODE_WRITE (R412). -/
def execEvtModeWrite (t port : Nat) (value : BitVec 32) (s : State) : Host.Outcome State Fault Refusal :=
  .next (s.onPort t port (evtModeWrite value))

/-- HP_IRQ_Nk is asserted (R428). -/
def State.irqLine (s : State) (k : Nat) : Bool :=
  !s.irqKick && s.evt.enable && (List.range 1024).any fun e => s.evt.pending.getLsbD e && (Tab.get s.evt.route 0 k).getLsbD (s.owner e)

/-! ## The RTC copy (R413, R414) -/

/-- The four words of the RTC copy, `age` units of 2^-24 s old (R414). -/
def State.rtcCopy (s : State) (age : Nat) (frozen : Bool) : List (BitVec 32) :=
  let age := Nat.min age 511
  let v := s.stamp - age
  [BitVec.ofNat 32 v, BitVec.ofNat 32 (v / 2 ^ 32),
   BitVec.ofNat 32 (bit s.trusted + 2 * s.time.source + 8 * bit frozen + 2 ^ 16 * age),
   BitVec.ofNat 32 (bit s.time.alarmOn + 2 * bit s.time.periodicOn + 4 * s.time.periodicK)]

/-- A read of RTC_LO (R414). -/
def rtcLoRead (n age : Nat) (s : State) : State :=
  let w := s.rtcCopy age true
  (s.modPort n fun p => { p with frozen := true, shadow := w }).serve n (w.getD 0 0).toNat

/-- RTC_LO_READ (R414). -/
def execRtcLoRead (t port age : Nat) (s : State) : Host.Outcome State Fault Refusal := .next (s.onPort t port (rtcLoRead port age))

/-- A read of RTC_WAKE (R414): the shadow where it is frozen, else the live copy. -/
def rtcWakeRead (n : Nat) (s : State) : State :=
  let p := s.port n
  let v := if p.frozen then p.shadow.getD 3 0 else (s.rtcCopy 0 false).getD 3 0
  (s.modPort n fun p => { p with frozen := false }).serve n v.toNat

/-- RTC_WAKE_READ (R414). -/
def execRtcWakeRead (t port : Nat) (s : State) : Host.Outcome State Fault Refusal := .next (s.onPort t port (rtcWakeRead port))

/-! ## Status registers that a read clears -/

/-- A read of HPT_SLSTATn (R348). -/
def slstatRead (n sl : Nat) (s : State) : State :=
  if 32 ≤ sl then s
  else
    let x := s.sluice sl
    let v := x.epoch.toNat + 2 ^ 16 * (s.heldBy sl).length + 2 ^ 25 * bit x.staleDb + 2 ^ 26 * bit x.overrun + 2 ^ 27 * bit (!x.waiting.isEmpty)
    (s.modSluice sl fun x => { x with staleDb := false, overrun := false }).serve n v

/-- HPT_SLSTAT_READ (R348). -/
def execHptSlstatRead (t port sluice : Nat) (s : State) : Host.Outcome State Fault Refusal := .next (s.onPort t port (slstatRead port sluice))

/-- A read of HPT_STATn on a port (R407). -/
def statRead (port n : Nat) (s : State) : State :=
  if 2 ≤ n then s
  else
    let p := s.port n
    let v := bit p.badInstr + 2 * bit p.unaligned + 4 * bit p.cross + 8 * bit p.partialWord + 16 * bit p.blocked
    (s.modPort n fun p =>
      { p with badInstr := false, unaligned := false, cross := false, partialWord := false, blocked := false }).serve port v

/-- HPT_STAT_READ (R407). -/
def execHptStatRead (t port n : Nat) (s : State) : Host.Outcome State Fault Refusal := .next (s.onPort t port (statRead port n))

/-- A read of SYS_OCC_STATS (R48). -/
def occStatsRead (n : Nat) (s : State) : State :=
  let v := s.fab.avg % 2048 + 2 ^ 16 * s.fab.peak
  { s with fab := { s.fab with peak := 0 } }.serve n v

/-- SYS_OCC_STATS_READ (R48). -/
def execSysOccStatsRead (t port : Nat) (s : State) : Host.Outcome State Fault Refusal := .next (s.onPort t port (occStatsRead port))

/-! ## The parity test block (R416) -/

/-- A write to PAR_CTRL (R412). -/
def parCtrlWrite (v : BitVec 32) (s : State) : State :=
  let bank := BitVec.extractLsb' 1 2 v
  if !s.par.enable then { s with par := { s.par with bank, enable := v.getLsbD 0 } }
  else
    let t := { s with par := { s.par with enable := v.getLsbD 0 } }
    if bank = s.par.bank then t else { t with par := { t.par with whileOn := true } }.fire 651 1 0

/-- PAR_CTRL_WRITE (R412). -/
def execParCtrlWrite (t port : Nat) (value : BitVec 32) (s : State) : Host.Outcome State Fault Refusal :=
  .next (s.onPort t port (parCtrlWrite value))

/-- The odd parity bit of a byte. -/
def parityBit (b : Byte) : Bool := ((List.range 8).filter fun i => b.getLsbD i).length % 2 = 0

/-- The parity bits of a word's bytes. -/
def parityOf (w : BitVec 32) : BitVec 4 :=
  BitVec.ofNat 4 (maskOf ((List.range 4).filter fun i => parityBit (BitVec.extractLsb' (8 * i) 8 w)))

/-- The test-row word `i` of the selected bank; a word never written holds zero with right parity (log 14). -/
def Par.row (p : Par) (i : Nat) : BitVec 32 × BitVec 4 := p.rows.get (0, 0xF) (p.bank.toNat * 256 + i)

/-- An operation of PAR_OP starts: it needs test mode, and is ignored with OVERLAP while another runs. -/
def parStart (op : Nat) (f : Par → Par) (s : State) : State :=
  if !s.par.enable then s
  else if s.par.op.isSome then { s with par := { s.par with overlap := true } }
  else { s with par := { f s.par with op := some op } }

/-- A raw write of PAR_DATA and PAR_CHK. -/
def Par.rawWrite (p : Par) : Par := { p with rows := p.rows.put (p.bank.toNat * 256 + p.word.toNat) (p.data, p.chk) }

/-- A raw read into PAR_DATA and PAR_CHK. -/
def Par.rawRead (p : Par) : Par := { p with data := (p.row p.word.toNat).1, chk := (p.row p.word.toNat).2 }

/-- A checked read: the data as stored, ERR and the bytes in error. -/
def Par.checkedRead (p : Par) : Par :=
  let (d, c) := p.row p.word.toNat
  let bad := parityOf d ^^^ c
  { p with data := d, err := p.err || bad != 0, errBytes := bad }

/-- Words of the test row in error. -/
def Par.badWords (p : Par) : Nat := ((List.range 256).filter fun i => parityOf (p.row i).1 != (p.row i).2).length

/-- A scrub pass over the test row; all 256 words in error do not fit SCRUB_ERR, which is then a free value. -/
def Par.scrub (p : Par) (free : Nat) : Par :=
  let n := p.badWords
  { p with err := p.err || n != 0, scrubErr := if n < 256 then n else free % 256 }

/-- PAR_RAW_WRITE (R416). -/
def execParRawWrite (t port : Nat) (s : State) : Host.Outcome State Fault Refusal := .next (s.onPort t port (parStart 1 Par.rawWrite))
/-- PAR_RAW_READ (R416). -/
def execParRawRead (t port : Nat) (s : State) : Host.Outcome State Fault Refusal := .next (s.onPort t port (parStart 2 Par.rawRead))
/-- PAR_CHECKED_READ (R416). -/
def execParCheckedRead (t port : Nat) (s : State) : Host.Outcome State Fault Refusal := .next (s.onPort t port (parStart 3 Par.checkedRead))

/-- PAR_SCRUB_PASS (R416). -/
def execParScrubPass (t port : Nat) (s : State) : Host.Outcome State Fault Refusal :=
  .next (s.onPort t port fun s => let (v, s) := s.draw; parStart 4 (fun p => p.scrub v) s)

/-- A write to PAR_OP by its value (R416). -/
def parOpWrite (v : BitVec 32) (s : State) : State :=
  let op := v.toNat % 8
  if s.par.enable && s.par.op.isSome then { s with par := { s.par with overlap := true } }
  else if op = 1 then parStart 1 Par.rawWrite s
  else if op = 2 then parStart 2 Par.rawRead s
  else if op = 3 then parStart 3 Par.checkedRead s
  else if op = 4 then (let (x, s) := s.draw; parStart 4 (fun p => p.scrub x) s)
  else s

/-- PAR_OP_OVERLAP (R416, R429): a write to PAR_OP, which is ignored while BUSY. -/
def execParOpOverlap (t port : Nat) (value : BitVec 32) (s : State) : Host.Outcome State Fault Refusal :=
  .next (s.onPort t port (parOpWrite value))

/-- PAR_OPERATION_COMPLETE (R416). -/
def execParOperationComplete (t : Nat) (s : State) : Host.Outcome State Fault Refusal :=
  let s := s.advance t
  .next { s with par := { s.par with op := none } }

/-- A read of PAR_STAT (R416). -/
def parStatRead (n : Nat) (s : State) : State :=
  let p := s.par
  let v := bit p.op.isSome + 2 * bit p.err + 4 * p.errBytes.toNat + 64 * bit p.overlap + 256 * bit p.whileOn + 2 ^ 16 * p.scrubErr
  { s with par := { p with err := false, errBytes := 0, overlap := false, whileOn := false, scrubErr := 0 } }.serve n v

/-- PAR_STAT_READ (R416). -/
def execParStatRead (t port : Nat) (s : State) : Host.Outcome State Fault Refusal := .next (s.onPort t port (parStatRead port))

/-! ## Wheel blocks (R417 to R419) -/

/-- The fields of WHL_TEST_CFG. -/
def WheelTest.cfg (x : WheelTest) : BitVec 16 :=
  BitVec.ofNat 16 (x.spokes.toNat + 2 ^ 8 * bit x.jockey + 2 ^ 9 * bit x.refcap + 2 ^ 10 * bit x.mod + 2 ^ 11 * bit x.open_ + 2 ^ 12 * x.bias.toNat)

/-- WHL_TEST_CFG with its fields written. -/
def WheelTest.setCfg (x : WheelTest) (v : BitVec 32) : WheelTest :=
  { x with
    spokes := v.setWidth 8, jockey := v.getLsbD 8, refcap := v.getLsbD 9, mod := v.getLsbD 10, open_ := v.getLsbD 11
    bias := BitVec.extractLsb' 12 4 v }

/-- A write to WHL_TEST_CFG of wheel `w` (R412). -/
def testCfgWrite (w : Nat) (v : BitVec 32) (s : State) : State :=
  if 16 ≤ w then s
  else
    let x := (s.wheel w).test
    if !x.enable then s.modWheel w fun y => { y with test := y.test.setCfg v }
    else if x.cfg = v.setWidth 16 then s
    else (s.modWheel w fun y => { y with test := { y.test with whileOn := true } }).wheelEvent w 8 0

/-- WHL_TEST_CFG_WRITE (R412). -/
def execWhlTestCfgWrite (t port wheel : Nat) (value : BitVec 32) (s : State) : Host.Outcome State Fault Refusal :=
  .next (s.onPort t port (testCfgWrite wheel value))

/-- A wheel is free for test (R418). -/
def State.testFree (s : State) (w : Nat) : Bool := s.domOn (wheelDom w) && !s.needed (wheelDom w)

/-- WHL_TEST_CTRL.ENABLE rises (R418): a free wheel tests for 32 cadences from the next boundary, else ABORTED is set. -/
def testStart (w : Nat) (s : State) : State :=
  if 16 ≤ w || (s.wheel w).test.enable then s
  else if s.testFree w then s.modWheel w fun y => { y with test := { y.test with enable := true, startAt := some (s.b + 1) } }
  else s.modWheel w fun y => { y with test := { y.test with enable := true, aborted := true } }

/-- WHL_TEST_CTRL.ENABLE is written 0 (R417). -/
def testClear (w : Nat) (s : State) : State :=
  if 16 ≤ w then s else s.modWheel w fun y => { y with test := { y.test with enable := false, done := false, aborted := false } }

/-- A write to WHL_TEST_CTRL. -/
def testCtrlWrite (w : Nat) (v : BitVec 32) (s : State) : State := if v.getLsbD 0 then testStart w s else testClear w s

/-- WHEEL_TEST_START (R418). -/
def execWheelTestStart (t port wheel : Nat) (s : State) : Host.Outcome State Fault Refusal := .next (s.onPort t port (testStart wheel))
/-- WHEEL_TEST_CLEAR (R417). -/
def execWheelTestClear (t port wheel : Nat) (s : State) : Host.Outcome State Fault Refusal := .next (s.onPort t port (testClear wheel))

/-- A read of WHL_TEST_CTRL (R417). -/
def testCtrlRead (n w : Nat) (s : State) : State :=
  if 16 ≤ w then s
  else
    let x := (s.wheel w).test
    let v := bit x.enable + 2 * bit x.done + 4 * bit x.aborted + 256 * bit x.whileOn
    (s.modWheel w fun y => { y with test := { y.test with whileOn := false } }).serve n v

/-- WHL_TEST_CTRL_READ (R417). -/
def execWhlTestCtrlRead (t port wheel : Nat) (s : State) : Host.Outcome State Fault Refusal := .next (s.onPort t port (testCtrlRead port wheel))

/-- The end of a test: the epochs of the wheel and its slices advance, and all nine slices are stale and pass wheel probation (R418). -/
def testEnd (w : Nat) (f : WheelTest → WheelTest) (s : State) : State :=
  let s := (s.modWheel w fun x =>
    overTo 9 (fun x k => x.modSlice k fun y => { y with epoch := y.epoch + 1, stale := true })
      { x with test := { f x.test with startAt := none }, engEpoch := x.engEpoch + 1, engRetained := some (x.engEpoch + 1) }).bumpDom (wheelDom w)
  if s.domOn (wheelDom w) && (s.wheel w).settled then startProbation w s else s

/-- A test that has run its 32 cadences ends with results (R418). -/
def testDone (w : Nat) (r : TestIn) (s : State) : State :=
  match (s.wheel w).test.startAt with
  | none => s
  | some b =>
    if b + 32 ≤ s.b then
      testEnd w (fun x => { x with done := true, pass := r.pass, refcapOk := r.refcapOk, openFound := r.openFound }) s
    else s

/-- WHEEL_TEST_DONE (R418). -/
def execWheelTestDone (wheel : Nat) (r : TestIn) (s : State) : Host.Outcome State Fault Refusal := .next (testDone wheel r s)

/-- A claim or a vote that arises during a test, or the loss of the ON state, ends it with ABORTED (R418). -/
def testAbortPass (s : State) : State :=
  overTo 16 (fun s w =>
    if (s.wheel w).test.startAt.isSome && !s.testFree w then testEnd w (fun x => { x with aborted := true }) s else s) s

/-- A write to the broadcast window (R419). -/
def broadcastWrite (offset : Nat) (v : BitVec 32) (s : State) : State :=
  overTo 16 (fun s w =>
    if !s.bc.mask.getLsbD w then s
    else if offset = 0x40 then testCfgWrite w v s
    else if offset = 0x44 then testCtrlWrite w v s
    else s) s

/-- BROADCAST_WRITE (R419). -/
def execBroadcastWrite (t port offset : Nat) (value : BitVec 32) (s : State) : Host.Outcome State Fault Refusal :=
  .next (s.onPort t port (broadcastWrite offset value))

/-- A read from the broadcast window (R419). -/
def broadcastRead (n : Nat) (s : State) : State := { s with bc := { s.bc with bcastRead := true } }.serve n 0

/-- BROADCAST_READ (R419). -/
def execBroadcastRead (t port offset : Nat) (s : State) : Host.Outcome State Fault Refusal :=
  .next (s.onPort t port fun s => if offset < 0x400 then broadcastRead port s else s)

/-- A read of WHL_BSTAT (R419). -/
def bstatRead (n : Nat) (s : State) : State := { s with bc := { s.bc with bcastRead := false } }.serve n (bit s.bc.bcastRead)

/-- WHL_BSTAT_READ (R419). -/
def execWhlBstatRead (t port : Nat) (s : State) : Host.Outcome State Fault Refusal := .next (s.onPort t port (bstatRead port))

end Sys2Proof.Machine
end

