-- ==== Sys2Proof/Machine/Pq.lean ====
section
/-! DEFINITION. The power-quality engine: half-cycle values, windows and aggregates, dips, swells and interruptions, unbalance, and the
result areas it writes (08). -/
namespace Sys2Proof.Machine

/-! ## Settings and records -/

/-- The power-quality record of channel `c`. -/
def State.pqRec (s : State) (c : Nat) : PqRec := s.pq.recs.get PqRec.reset c

/-- The state with the power-quality record of channel `c` changed. -/
def State.modPq (s : State) (c : Nat) (f : PqRec → PqRec) : State :=
  { s with pq := { s.pq with recs := s.pq.recs.put c (f (s.pqRec c)) } }

/-- The unbalance record of meter `m`. -/
def State.unbRec (s : State) (m : Nat) : UnbRec := s.pq.unb.get UnbRec.reset m

/-- The state with the unbalance record of meter `m` changed. -/
def State.modUnb (s : State) (m : Nat) (f : UnbRec → UnbRec) : State :=
  { s with pq := { s.pq with unb := s.pq.unb.put m (f (s.unbRec m)) } }

/-- The holder of a channel's power-quality function (R229). -/
def State.pqHolder (s : State) (c : Nat) : Nat := holder s fun p => p.pqCh.getLsbD c

/-- The engine measures the channel: enabled, and PQE ON or finishing what is in flight (R101). -/
def State.pqActive (s : State) (c : Nat) : Bool :=
  decide (c < 128) && (s.pqRec c).cfg.enable && (s.domOn 12 || (s.dom 12).state == .draining)

/-- Cycles per window, C (R230). -/
def PqCfg.cycles (c : PqCfg) : Nat := if c.fNom = 0 then 10 else 12

/-- A nominal half-period, 2^-24 s (R232). -/
def PqCfg.half (c : PqCfg) : Nat := roundDiv (2 ^ 24) (if c.fNom = 0 then 100 else 120)

/-- A nominal half-period in fine samples (R232). -/
def PqCfg.halfSamples (c : PqCfg) : Rat := 16000 / (if c.fNom = 0 then 100 else 120)

/-- 200 ms in fine samples (R233). -/
def windowSpan : Rat := 3200

/-- A cycle, in fine samples, is valid when its length is 10.0 to 70.0 ms (R231). -/
def validCycle (a b : Rat) : Bool := 160 ≤ b - a && b - a ≤ 1120

/-- What the lateness of a result adds to its PQFLAGS: it ends at the instant `t` of fine samples, in cadence n, and is due at B(n+1) + 4.000 ms;
LATE up to one cadence later, NOT_COMPUTED beyond (R61, R247). -/
def State.lateFlags (s : State) (t : Rat) : BitVec 32 :=
  let due := ((t / 128).floor.toNat + 1) * cadenceClocks + 196608
  if s.now ≤ due then 0 else if s.now ≤ due + cadenceClocks then 0x200 else 0x100

/-- PQFLAGS with the bits a state of the device adds: CLOCK_UNTRUSTED (R250). -/
def State.pqFlags (s : State) (f : BitVec 32) : BitVec 32 := if s.trusted then f else f ||| 0x800

/-- NO_SYNC (R250). -/
def noSync : BitVec 32 := 0x20

/-- The START of the earliest open event; zero where none is open or its start is unknown: an event whose condition held when detection
began is earlier than any other (R248). -/
def PqRec.openStart (r : PqRec) : Nat :=
  if r.open_.any fun e => e.2.start.isNone then 0
  else ((r.open_.filterMap fun e => e.2.start).mergeSort fun a b => decide (a ≤ b)).headD 0

/-- Aperture address of the record of channel `c` (R245). -/
def pqAddr (c : Nat) : Nat := 0x014C0000 + c * 0x1000

/-- The fixed fields and HC_SEQ, 64 bytes (R248). -/
def pqFixed (s : State) (c : Nat) : List Byte :=
  let r := s.pqRec c
  let isOpen (k : Nat) : Nat := bit (Tab.find r.open_ k).isSome
  leBytes 1 c ++ leBytes 1 (s.pqHolder c) ++ leBytes 1 (s.pqRec c).cfg.kind ++ leBytes 1 (isOpen 1 + 2 * isOpen 2 + 4 * isOpen 3) ++ zeros 4
    ++ leBytes 8 r.openStart ++ leBytes 4 (f32 r.freq10).toNat ++ leBytes 4 r.freq10Flags.toNat ++ leBytes 8 r.freq10Start
    ++ leBytes 4 r.dips.toNat ++ leBytes 4 r.swells.toNat ++ leBytes 4 r.intrs.toNat ++ leBytes 4 r.orphans.toNat
    ++ leBytes 8 r.hcSeq ++ zeros 8

/-- The fixed fields of channel `c` are written (R248). -/
def writeFixed (c : Nat) (s : State) : State := { s with mem := s.mem.writeAll (pqAddr c) (pqFixed s c) }

/-- The 16 bytes of a half-cycle value (R248). -/
def HcVal.bytes (v : HcVal) : List Byte := leBytes 8 v.at_ ++ leBytes 4 (f32root v.sq).toNat ++ leBytes 4 v.flags.toNat

/-- 64 float32 square roots. -/
def roots64 (l : List Rat) : List Byte := (List.range 64).flatMap fun h => leBytes 4 (f32root (l.getD h 0)).toNat

/-- The 1,152 bytes of a window record (R249). -/
def WinRec.bytes (w : WinRec) : List Byte :=
  leBytes 8 w.seq ++ leBytes 8 w.start ++ leBytes 8 w.end_ ++ leBytes 4 w.flags.toNat ++ leBytes 4 (f32root w.rmsSq).toNat
    ++ leBytes 4 (f32 w.freq).toNat ++ leBytes 4 (f32root w.thdSq).toNat ++ leBytes 4 w.count ++ zeros 20
    ++ roots64 w.hg ++ roots64 w.hsg ++ roots64 w.ig ++ roots64 w.isg ++ zeros 64

/-- The 576 bytes of an aggregate record (R249). -/
def WinRec.aggBytes (w : WinRec) : List Byte :=
  leBytes 8 w.seq ++ leBytes 8 w.start ++ leBytes 8 w.end_ ++ leBytes 4 w.flags.toNat ++ leBytes 4 (f32root w.rmsSq).toNat
    ++ leBytes 4 w.count ++ leBytes 4 (f32root w.thdSq).toNat ++ zeros 24 ++ roots64 w.hsg ++ roots64 w.isg

/-! ## Harmonic groups (R236, R237) -/

/-- The squared bin `k`. -/
def binSq (bins : List Rat) (k : Int) : Rat := if k < 0 then 0 else bins.getD k.toNat 0

/-- The sum of squared bins Ch + i for i from `a` to `b`. -/
def binSum (bins : List Rat) (centre a b : Int) : Rat :=
  sumRat ((List.range (b - a + 1).toNat).map fun (n : Nat) => binSq bins (centre + a + (n : Int)))

/-- The squared group or subgroup of order h: kind 0 harmonic group, 1 harmonic subgroup, 2 interharmonic group, 3 its centred
subgroup; `f`: the fundamental frequency (R236). -/
def groupSq (kind C : Nat) (f : Rat) (bins : List Rat) (h : Nat) : Rat :=
  if 4000 < (h : Rat) * f then 0
  else
    let c : Int := C
    let x : Int := c * (h : Int)
    match kind with
    | 0 => if h = 0 then binSq bins 0
        else binSq bins (x - c / 2) / 2 + binSum bins x (1 - c / 2) (c / 2 - 1) + binSq bins (x + c / 2) / 2
    | 1 => if h = 0 then binSq bins 0 else binSum bins x (-1) 1
    | 2 => binSum bins x 1 (c - 1)
    | _ => binSum bins x 2 (c - 2)

/-- The square of THD from squared subgroups, over orders 2 to 63, or to 40 under H41_NOT_COMPUTED; a subgroup 1 of zero leaves it
unstated: a free value (R237). -/
def thdSq (h41 : Bool) (hsg : List Rat) (s : State) : Rat × State :=
  let top := sumRat ((List.range (if h41 then 39 else 62)).map fun i => hsg.getD (i + 2) 0)
  let one := hsg.getD 1 0
  if one = 0 then let (v, s) := s.draw; ((v : Rat), s) else (top / one, s)

/-- Squared values with orders 41 to 63 at zero. -/
def cut41 (l : List Rat) : List Rat := (List.range 64).map fun h => if 40 < h then 0 else l.getD h 0

/-! ## Event rings and events (R241 to R244, R252) -/

/-- The 64 bytes of an event-ring entry (R252). -/
def RingEntry.bytes (e : RingEntry) : List Byte :=
  leBytes 8 e.seq ++ leBytes 8 e.start ++ leBytes 8 e.stop ++ leBytes 8 e.duration ++ leBytes 1 e.kind ++ leBytes 1 e.scope
    ++ leBytes 1 e.source ++ leBytes 1 e.slots.toNat ++ leBytes 4 e.eflags.toNat ++ leBytes 4 (f32root e.extreme).toNat
    ++ leBytes 4 (f32root e.extremeRel).toNat ++ leBytes 8 e.extremeAt ++ zeros 8

/-- A closed event goes to the ring of polder `p` (R252); its SEQ. -/
def ringAdd (p : Nat) (e : RingEntry) (s : State) : State × Nat :=
  let r := s.pq.rings.get Ring.reset p
  let e := { e with seq := r.seq + 1 }
  let a := 0x01544000 + p * 0x2000
  let mem := (s.mem.writeAll (a + 64 * (1 + r.seq % 127)) e.bytes).writeAll a (leBytes 8 e.seq)
  ({ s with mem := mem, pq := { s.pq with rings := s.pq.rings.put p { seq := e.seq, entries := (e :: r.entries).take 127 } } }, e.seq)

/-- U² against a threshold in 0.01 % of UDIN: sign of the difference. -/
def PqCfg.below (c : PqCfg) (n : Int) (sq : Rat) : Bool :=
  let t := ((n : Rat) / 10000) * ((f32Val c.udin).getD 0)
  decide (sq < t * t)
/-- U² exceeds a threshold. -/
def PqCfg.above (c : PqCfg) (n : Int) (sq : Rat) : Bool :=
  let t := ((n : Rat) / 10000) * ((f32Val c.udin).getD 0)
  decide (t * t < sq)

/-- The condition that starts an event of kind 1 dip, 2 swell, 3 interruption (R241). -/
def PqCfg.starts (c : PqCfg) (kind : Nat) (sq : Rat) : Bool :=
  if kind = 1 then c.below c.dip sq else if kind = 2 then c.above c.swell sq else c.below c.intr sq

/-- The condition that ends it (R241). -/
def PqCfg.ends (c : PqCfg) (kind : Nat) (sq : Rat) : Bool :=
  if kind = 1 then !c.below ((c.dip : Int) + (c.hyst : Int)) sq
  else if kind = 2 then !c.above ((c.swell : Int) - (c.hyst : Int)) sq
  else !c.below ((c.intr : Int) + (c.hyst : Int)) sq

/-- The value `x` is more extreme for an event of that kind. -/
def moreExtreme (kind : Nat) (old x : Rat) : Bool := if kind = 2 then decide (old < x) else decide (x < old)

/-- A value joins an open event (R241); the EFLAGS NO_SYNC, LOST and CLOCK_UNTRUSTED follow its flags. -/
def OpenEvent.value (e : OpenEvent) (kind : Nat) (sq rel : Rat) (at_ : Nat) (flags : BitVec 32) : OpenEvent :=
  let f : BitVec 32 := BitVec.ofNat 32 (8 * bit (flags.getLsbD 5) + 16 * bit (flags.getLsbD 0) + 32 * bit (flags.getLsbD 11))
  let e := { e with eflags := e.eflags ||| f }
  if moreExtreme kind e.extreme sq then { e with extreme := sq, rel, extremeAt := at_ } else e

/-- The record of a closed event (R243). -/
def OpenEvent.record (e : OpenEvent) (kind scope source stop half : Nat) (truncated : Bool) : RingEntry :=
  let start := e.start.getD 0
  let orphan := e.start.isNone
  let sub := !orphan && decide (stop < start + half)
  { seq := 0, start, kind, scope, source
    stop := if sub then start else stop
    duration := if orphan || sub then 0 else stop - start
    slots := if scope = 1 then e.slots.setWidth 8 else 0
    eflags := e.eflags ||| BitVec.ofNat 32 (bit sub + 2 * bit orphan + 4 * bit truncated)
    extreme := e.extreme, extremeRel := e.rel, extremeAt := e.extremeAt }

/-- The last published window takes EVENT where it overlaps a counted or open event that began at `start` (R244). -/
def markWindow (c start : Nat) (s : State) : State :=
  match (s.pqRec c).wins with
  | w :: rest =>
    if start < w.end_ && !w.flags.getLsbD 4 then
      let v := { w with flags := w.flags ||| 0x10 }
      let upd (l : List WinRec) : List WinRec := l.map fun x => if x.seq = w.seq then v else x
      let s := s.modPq c fun r => { r with wins := v :: rest, held150 := upd r.held150, held10 := upd r.held10 }
      { s with mem := s.mem.writeAll (pqAddr c + (if w.seq % 2 = 0 then 0x140 else 0x5C0)) v.bytes }
    else s
  | [] => s

/-- Meters with unbalance enabled and the voltage slot of theirs that channel `c` is (R242): the three voltages of type 2, the two of
type 3. -/
def State.unbSlots (s : State) (c : Nat) : List (Nat × Nat) :=
  (s.mtr.filter fun e => e.2.unbOn && e.2.state != .undefined).flatMap fun e =>
    ((List.range 3).filter fun k => e.2.def_.vSlot.getD k 0xFF = c).map fun k => (e.1, k)

/-- The voltage slots of a meter that unbalance uses, as a mask. -/
def slotMask (d : MeterDefine) : BitVec 4 := BitVec.ofNat 4 (maskOf ((List.range 3).filter fun k => decide (d.vSlot.getD k 0xFF < 128)))

/-- Triggers of a channel's event: every capture of the holder that names the channel and selects the kind (R254). -/
def channelTrigger (c kind t : Nat) (s : State) : State := triggerAll (s.pqHolder c) t kind c (fun x => x.names false c) s

/-- Triggers of a meter's event; a capture that also names the channel `by_`, whose own event has just triggered it, is triggered once (R254,
R263). -/
def meterTrigger (m kind t : Nat) (by_ : Option Nat) (s : State) : State :=
  triggerAll (s.meter m).def_.owner t kind m (fun x => x.names true m && !by_.any (x.names false)) s

/-- The earlier of two starts; unknown where one is. -/
def earlier (a b : Option Nat) : Option Nat := a.bind fun x => b.map fun y => Nat.min x y

/-- A channel's event of a kind starts: the meters whose slot it is follow (R242). -/
def meterStart (c kind : Nat) (e : OpenEvent) (s : State) : State :=
  (s.unbSlots c).foldl (fun s (m, k) =>
    let u := s.unbRec m
    let d := (s.meter m).def_
    let open0 := u.slotsOpen.get 0 kind ||| (1#4 <<< k)
    let s := s.modUnb m fun u => { u with slotsOpen := u.slotsOpen.put kind open0 }
    match u.open_.find kind with
    | some x =>
      s.modUnb m fun u => { u with open_ := u.open_.put kind { x with slots := x.slots ||| (1#4 <<< k), start := earlier x.start e.start } }
    | none =>
      if kind ≠ 3 then
        (s.modUnb m fun u => { u with open_ := u.open_.put kind { e with slots := 1#4 <<< k } })
          |> fun s => match e.start with
            | some t => meterTrigger m (2 * kind - 1) t (some c) s
            | none => s
      else if open0 = slotMask d then
        let starts := ((List.range 3).filter fun j => (slotMask d).getLsbD j).map fun j =>
          ((s.pqRec (d.vSlot.getD j 0)).open_.find 3).bind (·.start)
        let first := starts.foldl earlier e.start
        let s := s.modUnb m fun u => { u with open_ := u.open_.put kind { e with slots := open0, start := first } }
        match first with
          | some t => meterTrigger m 5 t (some c) s
          | none => s
      else s) s

/-- A value of a slot joins the open events of its meters. -/
def meterValue (c : Nat) (sq rel : Rat) (at_ : Nat) (flags : BitVec 32) (s : State) : State :=
  (s.unbSlots c).foldl (fun s (m, k) =>
    s.modUnb m fun u => { u with open_ := u.open_.map fun (kind, e) =>
      (kind, if e.slots.getLsbD k then e.value kind sq rel at_ flags else e) }) s

/-- A channel's event of a kind ends at `stop`: a meter's ends with its last slot, an interruption with its first (R242); `orphan`: the channel's
own end was no trigger. -/
def meterEnd (c kind stop : Nat) (truncated orphan : Bool) (s : State) : State :=
  (s.unbSlots c).foldl (fun s (m, k) =>
    let u := s.unbRec m
    let left := u.slotsOpen.get 0 kind &&& ~~~(1#4 <<< k)
    let s := s.modUnb m fun u => { u with slotsOpen := u.slotsOpen.put kind left }
    match u.open_.find kind with
    | some e =>
      if kind = 3 || left = 0 then
        let entry := e.record kind 1 m stop (s.pqRec c).cfg.half truncated
        let s := s.modUnb m fun u => { u with open_ := u.open_.erase kind }
        let (s, _) := ringAdd (s.meter m).def_.owner entry s
        if e.start.isNone then s else meterTrigger m (2 * kind) entry.stop (if orphan then none else some c) s
      else s
    | none => s) s

/-- An event of channel `c` starts with the value of a window that began at `start`; none: it began before detection (R241, R243). -/
def eventStart (c kind : Nat) (start : Option Nat) (sq rel : Rat) (at_ : Nat) (flags : BitVec 32) (s : State) : State :=
  let e := OpenEvent.value ⟨start, sq, rel, at_, 0, 0⟩ kind sq rel at_ flags
  let s := s.modPq c fun r => { r with open_ := r.open_.put kind e }
  let s := match start with
    | some t => channelTrigger c (2 * kind - 1) t ((markWindow c t s).fireAt (128 + c) (2 * kind - 1) 0 t)
    | none => s
  meterStart c kind e s

/-- An open event of channel `c` closes at `stop`: its entry, its counter, its source and trigger (R241 to R244). -/
def eventEnd (c kind stop : Nat) (truncated : Bool) (s : State) : State :=
  match (s.pqRec c).open_.find kind with
  | none => s
  | some e =>
    let entry := e.record kind 0 c stop (s.pqRec c).cfg.half truncated
    let orphan := e.start.isNone
    let (s, seq) := ringAdd (s.pqHolder c) entry s
    let s := s.modPq c fun r =>
      { r with
        open_ := r.open_.erase kind
        orphans := r.orphans + BitVec.ofNat 32 (bit orphan)
        dips := r.dips + BitVec.ofNat 32 (bit (!orphan && kind = 1))
        swells := r.swells + BitVec.ofNat 32 (bit (!orphan && kind = 2))
        intrs := r.intrs + BitVec.ofNat 32 (bit (!orphan && kind = 3))
        evStop := if orphan then r.evStop else some (Nat.max stop (r.evStop.getD 0)) }
    let s := s.fireAt (128 + c) (2 * kind) (BitVec.ofNat 32 seq) entry.stop
    let s := if orphan then s else channelTrigger c (2 * kind) entry.stop s
    meterEnd c kind stop truncated orphan s

/-- A half-cycle value with a LOST sample marks the events that stay open across it (R243, R252). -/
def markLost (c : Nat) (s : State) : State :=
  let mark (e : OpenEvent) : OpenEvent := { e with eflags := e.eflags ||| 0x10 }
  let s := s.modPq c fun r => { r with open_ := r.open_.map fun (k, e) => (k, mark e) }
  (s.unbSlots c).foldl (fun s (m, k) =>
    s.modUnb m fun u => { u with open_ := u.open_.map fun (kind, e) => (kind, if e.slots.getLsbD k then mark e else e) }) s

/-- A half-cycle value is evaluated (R241, R243). -/
def evaluate (c start at_ : Nat) (sq : Rat) (flags : BitVec 32) (s : State) : State :=
  let cfg := (s.pqRec c).cfg
  let u := (f32Val cfg.udin).getD 0
  let rel := if u = 0 then 0 else sq / (u * u)
  let primed := (s.pqRec c).primed
  let s := [1, 2, 3].foldl (fun s kind =>
    match (s.pqRec c).open_.find kind with
    | none => if cfg.starts kind sq then eventStart c kind (if primed then some start else none) sq rel at_ flags s else s
    | some e =>
      let s := s.modPq c fun r => { r with open_ := r.open_.put kind (e.value kind sq rel at_ flags) }
      if cfg.ends kind sq then eventEnd c kind at_ false s else s) s
  meterValue c sq rel at_ flags (s.modPq c fun r => { r with primed := true, validAt := some at_ })

/-! ## Windows and aggregates (R233 to R238) -/

/-- An aggregate: the root of the mean of the squares, flags ORed, constituents not computed left out (R235); `late`: what its own lateness adds
(R61). One without a computed constituent, or too late, is not computed itself. -/
def aggregate (l : List WinRec) (seq start end_ : Nat) (late : BitVec 32) (s : State) : WinRec × State :=
  let used := if late.getLsbD 8 then [] else l.filter fun w => !w.flags.getLsbD 8
  let mean (f : WinRec → Rat) : Rat := if used.isEmpty then 0 else sumRat (used.map f) / (used.length : Rat)
  let fields (f : WinRec → List Rat) : List Rat := (List.range 64).map fun h => mean fun w => (f w).getD h 0
  let flags := l.foldl (fun a w => a ||| w.flags) late
  let flags := if used.length < 15 then flags ||| 0x400 else flags
  let hsg := fields (·.hsg)
  let (thd, s) := if used.isEmpty then (0, s) else thdSq (flags.getLsbD 7) hsg s
  ({ seq, start, end_, endT := 0, flags, rmsSq := mean (·.rmsSq), freq := 0, count := used.length, thdSq := thd, hg := [], hsg
     ig := [], isg := fields (·.isg) }, s)

/-- Unbalance windows aggregate in the same way (R235). -/
def aggUnb (l : List UnbWin) (f : UnbWin → Rat) : Rat :=
  let used := l.filter fun w => !w.flags.getLsbD 8
  if used.isEmpty then 0 else sumRat (used.map f) / (used.length : Rat)

/-- The channel of voltage slot `k` of a meter. -/
def slotChannelOf (d : MeterDefine) (k : Nat) : Option Nat :=
  let c := d.vSlot.getD k 0xFF
  if c < 128 then some c else none

/-- Meters with unbalance enabled whose V0 is channel `c`. -/
def State.unbMeters (s : State) (c : Nat) : List Nat := ((s.unbSlots c).filter fun x => x.2 = 0).map (·.1)

/-- The unbalance record of meter `m` is written (R251). -/
def writeUnb (m : Nat) (s : State) : State :=
  let u := s.unbRec m
  let f (x : Rat) : List Byte := leBytes 4 (f32root x).toNat
  match u.last with
  | none => s
  | some w =>
    let bs := leBytes 8 w.seq ++ leBytes 8 w.start ++ leBytes 8 w.end_ ++ leBytes 4 w.flags.toNat ++ f w.u2 ++ f w.u0
      ++ f u.u2_150 ++ f u.u2_10 ++ f u.u0_150 ++ f u.u0_10 ++ zeros 12
    { s with mem := s.mem.writeAll (0x01540000 + m * 0x40) bs }

/-- The 150/180-cycle sequence of channel `c` closes with the windows it holds (R234, R235). -/
def close150 (c : Nat) (s : State) : State :=
  let r := s.pqRec c
  match r.held150 with
  | [] => s
  | first :: _ =>
    let last := r.held150.getLast?.getD first
    let (a, s) := aggregate r.held150 (r.agg150Seq + 1) first.start last.end_ (s.lateFlags last.endT) s
    let s := s.modPq c fun r => { r with held150 := [], agg150Seq := a.seq }
    let s := { s with mem := s.mem.writeAll (pqAddr c + 0xA40) a.aggBytes }
    (s.unbMeters c).foldl (fun s m => writeUnb m (s.modUnb m fun u =>
      { u with u2_150 := aggUnb u.held150 (·.u2), u0_150 := aggUnb u.held150 (·.u0), held150 := [] })) s

/-- The 10-minute interval of channel `c` closes (R234, R235). -/
def close10 (c : Nat) (s : State) : State :=
  let r := s.pqRec c
  let late := s.lateFlags ((r.held10.getLast?.map (·.endT)).getD s.fineNow)
  let (a, s) := aggregate r.held10 (r.agg10Seq + 1) r.tenFrom r.tenTo late s
  let s := s.modPq c fun r => { r with held10 := [], agg10Seq := a.seq }
  let s := { s with mem := s.mem.writeAll (pqAddr c + 0xC80) a.aggBytes }
  (s.unbMeters c).foldl (fun s m => writeUnb m (s.modUnb m fun u =>
    { u with u2_10 := aggUnb u.held10 (·.u2), u0_10 := aggUnb u.held10 (·.u0), held10 := [] })) s

/-- The squared magnitude of a phasor. -/
def magSq (x : Rat × Rat) : Rat := x.1 * x.1 + x.2 * x.2

/-- The phasor turned by the k-th power of a = e^(i 120°). -/
def turn (k : Nat) (x : Rat × Rat) : Rat × Rat :=
  let s := sin120
  if k = 0 then x
  else if k = 1 then (-x.1 / 2 - s * x.2, s * x.1 - x.2 / 2)
  else (-x.1 / 2 + s * x.2, -s * x.1 - x.2 / 2)

/-- The sum of three phasors turned by powers of a, over 3. -/
def component (v : List (Rat × Rat)) (k1 k2 k3 : Nat) : Rat × Rat :=
  let t (i k : Nat) := turn k (v.getD i (0, 0))
  (((t 0 k1).1 + (t 1 k2).1 + (t 2 k3).1) / 3, ((t 0 k1).2 + (t 1 k2).2 + (t 2 k3).2) / 3)

/-- The phasors of a meter's voltages over [a, b): the DFT bin `n` of each slot (R238), with the line-to-line voltages of type 3. -/
def State.unbPhasors (s : State) (d : MeterDefine) (n : Nat) (a b : Rat) : List (Rat × Rat) :=
  let slot (k : Nat) : Rat × Rat := match slotChannelOf d k with
    | some c => dftBin (s.resampled c a b) n
    | none => (0, 0)
  if d.type = 3 then
    let x := slot 0
    let y := slot 1
    [x, (-y.1, -y.2), (y.1 - x.1, y.2 - x.2)]
  else [slot 0, slot 1, slot 2]

/-- PQFLAGS that a voltage slot's channel adds to a window [start, end): those of its samples, EVENT of its own events and NO_SYNC of its own
windows (R251). -/
def State.slotFlags (s : State) (c : Nat) (start end_ : Instant) : BitVec 32 :=
  let r := s.pqRec c
  let event := r.open_.any (fun e => e.2.start.any fun t => t < end_.stamp) || r.evStop.any fun t => start.stamp < t
  let noSync := r.wins.any (fun w => w.flags.getLsbD 5 && w.start < end_.stamp && start.stamp < w.end_)
    || r.win.any fun w => w.noSync && w.start.t < end_.t
  sampleFlags (s.partsIn c start.t end_.t) ||| BitVec.ofNat 32 (16 * bit event + 32 * bit noSync)

/-- A window of a meter's V0 channel closes: its unbalance (R238); no positive sequence leaves the ratios unstated. -/
def unbWindow (m : Nat) (w : WinRec) (start end_ : Instant) (cycles : Nat) (ending : Bool) (s : State) : State :=
  let d := (s.meter m).def_
  let type3 := d.type = 3
  let v := s.unbPhasors d cycles start.t end_.t
  let pos := magSq (component v 0 1 2)
  let neg := magSq (component v 0 2 1)
  let zero := if type3 then 0 else magSq (component v 0 0 0)
  let not := w.flags.getLsbD 8
  let (free, s) := if !not && pos = 0 then s.draw else (0, s)
  let ratio (y : Rat) : Rat := if not then 0 else if pos = 0 then (free : Rat) else y / pos
  let others := (List.range 3).foldl (fun (f : BitVec 32) k => match slotChannelOf d k with
    | some c => if k = 0 then f else f ||| s.slotFlags c start end_
    | none => f) 0
  let u : UnbWin := { seq := w.seq, start := w.start, end_ := w.end_, flags := w.flags ||| others, u2 := ratio neg, u0 := if type3 then 0 else ratio zero }
  writeUnb m (s.modUnb m fun r =>
    { r with last := some u, held150 := if ending then r.held150 else r.held150 ++ [u], held10 := r.held10 ++ [u] })

/-- A window of channel `c` closes at `end_` with what the copy holds of it; `ending`: it belongs to the 10-minute interval that is ending and to
no 150/180-cycle sequence; `bad`: it is not computed (R233 to R237, R480). -/
def windowClose (c : Nat) (win : Window) (end_ : Rat) (cycles : Nat) (sync short ending bad : Bool) (s : State) : State :=
  let r := s.pqRec c
  let cfg := win.cfg
  let stop := s.instant end_
  let h41 := 3 ≤ s.fab.shed
  let ih := 2 ≤ s.fab.shed
  let parts := s.partsIn c win.start.t end_
  let late := if bad then 0x100 else s.lateFlags end_
  let not := late.getLsbD 8
  let event := r.open_.any (fun e => e.2.start.any fun t => t < stop.stamp) || r.evStop.any fun t => win.start.stamp < t
  let flags := s.pqFlags (sampleFlags parts ||| late
    ||| BitVec.ofNat 32 (16 * bit event + 32 * bit (!sync) + 64 * bit ih + 128 * bit h41 + 1024 * bit short))
  let f : Rat := if end_ ≤ win.start.t then 0 else (cycles : Rat) * 16000 / (end_ - win.start.t)
  let wanted := !not && (cfg.harm || cfg.iharm)
  let bins := if wanted then spectrum (s.resampled c win.start.t end_) (64 * cfg.cycles + 1) else []
  let group (on : Bool) (kind : Nat) : List Rat :=
    if on && !not then (List.range 64).map (groupSq kind cfg.cycles f bins) else List.replicate 64 0
  let hs (l : List Rat) : List Rat := if h41 then cut41 l else l
  let hsg := hs (group cfg.harm 1)
  let (thd, s) := if not || !cfg.harm then (0, s) else thdSq h41 hsg s
  let w : WinRec := {
    seq := r.winSeq + 1, start := win.start.stamp, end_ := stop.stamp, endT := end_, flags, rmsSq := if not then 0 else s.meanSquare c parts
    freq := if not then 0 else f, count := cycles
    thdSq := thd, hg := hs (group cfg.harm 0), hsg, ig := group (cfg.iharm && !ih) 2, isg := group (cfg.iharm && !ih) 3 }
  let s := if 15 ≤ r.held150.length && !ending then close150 c s else s
  let s := s.modPq c fun r =>
    { r with
      winSeq := w.seq, wins := (w :: r.wins).take 2
      held150 := if ending then r.held150 else r.held150 ++ [w]
      held10 := r.held10 ++ [w] }
  let s := { s with mem := s.mem.writeAll (pqAddr c + (if w.seq % 2 = 0 then 0x140 else 0x5C0)) w.bytes }
  let s := (s.unbMeters c).foldl (fun s m => unbWindow m w win.start stop cfg.cycles ending s) s
  if ending then close10 c s else s

/-- Cycles of a window (R233): its positive crossings, or the nominal cycles that fit it while refreshes are synthetic. -/
def Window.count (w : Window) (end_ : Rat) (n : Nat) : Nat :=
  if w.synth then Nat.min w.cfg.cycles ((end_ - w.start.t) / (2 * w.cfg.halfSamples)).floor.toNat else n

/-- A window begins. -/
def windowOpen (c : Nat) (start : Rat) (synth : Bool) (s : State) : State :=
  let x := s.instant start
  s.modPq c fun r => { r with win := some { start := x, cycles := 0, noSync := synth, synth, cfg := r.cfg } }

/-- A positive crossing at `x`: the window of an ending interval and the window in progress count a cycle (R233, R234). -/
def windowCross (c : Nat) (x : Rat) (s : State) : State :=
  let s := match (s.pqRec c).oldWin with
    | some w =>
      let k := w.count x (w.cycles + 1)
      if w.cycles + 1 = w.cfg.cycles || w.synth then
        windowClose c w x k (!w.noSync) (k < w.cfg.cycles) true false (s.modPq c fun r => { r with oldWin := none })
      else s.modPq c fun r => { r with oldWin := some { w with cycles := w.cycles + 1 } }
    | none => s
  match (s.pqRec c).win with
  | none => windowOpen c x false s
  | some w =>
    let k := w.count x (w.cycles + 1)
    if w.cycles + 1 = w.cfg.cycles || w.synth then
      windowOpen c x false (windowClose c w x k (!w.noSync) (k < w.cfg.cycles) false false s)
    else s.modPq c fun r => { r with win := some { w with cycles := w.cycles + 1 } }

/-- A synthetic refresh at `x`: windows last 200 ms and carry NO_SYNC (R233). -/
def windowSynth (c : Nat) (x : Rat) (s : State) : State :=
  let s := match (s.pqRec c).oldWin with
    | some w =>
      if w.start.t + windowSpan ≤ x then
        windowClose c w (w.start.t + windowSpan) w.cfg.cycles false false true false (s.modPq c fun r => { r with oldWin := none })
      else s.modPq c fun r => { r with oldWin := some { w with noSync := true, synth := true } }
    | none => s
  match (s.pqRec c).win with
  | none => windowOpen c x true s
  | some w =>
    if w.start.t + windowSpan ≤ x then
      let e := w.start.t + windowSpan
      windowOpen c e true (windowClose c w e w.cfg.cycles false false false false s)
    else s.modPq c fun r => { r with win := some { w with noSync := true } }

/-! ## Ticks of the RTC (R234, R235) -/

/-- The 10-minute tick of RTC second `sec` for channel `c`: the sequence of windows closes, and the interval with it unless a window in
progress is still to end (R234). -/
def tick600 (c sec : Nat) (s : State) : State :=
  if (s.pqRec c).tick600 == some sec then s
  else
    let s := close150 c s
    let old := (s.pqRec c).win
    let s := s.modPq c fun r =>
      { r with oldWin := old, win := none, tick600 := some sec, tenFrom := (sec - 600) * 2 ^ 24, tenTo := sec * 2 ^ 24 }
    if old.isSome then s else close10 c s

/-- The 10-second interval that ends at RTC second `sec` closes for channel `c` (R235). -/
def tick10 (c sec : Nat) (s : State) : State :=
  if (s.pqRec c).tick10 == some sec then s
  else
    let upto := sec * 2 ^ 24
    let start := (sec - 10) * 2 ^ 24
    let r := s.pqRec c
    let l := r.cycles.filter fun x => start ≤ x.1 && x.2.1 ≤ upto
    let total := sumRat (l.map (·.2.2))
    let late := s.lateFlags (128 * ((s.time.bnd : Rat) + ((sec * 125 : Nat) : Rat) - (s.time.cad : Rat)))
    let freq : Rat := if total = 0 || late.getLsbD 8 then 0 else (l.length : Rat) * 16000 / total
    writeFixed c (s.modPq c fun r =>
      { r with
        freq10 := freq, freq10Flags := s.pqFlags ((if l.isEmpty then noSync else 0) ||| late), freq10Start := start, tick10 := some sec
        cycles := r.cycles.filter fun x => upto ≤ x.1 })

/-- The ticks that have passed at a refresh stamped `stamp` (R234, R235). -/
def ticksTo (c stamp : Nat) (s : State) : State :=
  let sec := stamp / 2 ^ 24
  tick10 c (sec / 10 * 10) (tick600 c (sec / 600 * 600) s)

/-! ## Refreshes (R231, R232) -/

/-- A half-cycle value over [a, b): its ring entry, and its evaluation unless a sample was LOST or it is not computed (R243, R248). -/
def halfValue (c : Nat) (a b : Rat) (extra : BitVec 32) (s : State) : State :=
  let parts := s.partsIn c a b
  let late := s.lateFlags b
  let flags := s.pqFlags (sampleFlags parts ||| extra ||| late)
  let stop := (s.instant b).stamp
  let v : HcVal := { at_ := stop, sq := if late.getLsbD 8 then 0 else s.meanSquare c parts, flags }
  let s := s.modPq c fun r => { r with hcSeq := r.hcSeq + 1, hc := (v :: r.hc).take 16 }
  let s := { s with mem := s.mem.writeAll (pqAddr c + 0x40 + 16 * ((s.pqRec c).hcSeq % 16)) v.bytes }
  let s := if (s.pqRec c).cfg.kind ≠ 0 then s
    else if flags.getLsbD 0 then markLost c s
    else if flags.getLsbD 8 then s
    else evaluate c (s.instant a).stamp stop v.sq flags s
  writeFixed c s

/-- The refresh of a channel that is due next. -/
inductive Refresh where
  /-- A zero crossing: its instant, whether it is positive-going, and the search after it. -/
  | crossing (x : Rat) (rising : Bool) (edges : Edges)
  /-- A synthetic refresh, and the search over what lies behind. -/
  | synthetic (x : Rat) (edges : Edges)
  | waits
deriving DecidableEq, Repr

/-- The refresh due next for channel `c`, from what the copy holds (R231, R232). A crossing that comes within 1.5 nominal half-periods of
the last refresh is one; where the copy shows that none came, a synthetic one is due. -/
def State.nextRefresh (s : State) (c : Nat) : Refresh :=
  let r := s.pqRec c
  match r.refresh with
  | none => .waits
  | some p =>
    let half := r.cfg.halfSamples
    let limit := p + half * 3 / 2
    let end_ : Rat := (s.copyEnd : Rat)
    match r.edges.scan (s.samplesAfter r.cfg.ref r.edges.upto) with
    | (e, some (x, rising)) =>
      if x ≤ limit && x < end_ then .crossing x rising e
      else if limit < end_ then .synthetic (p + half) (r.edges.scan ((s.samplesAfter r.cfg.ref r.edges.upto).filter fun y => y.1 ≤ limit)).1
      else .waits
    | (_, none) =>
      if limit < end_ then .synthetic (p + half) (r.edges.scan ((s.samplesAfter r.cfg.ref r.edges.upto).filter fun y => y.1 ≤ limit)).1
      else .waits

/-- A zero crossing of the reference at `x` (R231): the value of the one cycle that ends there, and at a positive one the windows' cycles. -/
def crossRefresh (c : Nat) (x : Rat) (rising : Bool) (e : Edges) (s : State) : State :=
  let here := s.instant x
  let s := ticksTo c here.stamp s
  let start := e.crossings[1]?
  let s := s.modPq c fun r => { r with refresh := some x, edges := { e with crossings := (here :: e.crossings).take 3 } }
  let s := match start with
    | some a =>
      if validCycle a.t x then
        let s := if rising then s.modPq c fun r => { r with cycles := (a.stamp, here.stamp, x - a.t) :: r.cycles } else s
        halfValue c a.t x 0 s
      else s
    | none => s
  if rising then windowCross c x s else s

/-- A synthetic refresh at `x`, one nominal half-period after the last refresh: the value of the preceding nominal cycle (R232). -/
def synthRefresh (c : Nat) (x : Rat) (e : Edges) (s : State) : State :=
  let s := ticksTo c (s.instant x).stamp s
  let half := (s.pqRec c).cfg.halfSamples
  windowSynth c x (halfValue c (x - 2 * half) x noSync (s.modPq c fun r => { r with refresh := some x, edges := e }))

/-- The instant of a refresh. -/
def Refresh.at : Refresh → Option Rat
  | .crossing x _ _ => some x
  | .synthetic x _ => some x
  | .waits => none

/-- The refresh due next takes place. -/
def refreshStep (c : Nat) (s : State) : State :=
  match s.nextRefresh c with
  | .crossing x rising e => crossRefresh c x rising e s
  | .synthetic x e => synthRefresh c x e s
  | .waits => s

/-- The zero crossing due next, if any (R231). -/
def halfRefresh (c : Nat) (up : Bool) (s : State) : State :=
  if s.pqActive c then
    match s.nextRefresh c with
    | .crossing x rising e => if rising = up then crossRefresh c x rising e s else s
    | _ => s
  else s

/-- HALF_CYCLE_REFRESH (R231). -/
def execHalfCycleRefresh (t channel : Nat) (rising : Bool) (s : State) : Host.Outcome State Fault Refusal :=
  .next (halfRefresh channel rising (s.advance t))

/-- The synthetic refresh due next, if any (R232). -/
def syntheticRefresh (c seq : Nat) (s : State) : State :=
  if s.pqActive c && seq = (s.pqRec c).hcSeq + 1 then
    match s.nextRefresh c with
    | .synthetic x e => synthRefresh c x e s
    | _ => s
  else s

/-- SYNTHETIC_REFRESH (R232); `seq`: the number of the half-cycle value that it makes (R248, log 129). -/
def execSyntheticRefresh (t channel seq : Nat) (s : State) : Host.Outcome State Fault Refusal :=
  .next (syntheticRefresh channel seq (s.advance t))

/-- AGGREGATE_150_CLOSE (R235): 15 windows are held. -/
def execAggregate150Close (t channel : Nat) (s : State) : Host.Outcome State Fault Refusal :=
  let s := s.advance t
  .next (if (s.pqRec channel).held150.length < 15 || !s.domOn 12 then s else close150 channel s)

/-- Channels that the engine measures. -/
def State.pqChannels (s : State) : List Nat := (List.range 128).filter s.pqActive

/-- Every refresh of channel `c` before the instant `x` has taken place. -/
def State.refreshedTo (s : State) (c : Nat) (x : Rat) : Bool :=
  match (s.nextRefresh c).at with
  | some y => decide (x ≤ y)
  | none => true

/-- The instant of RTC second `sec` in fine samples since reset. -/
def State.secondAt (s : State) (sec : Nat) : Rat := 128 * ((s.time.bnd : Rat) + ((sec * 125 : Nat) : Rat) - (s.time.cad : Rat))

/-- The channels that a tick at RTC second `sec` closes intervals of: the copy holds their samples up to it, and their refreshes before it have
taken place. For a channel that is not there yet its first refresh from then on does it (`ticksTo`). -/
def State.tickChannels (s : State) (sec : Nat) : List Nat :=
  if (s.copyEnd : Rat) < s.secondAt sec then [] else s.pqChannels.filter fun c => s.refreshedTo c (s.secondAt sec)

/-- A 10-minute tick of the RTC (R234). -/
def tenMinuteTick (s : State) : State :=
  let sec := s.second / 600 * 600
  (s.tickChannels sec).foldl (fun s c => tick600 c sec s) s

/-- TEN_MINUTE_TICK (R234). -/
def execTenMinuteTick (t : Nat) (s : State) : Host.Outcome State Fault Refusal := .next (tenMinuteTick (s.advance t))

/-- A 10-second interval of the RTC ends (R235). -/
def tenSecondTick (s : State) : State :=
  let sec := s.second / 10 * 10
  (s.tickChannels sec).foldl (fun s c => tick10 c sec s) s

/-- TEN_SECOND_FREQUENCY_INTERVAL (R235). -/
def execTenSecondFrequencyInterval (t : Nat) (s : State) : Host.Outcome State Fault Refusal := .next (tenSecondTick (s.advance t))

/-- The open events of channel `c` close TRUNCATED at its last valid value; what follows begins detection again (R243). -/
def truncateEvents (c : Nat) (s : State) : State :=
  let r := s.pqRec c
  if r.open_.isEmpty then s.modPq c fun r => { r with primed := false }
  else
    let s := (r.open_.map (·.1)).foldl (fun s k => eventEnd c k (r.validAt.getD 0) true s) s
    writeFixed c (s.modPq c fun r => { r with primed := false })

/-- Wheel `w` is ON again: what its channels deliver next is their first settled value, with which detection begins (R243). -/
def detectionBegins (w : Nat) (s : State) : State :=
  { s with pq := { s.pq with recs := s.pq.recs.map fun (c, r) => (c, if wheelOf c = w then { r with primed := false } else r) } }

/-- TRUNCATED_EVENT (R243): no valid value for 1 s while an event is open. -/
def execTruncatedEvent (t channel : Nat) (s : State) : Host.Outcome State Fault Refusal :=
  let s := s.advance t
  let r := s.pqRec channel
  .next (if r.open_.isEmpty || s.stamp < r.validAt.getD 0 + 2 ^ 24 then s else truncateEvents channel s)

/-! ## Commits and domain changes -/

/-- A search that begins at the instant `x`: samples stamped at or after it count. -/
def Edges.from_ (x : Rat) : Edges := { upto := x - 1 / 18432, prev := none, low := false, high := false, crossings := [] }

/-- Measurement of a channel begins under settings at the instant `x`, at RTC second `sec`: nothing of a window, cycle or crossing is in
progress, and detection begins (R243). The first synthetic refresh is counted from there (DESIGN CHOICE, log 123). An event still open keeps
its last valid value. -/
def PqRec.restart (r : PqRec) (cfg : PqCfg) (x : Rat) (sec : Nat) : PqRec :=
  { r with
    cfg, due := [], primed := false, refresh := some x, edges := Edges.from_ x, win := none, oldWin := none, held150 := [], held10 := []
    cycles := [], validAt := if r.open_.isEmpty then none else r.validAt, tick600 := some (sec / 600 * 600), tick10 := some (sec / 10 * 10) }

/-- The settings that committed for the boundary at the instant `x` take force for channel `c` (R230, R263): a change of REF ends the window in
progress there, with SHORT, and windows restart at the first positive crossing of the new reference. -/
def takeSettings (c : Nat) (x : Rat) (cfg : PqCfg) (s : State) : State :=
  let r := s.pqRec c
  let s := if r.cfg.ref ≠ cfg.ref then
      let s := match r.win with
        | some w => windowClose c w x w.cycles (!w.noSync) true false false s
        | none => s
      s.modPq c fun r => { r with win := none, edges := Edges.from_ x }
    else s
  let s := s.modPq c fun r => { r with cfg, hcSeq := if cfg.enable then 0 else r.hcSeq, due := r.due.drop 1 }
  writeFixed c s

/-- Changes whose boundary the copy has reached take force, after the refreshes before it (R263): at most `n` steps. -/
def settle (c : Nat) : Nat → State → State
  | 0, s => s
  | n + 1, s =>
    match (s.pqRec c).due with
    | [] => s
    | (x, cfg) :: _ =>
      if (s.copyEnd : Rat) < x then s
      else if s.refreshedTo c x then settle c n (takeSettings c x cfg s)
      else settle c n (refreshStep c s)

/-- Steps that suffice for what the copy holds. -/
def settleSteps : Nat := 200

/-- A cadence has joined the sample copy: captures record it, and settings that wait for it take force (R29, R255, R263). -/
def copyCadence (o cad : Nat) (s : State) : State :=
  let s := { s with pq := { s.pq with copy := ((o, cad) :: s.pq.copy).take copyKept } }
  if s.domOn 12 then (s.pq.recs.map (·.1)).foldl (fun s c => settle c settleSteps s) (captureCadence o s) else s

/-- The commit of `pq.set_channel` (R230, R263). Where the channel is measured, values refreshed before the boundary are still to come under
the former settings, so the new ones wait for the samples of the boundary. -/
def pqSetChannel (p : PqSetChannel) (s : State) : State :=
  let c := p.channel
  let cfg : PqCfg := {
    enable := p.enable ≠ 0, kind := p.kind, fNom := p.fNom, ref := p.ref, udin := p.udin, dip := p.dip, swell := p.swell
    intr := p.intr, hyst := p.hyst, harm := p.harm ≠ 0, iharm := p.iharm ≠ 0 }
  let s := (s.modChannel c fun x => { x with pq := cfg }).bumpPq
  let r := s.pqRec c
  if r.cfg.enable && s.domOn 12 then s.modPq c fun r => { r with due := r.due ++ [(s.fineNow, cfg)] }
  else
    writeFixed c (s.modPq c fun r =>
      let r := if cfg.enable then r.restart cfg s.fineNow s.second else { r with cfg, due := [] }
      { r with hcSeq := if cfg.enable then 0 else r.hcSeq })

/-- A meter whose unbalance is enabled finds the events of its slots open: where they make one of its own, its condition held when detection
began (R242, R243). -/
def meterStanding (m kind : Nat) (s : State) : State :=
  let d := (s.meter m).def_
  let of (k : Nat) : Option OpenEvent := (slotChannelOf d k).bind fun c => (s.pqRec c).open_.find kind
  let slots := (List.range 3).filter fun k => (slotMask d).getLsbD k && (of k).isSome
  let mask : BitVec 4 := BitVec.ofNat 4 (maskOf slots)
  match slots.filterMap of with
  | [] => s
  | e :: rest =>
    let worst := rest.foldl (fun a b => if moreExtreme kind a.extreme b.extreme then b else a) e
    s.modUnb m fun u =>
      { u with
        slotsOpen := u.slotsOpen.put kind mask
        open_ := if kind ≠ 3 || mask = slotMask d then u.open_.put kind { worst with start := none, slots := mask } else u.open_ }

/-- The commit of `pq.set_meter` (R230). -/
def pqSetMeter (p : PqSetMeter) (s : State) : State :=
  let was := (s.meter p.meter).unbOn
  let s := (s.modMeter p.meter fun x => { x with unbOn := p.enable ≠ 0 }).bumpPq
  if p.enable = 0 then s.modUnb p.meter fun u => { u with open_ := [], slotsOpen := [], held150 := [], held10 := [] }
  else if was then s
  else [1, 2, 3].foldl (fun s k => meterStanding p.meter k s) (s.modUnb p.meter fun u => { u with open_ := [], slotsOpen := [] })

/-- PQE leaves ON (R101, R263): open events close TRUNCATED, segments in POST freeze TRUNCATED, streams write what they may. -/
def pqLeavesOn (s : State) : State :=
  let s := (s.pq.recs.map (·.1)).foldl (fun s c => (truncateEvents c s).modPq c fun r => r.restart r.cfg s.fineNow s.second) s
  let s := (s.pq.captures.map (·.1)).foldl (fun s k => truncateCapture k false s) s
  (s.pq.streams.map (·.1)).foldl (fun s k => streamFlush k false s) s

/-- PQE reaches ON: its unit returns to service (R117), detection begins under the settings in force (R243), the segments of enabled captures
are armed anew (R255), and streams go on with the next row. -/
def pqReachesOn (s : State) : State :=
  let on := (List.range 128).filter fun c => (s.channel c).pq.enable
  let s := on.foldl (fun s c => s.modPq c fun r => r.restart (s.channel c).pq s.fineNow s.second) s
  { s with pq := { s.pq with
    unit_ := s.pq.unit_.return_
    captures := s.pq.captures.map fun (k, c) => (k, (c.anew s.now).rearm s.now)
    streams := s.pq.streams.map fun (k, x) => (k, { x with next := Nat.max x.next (firstRow x.cfg.format s.now) }) } }

/-! ## Shares (R229, R253, R260, R264, R327) -/

/-- Where the share of polder `p` begins in a region, in bytes from its start (R326). -/
def shareBase (share : Nat → Nat) (p : Nat) : Nat := ((List.range p).map share).sum * 4096

/-- The lowest place of a size in a share, beside what it holds: places are offsets and sizes. -/
def firstFit (base limit size : Nat) (used : List (Nat × Nat)) : Option Nat :=
  let free (a : Nat) : Bool := a + size ≤ limit && used.all fun (b, n) => a + size ≤ b || b + n ≤ a
  (((base :: used.map fun (b, n) => b + n).filter fun a => base ≤ a && free a).mergeSort fun a b => decide (a ≤ b)).head?

/-- Bytes of a capture. -/
def captureSpan (c : PqSetCapture) : Nat := c.nseg * capSegSize c

/-- Bytes of a stream: its descriptor, ring and staging of 8 rows (R260), in whole 64 bytes. -/
def streamSpan (x : PqStreamOpen) : Nat := (64 + x.size * 4096 + 8 * x.nchan * blockSize x.format + 63) / 64 * 64

/-- The place of a capture in the share of polder `p`, captures other than `k` standing. -/
def State.capturePlace (s : State) (p k size : Nat) : Option Nat :=
  let share (q : Nat) := (s.polder q).poolShare
  let base := 0x01600000 + shareBase share p
  firstFit base (base + share p * 4096) size
    ((s.pq.captures.filter fun e => e.1 ≠ k && e.2.owner = p).map fun e => (e.2.base, captureSpan e.2.cfg))

/-- The place of a stream in the share of polder `p`. -/
def State.streamPlace (s : State) (p size : Nat) : Option Nat :=
  let share (q : Nat) := (s.polder q).streamShare
  let base := 0x01580000 + shareBase share p
  firstFit base (base + share p * 4096) size
    ((s.pq.streams.filter fun e => e.2.owner = p).map fun e => (e.2.base, streamSpan e.2.cfg))

/-- After a change of assignments: captures and streams that lost a channel, or whose share moved or no longer holds them, end
(R264, R327). `was`: the state before the change. -/
def sharePass (was s : State) : State :=
  let moved (share : Polder → Nat) (p : Nat) : Bool :=
    shareBase (fun q => share (was.polder q)) p != shareBase (fun q => share (s.polder q)) p || share (s.polder p) < share (was.polder p)
  let lost (p : Nat) (l : List Nat) : Bool := l.any fun c => decide (c < 128) && !(s.polder p).pqCh.getLsbD c
  let s := (s.pq.captures.filter fun e => lost e.2.owner e.2.cfg.channels || moved (·.poolShare) e.2.owner).foldl
    (fun s e => truncateCapture e.1 true s) s
  (s.pq.streams.filter fun e => !e.2.ended && (lost e.2.owner e.2.cfg.channels || moved (·.streamShare) e.2.owner)).foldl
    (fun s e => streamFlush e.1 true s) s

end Sys2Proof.Machine
end

