-- ==== Sys2Proof/Machine/Frames.lean ====
section
/-! DEFINITION. The powerline frame: lengths and instants in samples, frame control, MAC header and cipher, carrier levels (R430 to R433,
R438, R448). -/
namespace Sys2Proof.Machine

/-! ## Samples and instants (R430, R431, R441) -/

/-- Samples of 50 MS/s in `c` master clocks, rounded down (R430). -/
def samplesIn (c : Nat) : Nat := c * 100000 / 98304

/-- Master clocks of `n` samples, to the nearest. -/
def sampleClocks (n : Nat) : Nat := (n * 98304 + 50000) / 100000

/-- An instant placed `n` samples after `from_` has come: a row stands at the master clock nearest its instant. -/
def reached (from_ n now : Nat) : Bool := decide (n ≤ samplesIn (now - from_) + 1)

/-- Samples of a frame: preamble, frame control and its payload symbols (R430, R431). -/
def frameSamples (symbols : Nat) : Nat := 2560 + 2 * 1280 + symbols * 1280

/-- Samples from EOF to the first sample of a SACK, to the end of the SACK and to the contention slots, and of one slot (R441). -/
def sackGap : Nat := 1536
/-- To step 3. -/
def sackEnd : Nat := 6656
/-- To step 4, the first class slot. -/
def classSlots : Nat := 7168
/-- To step 6. -/
def slotsBegin : Nat := 10752
/-- One contention slot. -/
def slotSamples : Nat := 1792

/-! ## Symbols of a payload (R430, R433) -/

/-- Coded bits per carrier of a code (R434, R435). -/
def codeBits (c : Nat) : Nat := [0, 1, 2, 4, 6].getD c 0

/-- Coded bits of a symbol under a map. -/
def ToneMap.bits (m : ToneMap) : Nat := (m.codes.map codeBits).sum

/-- Payload symbols of `n` blocks under a map, or in ROBUST-4 or ROBUST-6, whose repetitions run on from symbol to symbol. -/
def mapSymbols (m : ToneMap) (n : Nat) : Nat := (n * (if m.high then 1386 else 2112) + m.bits - 1) / m.bits
/-- 412 carrier bits of a symbol, each coded bit on 4. -/
def robust4Symbols (n : Nat) : Nat := (n * 2112 * 4 + 411) / 412
/-- 206 carrier bits of a symbol, each coded bit on 6. -/
def robust6Symbols (n : Nat) : Nat := (n * 2112 * 6 + 205) / 206

/-- The mode in which `n` blocks go out where `want` is asked for, 0 tone map, 1 ROBUST-4, 2 ROBUST-6, its map and its payload symbols
(R435, R448): ROBUST-4 without an unexpired map, and where the map would need more than 800 symbols. -/
def sendMode (want n : Nat) (map : Option ToneMap) : Nat × Option ToneMap × Nat :=
  if want = 2 then (2, none, robust6Symbols n)
  else match map with
    | some m => if want = 0 && mapSymbols m n ≤ 800 then (0, some m, mapSymbols m n) else (1, none, robust4Symbols n)
    | none => (1, none, robust4Symbols n)

/-! ## Frame control (R432) -/

/-- One bit through the polynomial 0x1021. -/
def crc16Bit (c : Nat) : Nat := if c.testBit 15 then (c * 2) % 65536 ^^^ 0x1021 else c * 2

/-- CRC-16-CCITT of bytes, most significant bit first, preset to ones (log 24). -/
def crc16 (bs : List Byte) : Nat := bs.foldl (fun c b => (List.range 8).foldl (fun c _ => crc16Bit c) (c ^^^ (b.toNat * 256))) 0xFFFF

/-- The 12 bytes of a frame control. -/
def frameControl (dt flags : Nat) (nnh : Byte) (nblkMap stx srx info : Nat) : List Byte :=
  let b := leBytes 1 dt ++ leBytes 1 flags ++ [nnh] ++ leBytes 1 nblkMap ++ leBytes 2 stx ++ leBytes 2 srx ++ leBytes 2 info
  b ++ leBytes 2 (crc16 b)

/-- A frame control of type `dt` whose FCCRC is good. -/
def controlOk (dt : Nat) (b : List Byte) : Bool := field b 0 1 % 16 = dt && field b 10 2 = crc16 (slice b 0 10)

/-- NNH: the XOR of the bytes of NET_NAME (R432). -/
def netHash (name : BitVec 64) : Byte :=
  (List.range 8).foldl (fun a i => a ^^^ ((name >>> (8 * i)).setWidth 8)) 0

/-! ## MAC frames (R448) -/

/-- Blocks of a frame: header, body and tag in 128-byte blocks. -/
def MacFrame.blocks (f : MacFrame) : Nat := (24 + f.body.length + 8 + 127) / 128

/-- The header of a MAC frame. -/
def MacFrame.header (f : MacFrame) (pn : Nat) : List Byte :=
  leBytes 1 f.type ++ leBytes 1 (f.hops % 16) ++ leBytes 2 f.orig ++ leBytes 2 f.final ++ leBytes 1 f.destPolder ++ leBytes 1 f.srcPolder
    ++ leBytes 4 f.mseq ++ leBytes 6 pn ++ leBytes 2 f.body.length ++ zeros 4

/-- The CCM nonce of a hop's transmitter. -/
def macNonce (node pn : Nat) (name : BitVec 64) : List Byte := leBytes 2 node ++ leBytes 6 pn ++ leBytes 5 name.toNat

/-- The bytes of a MAC frame of node `net.node`, padded to whole blocks. -/
def macBytes (net : Net) (f : MacFrame) (pn : Nat) : List Byte :=
  let sealed := slice (Config.linkSeal net.key (macNonce net.node pn net.name) (f.header pn) f.body) 0 (f.body.length + 8)
  slice (f.header pn ++ sealed) 0 (128 * f.blocks)

/-- The MAC frame that bytes hold, its body still sealed; class and mode are those of the frame control. -/
def macHeader (control m : List Byte) : MacFrame :=
  { type := field m 0 1, hops := field m 1 1 % 16, orig := field m 2 2, final := field m 4 2, destPolder := field m 6 1
    srcPolder := field m 7 1, mseq := field m 8 4, cls := field control 1 1 % 4, mode := field control 1 1 / 4 % 4
    body := slice m 24 (field m 18 2 + 8), order := none }

/-- PN of a MAC frame. -/
def macPn (m : List Byte) : Nat := field m 12 6

/-- A MAC frame opened under the network's key; none where its tag fails or its body does not fit its blocks. -/
def macOpen (net : Net) (control m : List Byte) : Option MacFrame :=
  let h := macHeader control m
  if m.length < 24 + h.body.length then none
  else (Config.linkOpen net.key (macNonce (field control 4 2) (macPn m) net.name) (slice m 0 24) h.body).map fun b => { h with body := b }

/-! ## Carrier levels (R438) -/

/-- The ratio of powers of one decibel's tenth power: 10 to the power 1/10. -/
def decibel : Rat := ofFixed 428390118902236357715399458008612005261

/-- The power ratio of an attenuation in dB. -/
def attenuated (d : Int) : Rat := if d < 0 then decibel ^ (-d).toNat else 1 / decibel ^ d.toNat

/-- The powers of carriers 40 to 245 relative to that at A0: notched carriers zero, and all scaled down where their total exceeds that of 206
carriers at A0. -/
def carrierLevels (notches : List (Nat × Nat)) (psd : List Int) : List Rat :=
  let l := (List.range 206).map fun i =>
    if notches.any fun n => decide (n.1 ≤ 40 + i) && decide (40 + i ≤ n.2) then (0 : Rat) else attenuated (psd.getD i 0)
  let total := l.sum
  if 206 < total then l.map (· * (206 / total)) else l

end Sys2Proof.Machine
end

