-- ==== Sys2Proof/Machine/Time.lean ====
section
/-! DEFINITION. Timekeeping: offset samples, sources, locks, steps, slews, clock trust, alarm and periodic wake (16). -/
namespace Sys2Proof.Machine

/-- EV0646 with a code (R476). -/
def State.timeEvent (s : State) (code : Nat) (data : BitVec 32) : State := s.fire 646 code data

/-! ## Sources and locks (R463, R464, R469) -/

/-- The source the device may use now (R463); a source whose check failed is not used, and beacons are used only while PPS_IN is not
valid: a valid PPS_IN whose check failed leaves holdover (R473; log 22). -/
def Time.choice (x : Time) : Nat :=
  if x.ppsValid && !x.disqPps then 1
  else if x.beaconOk && !x.disqBeacon && !x.ppsValid then 2
  else if x.everLocked then 3 else 0

/-- DATA of CODE 3. -/
def Time.sourceData (x : Time) : BitVec 32 := BitVec.ofNat 32 (x.source + 256 * bit x.locked)

/-- The source in use changes: locks end, and a source that is lost after a lock leaves holdover (R463, R469, R470). -/
def setSource (n : Nat) (s : State) : State :=
  if n = s.time.source then s
  else
    let hold := if n = 3 then (if s.time.source = 3 then s.time.holdoverFrom else some s.now) else none
    let s := { s with time := { s.time with
      source := n, locked := false, lockRun := 0, bigRun := 0, beaconBuf := [], holdoverFrom := hold } }
    s.timeEvent 3 s.time.sourceData

/-- The device changes to the source R463 gives; from beacons to PPS only at a boundary. -/
def sourcePass (boundary : Bool) (s : State) : State :=
  let n := s.time.choice
  if s.time.source = 2 && n = 1 && !boundary then s else setSource n s

/-- A lock is gained or lost (R469). -/
def setLock (b : Bool) (s : State) : State :=
  if s.time.locked = b then s
  else
    let s := { s with time := { s.time with locked := b, everLocked := s.time.everLocked || b } }
    s.timeEvent 3 s.time.sourceData

/-! ## Steps and slews (R466 to R468, R472) -/

/-- An offset in 2^-24 s as whole cadences, the nearest with ties toward zero, and the remainder (R468). -/
def splitOffset (o : Rat) : Int × Rat :=
  let c := absRat o * 125 / ((2 ^ 24 : Nat) : Rat)
  let n : Int := (c - 1 / 2).ceil
  let k : Int := if o < 0 then -n else n
  (k, o - (k : Rat) * ((2 ^ 24 : Nat) : Rat) / 125)

/-- RTC units of 2^-24 s at the present instant. -/
def State.rtc (s : State) : Rat := ((s.time.cad * cadenceClocks + s.time.off : Nat) : Rat) * 128 / 375

/-- A correction keeps the RTC within 40-bit seconds (R472). -/
def State.rtcHolds (s : State) (o : Rat) : Bool := decide (0 ≤ s.rtc + o) && decide (s.rtc + o < ((2 ^ 64 : Nat) : Rat))

/-- A slew of an offset begins (R467); the steering word it sets is the device's own (log 2). -/
def slewBy (o : Rat) (s : State) : State :=
  let (v, s) := s.draw
  { s with time := { s.time with slew := o, steer := ((v % 858993 : Nat) : Int) - 429496 } }

/-- The timebase steps by `k` cadences at a boundary and slews the remainder (R468): the cadence that opens takes a new number, the
lock ends and every source reacquires. -/
def stepTime (k : Int) (rest : Rat) (s : State) : State :=
  let s := { s with time := { s.time with
    cad := ((s.time.cad : Int) + k).toNat, stepDue := none, stepped := true, ppsFresh := true, beaconBuf := [], lockRun := 0
    alarmAt := if k < 0 then none else s.time.alarmAt } }
  (setLock false (slewBy rest s)).timeEvent 4 (BitVec.ofInt 32 k)

/-! ## Offset samples (R464 to R466, R469) -/

/-- 4 ms, 100 ms and the lock tolerance of a source in 2^-24 s. -/
def fourMs : Rat := 4 * (2 ^ 24 : Nat) / 1000
/-- 100 ms in 2^-24 s. -/
def hundredMs : Rat := (2 ^ 24 : Nat) / 10
/-- The tolerance of R469 in 2^-24 s. -/
def lockTol (source : Nat) : Rat := (if source = 1 then 1 else 5) * (2 ^ 24 : Nat) / 1000000

/-- Eight consecutive samples within tolerance, and no slew of more than that, lock the source (R469). -/
def lockSample (o : Rat) (s : State) : State :=
  let tol := lockTol s.time.source
  let run := if absRat o ≤ tol then s.time.lockRun + 1 else 0
  let s := { s with time := { s.time with lockRun := run } }
  setLock (8 ≤ run && absRat s.time.slew ≤ tol) s

/-- The discipline check fails: the source is not used any more and cause [1] waits for the next boundary (R466, R473). -/
def checkFailed (s : State) : State :=
  let src := s.time.source
  let s := s.timeEvent 5 (BitVec.ofNat 32 src)
  let s := { s with time := { s.time with
    bigRun := 0, disqPps := s.time.disqPps || src = 1, disqBeacon := s.time.disqBeacon || src = 2, causesDue := s.time.causesDue ||| 2 } }
  sourcePass false s

/-- An offset sample of the source in use is acted on (R466). -/
def offsetSample (o : Rat) (s : State) : State :=
  let s := { s with time := { s.time with lastOffset := o } }
  if !s.rtcHolds o then s
  else
    let s := lockSample o s
    if absRat o ≤ fourMs then slewBy o { s with time := { s.time with bigRun := 0 } }
    else if absRat o ≤ hundredMs || !s.trusted then
      { s with time := { s.time with bigRun := 0, stepDue := some (splitOffset o) } }
    else if s.time.bigRun + 1 = 3 then checkFailed s
    else { s with time := { s.time with bigRun := s.time.bigRun + 1 } }

/-- Master clocks of 1 s, of 200 microseconds and of 1.5 s. -/
def secondClocks : Nat := 49152000

/-- A rising edge of PPS_IN is stamped, and a valid one gives a sample to the source in use (R463, R464). -/
def ppsEdge (s : State) : State :=
  let x := s.time
  let ok := match x.ppsEdge with
    | some e => x.ppsFresh || !x.ppsValid
        || (decide (s.now ≤ e + secondClocks + 9830) && decide (e + secondClocks ≤ s.now + 9830))
    | none => true
  if !ok || s.pwr.state == .nap || !s.pwr.porstHigh then s
  else
    let s := sourcePass false { s with time := { x with ppsEdge := some s.now, ppsValid := true, ppsFresh := false } }
    let mc := s.time.cad * cadenceClocks + s.time.off
    let whole := roundDiv mc secondClocks * secondClocks
    if s.time.source = 1 then offsetSample (((whole : Nat) : Rat) * 128 / 375 - s.rtc) s else s

/-- PPS_EDGE (R464). -/
def execPpsEdge (t : Nat) (s : State) : Host.Outcome State Fault Refusal := .next (ppsEdge (s.advance t))

/-- PPS_IN is lost when no valid edge arrives for 1.5 s (R464). -/
def ppsLoss (s : State) : State :=
  match s.time.ppsEdge with
  | none => s
  | some e =>
    if s.time.ppsValid && e + 73728000 ≤ s.now then
      sourcePass false { s with time := { s.time with ppsValid := false, ppsFresh := true } }
    else s

/-- PPS_LOSS (R464). -/
def execPpsLoss (t : Nat) (s : State) : Host.Outcome State Fault Refusal := .next (ppsLoss (s.advance t))

/-- The middle of five values. -/
def medianOf (l : List Rat) : Rat := ((l.mergeSort fun a b => decide (a ≤ b)).getD (l.length / 2) 0)

/-- A beacon pair gives one sample; the median of each five is one filtered sample (R465). -/
def beaconSample (o : Rat) (s : State) : State :=
  if s.time.source != 2 then s
  else
    let l := s.time.beaconBuf ++ [o]
    if l.length < 5 then { s with time := { s.time with beaconBuf := l } }
    else offsetSample (medianOf l) { s with time := { s.time with beaconBuf := [] } }

/-- The neighbour chosen qualifies as a source, or not any more (R463, R465). -/
def setBeacon (ok : Bool) (s : State) : State := sourcePass false { s with time := { s.time with beaconOk := ok } }

/-- What a slew corrects in `c` master clocks at 20 ppm, 2^-24 s (R467). -/
def slewed (c : Nat) : Rat := (c : Rat) * 128 / 375 * 20 / 1000000

/-- A cadence of a slew has passed: the offset that remains falls towards zero, at the full 20 ppm (R467; the spec's bound, log 61). -/
def slewPass (s : State) : State :=
  let d := slewed cadenceClocks
  let o := s.time.slew
  { s with time := { s.time with slew := if absRat o ≤ d then 0 else if 0 < o then o - d else o + d } }

/-- SLEW_COMPLETE (R467): the slew has gone on in this cadence until the remaining offset is zero. -/
def slewComplete (s : State) : State :=
  if absRat s.time.slew ≤ slewed s.time.off then { s with time := { s.time with slew := 0 } } else s

/-- SLEW_COMPLETE (R467). -/
def execSlewComplete (t : Nat) (s : State) : Host.Outcome State Fault Refusal := .next (slewComplete (s.advance t))

/-- Once per hour while locked the steering word is stored (R471). -/
def steerStore (s : State) : State :=
  if s.time.locked && (s.time.steerStored.isNone || s.time.steerAt + 450000 ≤ s.b) then
    { s with time := { s.time with steerStored := some s.time.steer, steerAt := s.b } }.touch 2
  else s

/-- STEERING_WORD_STORE (R471). -/
def execSteeringWordStore (t : Nat) (s : State) : Host.Outcome State Fault Refusal := .next (steerStore (s.advance t))

/-! ## Clock trust (R473) -/

/-- The causes of untrust change at a boundary (R473, R476). -/
def setCauses (c : BitVec 3) (s : State) : State :=
  let was := s.trusted
  let s := { s with time := { s.time with causes := c } }
  if was && c != 0 then s.timeEvent 1 (c.setWidth 32)
  else if !was && c = 0 then s.timeEvent 2 0 else s

/-- A detected cause takes effect at the first boundary after its detection (R473). -/
def trustPass (s : State) : State :=
  if s.time.off = 0 && s.time.causesDue != 0 then
    let due := s.time.causesDue
    setCauses (s.time.causes ||| due) { s with time := { s.time with causesDue := 0 } }
  else s

/-- CLOCK_TRUST_CHANGE (R473). -/
def execClockTrustChange (s : State) : Host.Outcome State Fault Refusal := .next (trustPass s)

/-- What `time.set` does at its commit boundary (R472): none where the RTC would leave its range. -/
def timeSet (mode : Nat) (offset : Int) (s : State) : Option State :=
  let o : Rat := (offset : Rat)
  if !s.rtcHolds o then none
  else
    let s := { s with time := { s.time with
      slew := 0, stepDue := none, disqPps := false, disqBeacon := false, ppsFresh := true, beaconBuf := [], lockRun := 0, bigRun := 0 } }
    if mode = 0 then
      let (k, rest) := splitOffset o
      some (setCauses (s.time.causes &&& 4) (stepTime k rest s))
    else some (slewBy o s)

/-! ## Alarm (R474) -/

/-- A seconds count matches the alarm (R474). -/
def Time.matches (x : Time) (sec : Nat) : Bool := ((BitVec.ofNat 40 sec ^^^ x.alarmSeconds) &&& x.alarmMask) = 0

/-- The lowest matching count at or above `a`: the longest part of `a` that can be kept, then a larger bit, then the lowest rest. -/
def Time.nextMatch (x : Time) (a : Nat) : Option Nat :=
  if x.matches a then some a
  else
    let low := x.alarmSeconds.toNat &&& x.alarmMask.toNat
    ((List.range 40).find? fun i =>
      !a.testBit i && (!x.alarmMask.getLsbD i || x.alarmSeconds.getLsbD i)
        && (List.range 40).all fun j => j ≤ i || !x.alarmMask.getLsbD j || (a.testBit j == x.alarmSeconds.getLsbD j)).map fun i =>
      a / 2 ^ (i + 1) * 2 ^ (i + 1) + 2 ^ i + low % 2 ^ i

end Sys2Proof.Machine
end

