-- ==== Sys2Proof/Machine/Plc.lean ====
section
/-! DEFINITION. The powerline link: channel access, frames, tone maps, beacons, routing and the queues (15). -/
namespace Sys2Proof.Machine

/-- The powerline link changed. -/
def State.modPlc (s : State) (f : Plc → Plc) : State := { s with plc := f s.plc }

/-- The powerline event (R458). -/
def State.plcEvent (s : State) (code : Nat) (data : BitVec 32) : State := s.fire 645 code data

/-- Neighbour `n`. -/
def Plc.neighbour (p : Plc) (n : Nat) : Neigh :=
  p.neigh.get { stratum := 15, trusted := false, coordinator := false, deviceId := 0, heard := 0, beaconAt := none, mapsIn := []
                mapOut := none, loss := 0, blocks := [], phase := none, stamps := [], mapNum := 0, snrs := [] } n

/-- The state with neighbour `n` changed. -/
def State.modNeigh (s : State) (n : Nat) (f : Neigh → Neigh) : State :=
  s.modPlc fun p => { p with neigh := p.neigh.put n (f (p.neighbour n)) }

/-- The device's own node number; 0 without a network. -/
def Plc.node (p : Plc) : Nat := (p.net.map (·.node)).getD 0

/-- It acts as coordinator (R447, R453). -/
def Plc.isCoordinator (p : Plc) : Bool := (p.net.any (·.coordinator)) && !p.acting

/-- The link can run: enabled, a network set, PLA and PLD ON (R447). -/
def State.plcRuns (s : State) : Bool := s.plc.link.enable != 0 && s.plc.net.isSome && s.domOn 14 && s.domOn 15

/-- Routing and beacons run: not through a wet restart (R459). -/
def State.plcServes (s : State) : Bool := s.plcRuns && s.flash.restarting.isNone

/-- STATE follows the domains, the link setting and the network (R447). -/
def plcRefresh (s : State) : State :=
  if !s.plcRuns then s.modPlc fun p => { p with state := 0 }
  else if s.plc.state ≠ 0 then s
  else s.modPlc fun p => { p with state := if p.isCoordinator then 2 else 1 }

/-! ## Routes and costs (R454, R455) -/

/-- Information bits per symbol of a map (R454). -/
def mapBits (high : Bool) (codes : List Nat) : Rat := ((codes.map codeBits).sum : Rat) * (if high then 16 / 21 else 1 / 2)

/-- b of ROBUST-4 (R433). -/
def robust4 : Rat := 515 / 10

/-- 35 s in master clocks. -/
def heardFor : Nat := seconds 35

/-- The map this device sends under toward a neighbour, while it has not expired (R435). -/
def Neigh.mapInForce (n : Neigh) (now : Nat) : Option ToneMap := n.mapOut.filter fun m => now < m.issued + seconds 30

/-- Link cost toward a neighbour; none where the link is not used (R454). -/
def Neigh.cost (n : Neigh) (now : Nat) : Option Nat :=
  if (1 / 2 : Rat) < n.loss then none
  else
    let b := match n.mapInForce now with
      | some m => mapBits m.high m.codes
      | none => robust4
    if b = 0 then none else some (Nat.min 65535 ((1024 * (941714 / 1000) / (b * (1 - n.loss)) : Rat).ceil.toNat))

/-- A hop whose link may be used. -/
def State.usable (s : State) (h : Hop) : Bool :=
  (Tab.find s.plc.neigh h.next).any fun n => (n.cost s.now).isSome

/-- The hop by which a node is reached: the primary entry (R455). -/
def State.route (s : State) (dest : Nat) : Option Hop :=
  (s.plc.routes.find dest).bind fun r =>
    if s.now < r.heard + heardFor then
      (if s.usable r.primary then some r.primary else r.alternate.filter s.usable) else none

/-- One entry of an advertisement from `from_` (R455). -/
def advEntry (from_ link : Nat) (s : State) (e : Nat × Nat × Nat × Nat) : State :=
  let (dest, seq, c, h) := e
  let hop : Hop := { next := from_, cost := c + link, hops := h + 1 }
  if dest = s.plc.node || 8 < hop.hops then s
  else match s.plc.routes.find dest with
    | none =>
      if s.plc.routes.length < 256 then
        s.modPlc fun p => { p with routes := p.routes.put dest { seq, primary := hop, alternate := none, heard := s.now } }
      else if s.plc.fullTold.any fun t => s.now < t + seconds 60 then s
      else (s.modPlc fun p => { p with fullTold := some s.now }).plcEvent 6 (BitVec.ofNat 32 dest)
    | some r =>
      if r.seq < seq || (r.seq = seq && 1000 * hop.cost ≤ 875 * r.primary.cost) then
        let alt := if r.primary.next = hop.next then r.alternate else some r.primary
        s.modPlc fun p => { p with routes := p.routes.put dest { seq, primary := hop, alternate := alt, heard := s.now } }
      else if r.seq = seq && r.primary.next ≠ hop.next && (r.alternate.all fun a => a.next = hop.next || hop.cost < a.cost) then
        s.modPlc fun p => { p with routes := p.routes.put dest { r with alternate := some hop } }
      else s

/-! ## Beacon sources (R451) -/

/-- The neighbour that beacons are taken from: the lowest stratum, then the lowest node (R451). -/
def Plc.choose (p : Plc) : Option Nat :=
  (p.neigh.filter fun e => e.2.beaconAt.isSome).foldl (fun b e =>
    match b with
    | none => some e.1
    | some k => if e.2.stratum < (p.neighbour k).stratum then some e.1 else b) none

/-- The chosen neighbour qualifies as a beacon source (R465). -/
def plcQualify (s : State) : State :=
  setBeacon (s.plc.lock && s.plc.chosen.any fun n => (s.plc.neighbour n).stratum < 15 && (s.plc.neighbour n).trusted) s

/-- BEACON_LOCK changes (R451, R458). -/
def setBeaconLock (b : Bool) (s : State) : State :=
  if s.plc.lock = b then plcQualify s
  else plcQualify ((s.modPlc fun p => { p with lock := b }).plcEvent 4 (BitVec.ofNat 32 (bit b)))

/-- Beacons of the chosen neighbour have arrived within the last 3 s (R451). -/
def State.beaconFresh (s : State) : Bool :=
  s.plc.chosen.any fun n => (s.plc.neighbour n).beaconAt.any fun b => s.now < b + seconds 3

/-! ## Ends of `plc.send` (R456) -/

/-- The outstanding command taken `order`-th ends with its outcome (R395). -/
def sendDone (order outcome tries hops : Nat) (s : State) : State :=
  let s := s.modPlc fun p => { p with awaiting := p.awaiting.filter fun a => a.order ≠ order }
  match s.out.held.find? fun h => h.order = order with
  | some h => s.finish h stOk (leBytes 1 outcome ++ leBytes 1 tries ++ leBytes 1 hops ++ zeros 1) false
  | none => s

/-- A frame of this device ends; a frame that it relays is dropped. -/
def frameDone (f : MacFrame) (outcome tries hops : Nat) (s : State) : State :=
  match f.order with
  | some k => sendDone k outcome tries hops s
  | none => s

/-- Hops of the route to a node, 1 where none is known (R456). -/
def State.routeHops (s : State) (dest : Nat) : Nat := ((s.route dest).map (·.hops)).getD 1

/-- The sends known to the link with TRIES and HOPS so far: the frame being sent, those queued, those awaiting confirmation. -/
def State.sendsInFlight (s : State) : List (Nat × Nat × Nat) :=
  let cur := (s.plc.cur.toList.filterMap fun c => c.frame.order.map fun k => (k, c.total, s.routeHops c.frame.final))
  let queued := s.plc.txq.flatMap fun e => e.2.filterMap fun f => f.order.map fun k => (k, 0, 0)
  let waiting := s.plc.awaiting.map fun a => (a.order, a.tries, a.hops)
  cur ++ queued ++ waiting

/-- A frame on the line ends at the next symbol boundary; a SACK already begun is completed (R459). -/
def OnAir.cut (x : OnAir) (now : Nat) : OnAir :=
  if controlOk 2 x.control then x
  else
    let e := samplesIn (now - x.start)
    { x with samples := Nat.min x.samples (2560 + (e - 2560 + 1279) / 1280 * 1280) }

/-- The link stops: every `plc.send` ends with no acknowledgement (R459). -/
def plcStop (s : State) : State :=
  let ends := s.sendsInFlight.mergeSort fun a b => decide (a.1 ≤ b.1)
  let s := s.modPlc fun p =>
    { p with cur := none, txq := [], relay := [], mgmt := [], awaiting := [], gap := false, busy := false, slots0 := none
             tx := p.tx.map fun x => x.cut s.now }
  plcRefresh (ends.foldl (fun s e => sendDone e.1 1 e.2.1 e.2.2 s) s)

/-- The outputs are in kickstand once PLA or PLD is OFF (R115, R459). -/
def plcKick (s : State) : State := s.modPlc fun p => { p with tx := none, dac := false }

/-- PLD is OFF: the working data of the link is lost (R457). -/
def plcLost (s : State) : State :=
  let s := plcKick (plcStop s)
  let s := s.modPlc fun p => { p with neigh := [], routes := [], chosen := none, sackDue := none, eof := none, zcAt := none, zcPeriod := 0 }
  setBeaconLock false { s with pol := s.pol.map fun e => (e.1, { e.2 with rxq := [] }) }

/-- A wet restart: frames are dropped, and their commands are abandoned elsewhere (R459). -/
def plcRestart (s : State) : State :=
  s.modPlc fun p => { p with cur := none, txq := [], relay := [], mgmt := [], awaiting := [] }

/-- PN resumes at the stored value plus 2^20 at every start (R449). -/
def pnStart (s : State) : State :=
  (s.modPlc fun p => { p with pn := p.pnStored + 2 ^ 20, pnStored := p.pnStored + 2 ^ 20 }).touch 2

/-! ## Sending (R437, R443 to R446, R456) -/

/-- A frame begins to leave the balls: the enables of its phases, the DAC outputs and the carrier levels in force (R436 to R438). -/
def emit (control payload : List Byte) (samples : Nat) (s : State) : State :=
  s.modPlc fun p =>
    { p with
      tx := some {
        control, payload, phases := if p.link.txMode = 0 then 1#3 <<< p.link.txPhase else 7#3, cyclic := p.link.txMode = 2
        levels := carrierLevels p.notches p.psd, start := s.now, samples, done := false }
      dac := true, busy := true, busyAt := s.now, slots0 := none }

/-- The instant at which a transmission's last sample passes the balls. -/
def OnAir.stop (x : OnAir) : Nat := x.start + sampleClocks x.samples

/-- A transmission is still on the line. -/
def Plc.sending (p : Plc) : Bool := p.tx.any fun x => !x.done

/-- Transmissions that have ended by now: an own frame's EOF begins the grid (R441), and a broadcast has had its single transmission (R446,
R456). -/
def plcTick (s : State) : State :=
  match s.plc.tx with
  | none => s
  | some x =>
    if x.done || s.now < x.stop then s
    else
      let s := s.modPlc fun p => { p with tx := some { x with done := true }, eof := if controlOk 1 x.control then some x.stop else p.eof }
      match s.plc.cur with
      | some c => if c.sent && c.next = 0xFFFF then frameDone c.frame 3 1 1 (s.modPlc fun p => { p with cur := none }) else s
      | none => s

/-- A row of the link at instant `t`. -/
def State.onLink (s : State) (t : Nat) (f : State → State) : State :=
  let s := plcTick (s.advance t)
  if s.plcRuns then f s else s

/-- CW of a class and transmission (R444). -/
def window (cls try_ : Nat) : Nat :=
  if 2 ≤ cls then [8, 16, 16, 32].getD try_ 32 else [8, 16, 32, 64].getD try_ 64

/-- The first frame of a class in a polder's queue, round-robin from the polder after the one served last (R456). -/
def Plc.polderHead (p : Plc) (cls : Nat) : Option (Nat × MacFrame) :=
  ((List.range 16).map fun i => (p.lastServed + 1 + i) % 16).findSome? fun q =>
    ((p.txq.get [] q).find? fun f => f.cls = cls).map fun f => (q, f)

/-- The next frame to send and the queues without it: classes from CA3 down, firmware frames before relayed ones before those of
polders (R446, R456); `only`: nothing but beacons may go. -/
def Plc.take (p : Plc) (only : Bool) : Option (MacFrame × Plc) :=
  if only then (p.mgmt.find? fun f => f.type = 5).map fun f => (f, { p with mgmt := p.mgmt.erase f })
  else [3, 2, 1, 0].findSome? fun cls =>
    match (if cls = 3 then p.mgmt.head? else none) with
    | some f => some (f, { p with mgmt := p.mgmt.drop 1 })
    | none =>
      match p.relay.find? fun f => f.cls = cls with
      | some f => some (f, { p with relay := p.relay.erase f })
      | none => (p.polderHead cls).map fun (q, f) => (f, { p with txq := p.txq.put q ((p.txq.get [] q).erase f), lastServed := q })

/-- PN for one more MAC frame, stored each 2^20 (R449). -/
def Plc.nextPn (p : Plc) : Plc :=
  let pn := p.pn + 1
  { p with pn, pnStored := if p.pnStored + 2 ^ 20 ≤ pn then pn else p.pnStored }

/-- The next frame becomes the one to send; frames without a route end (R456). -/
def loadNext : Nat → State → State
  | 0, s => s
  | n + 1, s =>
    if s.plc.cur.isSome || !s.plcServes then s
    else
      let only := s.plc.silent || s.plc.state ≠ 2
      match s.plc.take only with
      | none => s
      | some (f, p) =>
        let s := { s with plc := p }
        let next := if f.final = 0xFFFF || f.type = 3 then some f.final else (s.route f.final).map (·.next)
        match next with
        | none => loadNext n (frameDone f 2 0 0 s)
        | some hop =>
          let s := if s.plc.nextPn.pnStored = s.plc.pnStored then s else s.touch 2
          s.modPlc fun p =>
            let p := p.nextPn
            { p with cur := some { frame := f, pn := p.pn, next := hop, try_ := 0, backoff := none, nblk := f.blocks, total := 0
                                   acked := List.replicate f.blocks false, altTried := false, contending := false, sent := false } }

/-- The blocks of the frame being sent that no SACK has marked good, in order (R446). -/
def TxCur.left (c : TxCur) : List Nat := (List.range c.nblk).filter fun i => !c.acked.getD i false

/-- The frame goes out with the blocks still to send, and waits for its SACK, or as a broadcast for its end (R431, R432, R446). -/
def transmit (s : State) : State :=
  match s.plc.cur, s.plc.net with
  | some c, some net =>
    let map := if c.next = 0xFFFF then none else (s.plc.neighbour c.next).mapInForce s.now
    let (mode, used, symbols) := sendMode c.frame.mode c.left.length map
    let flags := c.frame.cls % 4 + 4 * mode + 16 * bit (used.any (·.high)) + 32 * bit (decide (c.next = 0xFFFF))
    let control := frameControl 1 flags (netHash net.name) (c.left.length + 16 * (used.elim 0 (·.num))) net.node c.next symbols
    let bytes := macBytes net c.frame c.pn
    let s := if c.frame.type = 5 then
        s.modPlc fun p => { p with prevTx := s.stamp, prevZc := (p.zcAt.map fun z => s.stamp - z).getD 0 }
      else s
    let s := emit control (c.left.flatMap fun i => slice bytes (128 * i) 128) (frameSamples symbols) s
    s.modPlc fun p =>
      { p with txFrames := p.txFrames + 1
               cur := some { c with try_ := c.try_ + 1, total := c.total + 1, backoff := none, contending := false, sent := true } }
  | _, _ => s

/-- Priority resolution is over at step 6 of the grid, once nothing is on the line and no extended gap runs (R441, R443, R445). -/
def State.resolvable (s : State) : Bool :=
  !s.plc.sending && !s.plc.gap && s.plc.eof.all fun e => reached e slotsBegin s.now

/-- Priority resolution (R443): `heard` bit 1: the class signal was detected in CS1, bit 0: in CS2. The frame's class either
withdraws or contends, with the frozen count or a new one; a count of zero transmits at once (R444). -/
def resolve (heard : Nat) (s : State) : State :=
  let s := loadNext 64 (s.modPlc fun p => { p with busy := false, slots0 := some s.now, slots := 0 })
  match s.plc.cur with
  | none => s
  | some c =>
    if c.sent || c.contending then s
    else
      let cls := c.frame.cls
      if (cls < 2 && heard.testBit 1) || (cls % 2 = 0 && heard.testBit 0) then s
      else
        let (n, s) := match c.backoff with
          | some n => (n, s)
          | none => let (v, s) := s.draw; (v % window cls c.try_, s)
        let s := s.modPlc fun p => { p with cur := some { c with contending := true, backoff := some n } }
        if n = 0 then transmit s else s

/-- PRIORITY_RESOLUTION (R443). -/
def execPriorityResolution (t heard : Nat) (s : State) : Host.Outcome State Fault Refusal :=
  .next (s.onLink t fun s => if s.resolvable then resolve heard s else s)

/-- The end of an idle contention slot, 35.84 us after the one before (R441, R444). -/
def contentionSlot (s : State) : State :=
  if s.plc.busy || !s.plc.slots0.any fun b => reached b (slotSamples * (s.plc.slots + 1)) s.now then s
  else
    let s := s.modPlc fun p => { p with slots := p.slots + 1 }
    match s.plc.cur with
    | none => s
    | some c =>
      match c.contending, c.backoff with
      | true, some n =>
        let s := s.modPlc fun p => { p with cur := some { c with backoff := some (n - 1) } }
        if n ≤ 1 then transmit s else s
      | _, _ => s

/-- CONTENTION_SLOT (R444). -/
def execContentionSlot (t _slot : Nat) (s : State) : Host.Outcome State Fault Refusal := .next (s.onLink t contentionSlot)

/-- The medium is busy: a running count freezes (R444, R445). Until a frame control is decoded, what ends will be followed by the extended gap. -/
def senseBusy (s : State) : State :=
  s.modPlc fun p =>
    { p with busy := true, busyAt := s.now, gap := true, slots0 := none, cur := p.cur.map fun c => { c with contending := false } }

/-- CARRIER_SENSE_BUSY (R445): a preamble, or energy for 5.12 us; the receivers are blanked while the device sends (R437). -/
def execCarrierSenseBusy (t : Nat) (_preamble : Bool) (s : State) : Host.Outcome State Fault Refusal :=
  .next (s.onLink t fun s => if s.plc.sending then s else senseBusy s)

/-- The extended gap has run 1.50 ms: priority resolution begins at once, in the slots that follow an EOF 143.36 us ago (R445). -/
def gapEnd (s : State) : State :=
  if s.plc.gap && s.plc.busyAt + 73728 ≤ s.now then
    s.modPlc fun p => { p with busy := false, gap := false, eof := some (s.now - sampleClocks classSlots) }
  else s

/-- EXTENDED_GAP_END (R445). -/
def execExtendedGapEnd (t : Nat) (s : State) : Host.Outcome State Fault Refusal := .next (s.onLink t gapEnd)

/-- A transmission whose outcome is known: the loss ratio, the blocks still to send, the alternate and the end (R446, R454, R455). Bit j of a
BITMAP is the j-th block that the transmission carried. -/
def hopOutcome (bitmap : BitVec 16) (s : State) : State :=
  match s.plc.cur with
  | none => s
  | some c =>
    let good := c.left.zipIdx.filterMap fun (i, j) => if bitmap.getLsbD j then some i else none
    let acked := c.acked.zipIdx.map fun (a, i) => a || good.contains i
    let s := if c.try_ = 1 then
        let f : Rat := ((c.left.length - good.length : Nat) : Rat) / (Nat.max 1 c.left.length : Rat)
        s.modNeigh c.next fun n => { n with loss := n.loss + (f - n.loss) / 16 }
      else s
    if acked.all id then
      let hops := s.routeHops c.frame.final
      let s := s.modPlc fun p => { p with cur := none }
      match c.frame.order with
      | some k => s.modPlc fun p =>
          { p with awaiting := p.awaiting ++ [{ order := k, tries := c.total, hops, since := some s.now, mseq := c.frame.mseq }] }
      | none => s
    else if c.try_ < 8 then s.modPlc fun p => { p with cur := some { c with acked, sent := false } }
    else
      let alt := ((s.plc.routes.find c.frame.final).bind (·.alternate)).filter fun a => a.next ≠ c.next
      match c.altTried, alt with
      | false, some a =>
        s.modPlc fun p => { p with cur := some { c with
          next := a.next, try_ := 0, altTried := true, sent := false, acked := List.replicate c.nblk false } }
      | _, _ => frameDone c.frame 1 c.total (s.routeHops c.frame.final) (s.modPlc fun p => { p with cur := none })

/-- A frame of this device awaits its SACK, and so many samples have passed since its EOF. -/
def State.awaitsSack (s : State) (after : Nat) : Bool :=
  s.plc.cur.any (fun c => c.sent && c.next != 0xFFFF) && !s.plc.sending && s.plc.eof.any fun e => reached e after s.now

/-- A SACK that ends now (R442): it counts where its preamble began 30.08 to 36.48 us after the own EOF, it comes from the receiver of the
hop and is for this node; BUSY acknowledges nothing. -/
def sackReceived (k : SackIn) (s : State) : State :=
  let b := k.control
  let timely := s.awaitsSack (1504 + 5120) && s.plc.eof.any fun e => samplesIn (s.now - e) ≤ 1824 + 5120 + 1
  if timely && controlOk 2 b && s.plc.net.any (fun n => field b 2 1 = (netHash n.name).toNat && field b 6 2 = n.node)
      && s.plc.cur.any fun c => field b 4 2 = c.next
  then hopOutcome (if (field b 1 1).testBit 0 then 0 else BitVec.ofNat 16 (field b 8 2)) s else s

/-- SACK_RECEIVED (R442). -/
def execSackReceived (t : Nat) (k : SackIn) (s : State) : Host.Outcome State Fault Refusal := .next (s.onLink t (sackReceived k))

/-- NO_SACK (R442, R446): the last SACK that would count has had its time. -/
def execNoSack (t : Nat) (s : State) : Host.Outcome State Fault Refusal :=
  .next (s.onLink t fun s =>
    if s.awaitsSack (1824 + 5120) then hopOutcome 0 (s.modPlc fun p => { p with ackFail := p.ackFail + 1 }) else s)

/-- The instant of a SACK (R41): 30.72 us after the end of the frame it answers, within 0.32 us: 1,494.2 to 1,525.7 master clocks. -/
def State.sackInstant (s : State) : Bool :=
  s.plc.eof.any fun e => decide (e + 1495 ≤ s.now) && decide (s.now ≤ e + 1525)

/-- The SACK that is due goes out (R431, R432, R442). -/
def sackTransmit (s : State) : State :=
  match s.plc.sackDue, s.plc.net with
  | some (node, map, busy), some net =>
    (emit (frameControl 2 (bit busy) (netHash net.name) 0 net.node node map.toNat) [] (frameSamples 0) s).modPlc fun p =>
      { p with sackDue := none }
  | _, _ => s

/-- SACK_TRANSMIT (R41, R442): the SACK that is due goes out at its instant. -/
def execSackTransmit (t : Nat) (s : State) : Host.Outcome State Fault Refusal :=
  .next (s.onLink t fun s => if s.sackInstant then sackTransmit s else s)

/-- DELIVERY_TIMEOUT (R456): 250 ms for each hop have passed since the first hop's full SACK. -/
def execDeliveryTimeout (t : Nat) (s : State) : Host.Outcome State Fault Refusal :=
  let s := s.advance t
  let late := s.plc.awaiting.filter fun a => a.since.any fun b => b + a.hops * 12288000 ≤ s.now
  .next (late.foldl (fun s a => sendDone a.order 1 a.tries a.hops s) s)

/-! ## Beacons (R447, R450 to R453) -/

/-- STRATUM of this device (R450). -/
def State.stratum (s : State) : Nat :=
  if s.plc.isCoordinator && s.time.source = 1 && s.time.locked then 1
  else if s.time.source = 2 then Nat.min 15 (((s.plc.chosen.map fun n => (s.plc.neighbour n).stratum).getD 14) + 1)
  else 15

/-- The 56 bytes of a beacon body (R450). -/
def beaconBody (s : State) (bseq : Nat) : List Byte :=
  leBytes 16 Config.deviceId.toNat ++ leBytes 1 s.stratum ++ leBytes 1 (bit s.plc.isCoordinator + 2 * bit s.trusted)
    ++ leBytes 2 s.plc.bseq ++ leBytes 2 bseq ++ zeros 2 ++ leBytes 8 s.plc.prevTx ++ leBytes 8 s.plc.prevZc ++ zeros 16

/-- A frame of the firmware at CA3 (R446). -/
def mgmtFrame (s : State) (type final mode : Nat) (body : List Byte) : MacFrame :=
  { type, hops := 0, orig := s.plc.node, final, destPolder := 0, srcPolder := 0, mseq := s.plc.mseq, cls := 3, mode, body, order := none }

/-- A beacon is queued at B(n) for the index NODE mod 125 of each second (R450). -/
def beaconSend (s : State) : State :=
  let p := s.plc
  if !s.plcServes || !(p.state = 2 || p.isCoordinator || p.silent) || s.time.off ≠ 0 || s.time.cad % 125 ≠ p.node % 125
      || p.beaconSec = some s.second then s
  else
    let b := (p.bseq + 1) % 2 ^ 16
    let f := mgmtFrame s 5 0xFFFF 2 (beaconBody s b)
    s.modPlc fun p => { p with bseq := b, beaconSec := some s.second, mgmt := p.mgmt ++ [f] }

/-- BEACON_SEND (R450). -/
def execBeaconSend (t : Nat) (s : State) : Host.Outcome State Fault Refusal := .next (beaconSend (s.advance t))

/-- The nearest of 0, 120 and 240 degrees of a difference in a mains period. -/
def nearestPhase (d : Int) (period : Nat) : Nat := (((d % (period : Int)).toNat * 6 + period) / (2 * period)) % 3

/-- A pair of beacons (R451, R452): an offset sample from the chosen neighbour, and the neighbour's phase. -/
def beaconPair (n prevTx zcAge stamp : Nat) (s : State) : State :=
  let s := if s.plc.chosen = some n then beaconSample ((prevTx : Rat) - (stamp : Rat)) s else s
  match s.plc.zcAt with
  | some z =>
    if s.plc.zcPeriod = 0 then s
    else
      let ph := nearestPhase ((zcAge : Int) - ((stamp : Int) - (z : Int))) s.plc.zcPeriod
      if (s.plc.neighbour n).phase = some ph then s
      else (s.modNeigh n fun x => { x with phase := some ph }).plcEvent 5 (BitVec.ofNat 32 (n + ph * 2 ^ 16))
  | none => s

/-- An authenticated beacon of node `n` with receive stamp `stamp` (R447, R450 to R453). -/
def beaconHeard (n stamp : Nat) (body : List Byte) (s : State) : State :=
  let id := BitVec.ofNat 128 (field body 0 16)
  let stratum := field body 16 1
  let flags := field body 17 1
  let prevSeq := field body 18 2
  let pair := Tab.find (s.plc.neighbour n).stamps prevSeq
  let mine := s.stratum
  let higher := mine > stratum || (mine = stratum && Config.deviceId.toNat > id.toNat)
  let s := s.modNeigh n fun x =>
    { x with
      stratum, trusted := flags.testBit 1, coordinator := flags.testBit 0, deviceId := id, beaconAt := some s.now
      stamps := [(field body 20 2, stamp)] }
  let s := if s.plc.state = 1 && !s.plc.silent then (s.modPlc fun p => { p with state := 2 }).plcEvent 1 (BitVec.ofNat 32 n) else s
  let s := s.modPlc fun p => { p with lastBeacon := s.now, chosen := p.choose }
  let s := if s.plc.isCoordinator && flags.testBit 0 && id ≠ Config.deviceId && higher then
      (s.modPlc fun p => { p with acting := true }).plcEvent 3 (BitVec.ofNat 32 n)
    else s
  let s := if n = s.plc.node && id ≠ Config.deviceId && higher && !s.plc.silent then
      ((s.modPlc fun p => { p with silent := true, state := 1 }).plcEvent 3 (BitVec.ofNat 32 n)).plcEvent 2 0
    else s
  let s := match pair with
    | some r => beaconPair n (field body 24 8) (field body 32 8) r s
    | none => s
  setBeaconLock s.beaconFresh s

/-- SEARCH_TIMEOUT (R447): 35 s without an authenticated beacon; never a coordinator. -/
def execSearchTimeout (t : Nat) (s : State) : Host.Outcome State Fault Refusal :=
  let s := s.advance t
  .next (if s.plc.state = 2 && !s.plc.isCoordinator && s.plc.lastBeacon + heardFor ≤ s.now then
      (s.modPlc fun p => { p with state := 1 }).plcEvent 2 0
    else s)

/-- BEACON_LOCK_LOSS (R451): 3 s without a beacon of the chosen neighbour. -/
def execBeaconLockLoss (t : Nat) (s : State) : Host.Outcome State Fault Refusal :=
  let s := s.advance t
  .next (if s.plc.lock && !s.beaconFresh then setBeaconLock false s else s)

/-- ZERO_CROSSING_EDGE (R452). -/
def execZeroCrossingEdge (t : Nat) (s : State) : Host.Outcome State Fault Refusal :=
  let s := s.advance t
  let x := s.stamp
  .next (if s.domOn 15 then s.modPlc fun p => { p with zcAt := some x, zcPeriod := (p.zcAt.map fun z => x - z).getD 0 } else s)

/-! ## Tone maps (R434, R435) -/

/-- SNR of each carrier, averaged over the last 16 frames from a neighbour (R434). -/
def Neigh.snr (n : Neigh) : List Rat :=
  (List.range 206).map fun k => (n.snrs.map fun l => l.getD k 0).sum / (Nat.max 1 n.snrs.length : Rat)

/-- The code of a carrier whose SNR, less the margin of 2.0 dB, is `x`: at rate 16/21 or 1/2. -/
def carrierCode (high : Bool) (snr : Rat) : Nat :=
  let x := snr - 2
  let l : List Rat := if high then [3, 6, 25 / 2, 37 / 2] else [1, 4, 10, 16]
  (l.filter fun t => t ≤ x).length

/-- The map for averaged SNRs: the rate with the larger b, on a tie 1/2; none where b falls below 103. -/
def chooseMap (snr : List Rat) : Option (Bool × List Nat) :=
  let hi := snr.map (carrierCode true)
  let lo := snr.map (carrierCode false)
  let (h, c) := if mapBits false lo < mapBits true hi then (true, hi) else (false, lo)
  if mapBits h c < 103 then none else some (h, c)

/-- A receiver's map for a neighbour is due (R435). -/
def Neigh.mapDue (n : Neigh) (now : Nat) : Bool :=
  match n.mapsIn.head? with
  | none => true
  | some m =>
    m.issued + seconds 1 ≤ now &&
      (m.issued + seconds 20 ≤ now || n.blocks.length < 10 * (n.blocks.filter id).length
        || (n.snr.zip m.snr).any fun (a, b) => decide (3 < absRat (a - b)))

/-- The body of a tone-map frame and what one says: number, rate and codes (R435; its layout is the model's, log 109). -/
def mapBody (m : ToneMap) : List Byte := leBytes 1 m.num ++ leBytes 1 (bit m.high) ++ m.codes.flatMap (leBytes 1)
/-- The map that a body says. -/
def mapOfBody (b : List Byte) (now : Nat) : ToneMap :=
  { num := field b 0 1, high := field b 1 1 = 1, codes := (List.range 206).map fun i => field b (2 + i) 1, issued := now, snr := [] }

/-- A receiver issues a new tone map, the one of number `num` (R434, R435). -/
def toneIssue (node num : Nat) (s : State) : State :=
  match Tab.find s.plc.neigh node with
  | none => s
  | some n =>
    if s.plc.state ≠ 2 || s.plc.silent || !s.plcServes || n.snrs.isEmpty || !n.mapDue s.now || num ≠ n.mapNum % 7 + 1 then s
    else match chooseMap n.snr with
      | none => s
      | some (high, codes) =>
        let x : ToneMap := { num, high, codes, issued := s.now, snr := n.snr }
        (s.modNeigh node fun y => { y with mapNum := x.num, mapsIn := (x :: y.mapsIn).take 2 }).modPlc fun p =>
          { p with mgmt := p.mgmt ++ [mgmtFrame s 3 node 1 (mapBody x)] }

/-- TONE_MAP_ISSUE (R435). -/
def execToneMapIssue (t node number : Nat) (s : State) : Host.Outcome State Fault Refusal := .next (toneIssue node number (s.advance t))

/-- TONE_MAP_EXPIRY (R435): maps of a link that were issued 30 s ago. -/
def execToneMapExpiry (t node : Nat) (s : State) : Host.Outcome State Fault Refusal :=
  let s := s.advance t
  .next (match Tab.find s.plc.neigh node with
    | none => s
    | some _ => s.modNeigh node fun n =>
        { n with mapOut := n.mapInForce s.now, mapsIn := n.mapsIn.filter fun m => s.now < m.issued + seconds 30 })

/-! ## Routing (R455) -/

/-- The entries this device advertises: itself, and every destination of its table. -/
def State.advEntries (s : State) (seq : Nat) : List (Nat × Nat × Nat × Nat) :=
  (s.plc.node, seq, 0, 0) :: s.plc.routes.map fun (d, r) => (d, r.seq, r.primary.cost, r.primary.hops)

/-- Entries in the bodies of one advertisement: 136 of 11 bytes each fit a frame (R448; layout and split are the model's, log 109). -/
def advBodies (l : List (Nat × Nat × Nat × Nat)) : List (List Byte) :=
  [0, 136].filterMap fun o =>
    let part := (l.drop o).take 136
    if part.isEmpty then none else some (part.flatMap fun (d, q, c, h) => leBytes 2 d ++ leBytes 4 q ++ leBytes 4 c ++ leBytes 1 h)

/-- The entries that a body lists. -/
def advOfBody (b : List Byte) : List (Nat × Nat × Nat × Nat) :=
  (List.range (b.length / 11)).map fun i => (field b (11 * i) 2, field b (11 * i + 2) 4, field b (11 * i + 6) 4, field b (11 * i + 10) 1)

/-- A joined device advertises its routes every 10 s, offset by a random 0 to 1 s (R455). -/
def advertise (s : State) : State :=
  if s.plc.state ≠ 2 || s.plc.silent || !s.plcServes || s.now < s.plc.advAt then s
  else
    let (r, s) := s.draw
    let seq := s.plc.ownSeq + 1
    let l := (advBodies (s.advEntries seq)).map (mgmtFrame s 4 0xFFFF 1)
    s.modPlc fun p => { p with ownSeq := seq, mgmt := p.mgmt ++ l, advAt := s.now + seconds 10 + r % seconds 1 }

/-- ROUTE_ADVERTISEMENT (R455). -/
def execRouteAdvertisement (t : Nat) (s : State) : Host.Outcome State Fault Refusal := .next (advertise (s.advance t))

/-- Routes not refreshed, and neighbours not heard with their links, for 35 s are removed (R454, R455); beacons are taken from one of those
that remain (R451). -/
def routeExpiry (s : State) : State :=
  s.modPlc fun p =>
    let p := { p with
      routes := p.routes.filter fun e => s.now < e.2.heard + heardFor
      neigh := p.neigh.filter fun e => s.now < e.2.heard + heardFor }
    { p with chosen := p.choose }

/-- ROUTE_EXPIRY (R454, R455). -/
def execRouteExpiry (t : Nat) (s : State) : Host.Outcome State Fault Refusal := .next (routeExpiry (s.advance t))

/-! ## Receiving (R441, R442, R448, R449, R455, R456) -/

/-- A frame is discarded under R449 (R458). -/
def discardFrame (s : State) : State := s.modPlc fun p => { p with discCount := p.discCount + 1 }

/-- CODE 7 for the discards of the second that has ended (R458). -/
def discardSecond (s : State) : State :=
  if s.plc.discCount = 0 then s
  else (s.modPlc fun p => { p with discCount := 0 }).plcEvent 7 (BitVec.ofNat 32 s.plc.discCount)

/-- Polder `p` exists at this device. -/
def State.polderExists (s : State) (p : Nat) : Bool := decide (p < 16) && (s.polder p).state != 0

/-- The frame must be answered with BUSY (R455). -/
def State.frameBusy (s : State) (f : MacFrame) : Bool :=
  if f.type ≠ 1 && f.type ≠ 2 then false
  else if f.final = s.plc.node || f.final = 0xFFFF then
    f.type = 1 && s.polderExists f.destPolder && 32 ≤ (s.polder f.destPolder).rxq.length
  else 16 ≤ s.plc.relay.length

/-- A data frame for this device (R456). -/
def deliver (f : MacFrame) (stamp : Nat) (s : State) : State :=
  let full := 32 ≤ (s.polder f.destPolder).rxq.length
  let s := if s.polderExists f.destPolder && !full then
      s.modPolder f.destPolder fun p => { p with rxq := p.rxq ++ [{
        src := f.orig, dest := f.final, srcPolder := f.srcPolder, destPolder := f.destPolder, priority := f.cls, mode := f.mode
        stamp, data := f.body, order := 0 }] }
    else s
  if f.final = 0xFFFF then s
  else
    let c := { mgmtFrame s 2 f.orig 0 (leBytes 4 f.mseq) with mseq := f.mseq }
    s.modPlc fun p => { p with mgmt := p.mgmt ++ [c] }

/-- An accepted MAC frame of node `stx` (R448). -/
def acceptFrame (stx : Nat) (f : MacFrame) (stamp : Nat) (s : State) : State :=
  let mine := f.final = s.plc.node || f.final = 0xFFFF
  if f.type = 5 then beaconHeard stx stamp f.body s
  else if f.type = 4 then
    match (s.plc.neighbour stx).cost s.now with
    | some c => (advOfBody f.body).foldl (advEntry stx c) s
    | none => s
  else if f.type = 3 then s.modNeigh stx fun n => { n with mapOut := some (mapOfBody f.body s.now) }
  else if !mine then
    if s.plc.state = 2 && !s.plc.silent then
      s.modPlc fun p => { p with relay := p.relay ++ [{ f with hops := (f.hops + 1) % 16, mode := 0 }] }
    else s
  else if f.type = 2 then
    match s.plc.awaiting.find? fun a => a.mseq = f.mseq with
    | some a => sendDone a.order 0 a.tries a.hops s
    | none => s
  else if f.type = 1 then deliver f stamp s else s

/-- The map that a frame is sent under is the current one of the link or the one before it (R435); a robust mode needs none. -/
def Neigh.decodes (n : Neigh) (control : List Byte) (now : Nat) : Bool :=
  field control 1 1 / 4 % 4 != 0
    || n.mapsIn.any fun m => decide (now < m.issued + seconds 30) && m.num == field control 3 1 / 16 % 8

/-- A frame of the own network whose frame control is decoded: what it tells of a neighbour (R434, R435, R454). -/
def heardFrom (stx : Nat) (f : FrameIn) (blocks : List Bool) (s : State) : State :=
  if (Tab.find s.plc.neigh stx).isNone then s
  else s.modNeigh stx fun n =>
    { n with heard := s.now, snrs := (f.snr :: n.snrs).take 16, blocks := ((blocks.map fun b => !b).reverse ++ n.blocks).take 64 }

/-- The MAC frame `m` of a start of frame (R448, R449): discarded where its tag fails or its PN is not new, else accepted. -/
def macReceived (net : Net) (stx : Nat) (f : FrameIn) (m : List Byte) (stamp : Nat) (s : State) : State :=
  match macOpen net f.control m with
  | none => discardFrame s
  | some x =>
    if (Tab.find s.plc.seen stx).any fun l => macPn m ≤ l then discardFrame s
    else
      let known := (Tab.find s.plc.neigh stx).isSome
      let s := s.modPlc fun p => { p with seen := p.seen.put stx (macPn m) }
      acceptFrame stx x stamp (if known then s else s.modNeigh stx fun n => { n with heard := s.now, snrs := [f.snr] })

/-- The grid of a start of frame begins at its EOF for every station that decodes its frame control (R441, R445). -/
def gridFrom (s : State) : State :=
  s.modPlc fun p =>
    { p with busy := true, busyAt := s.now, gap := false, eof := some s.now, slots0 := none
             cur := p.cur.map fun c => { c with contending := false } }

/-- A start of frame whose frame control is decoded, at its EOF (R441, R442, R449). Its receive stamp is that of its first sample (R451). The
receivers are blanked until 1.00 us after PLC_TXEN falls (R437). -/
def frameReceived (f : FrameIn) (s : State) : State :=
  let first := s.now - sampleClocks (frameSamples (field f.control 8 2))
  if !controlOk 1 f.control || s.plc.tx.any fun x => first < x.stop + sampleClocks 100 then s
  else
    let stamp := s.stampAt first
    let s := gridFrom s
    match s.plc.net with
    | none => s
    | some net =>
      let stx := field f.control 4 2
      let srx := field f.control 6 2
      if field f.control 2 1 ≠ (netHash net.name).toNat then s
      else if !(srx = net.node || srx = 0xFFFF) then heardFrom stx f [] s
      else
        let read := (s.plc.neighbour stx).decodes f.control s.now
        let blocks := f.blocks.map fun b => b && read
        let mac := if read then f.mac else none
        let busy := mac.any fun m => s.frameBusy (macHeader f.control m)
        let map := BitVec.ofNat 16 (maskOf ((List.range 16).filter fun i => blocks.getD i false))
        let s := heardFrom stx f blocks s
        let s := s.modPlc fun p =>
          { p with
            rxFrames := p.rxFrames + 1
            sackDue := if srx = net.node then some (stx, if busy then 0 else map, busy) else p.sackDue }
        match mac with
        | some m => if busy then s else macReceived net stx f m stamp s
        | none => s

/-- FRAME_RECEIVED (R441). -/
def execFrameReceived (t : Nat) (f : FrameIn) (s : State) : Host.Outcome State Fault Refusal := .next (s.onLink t (frameReceived f))

/-! ## Commands -/

/-- The effect of `plc.set_link` (R436, R459). -/
def plcSetLink (p : PlcSetLink) (s : State) : State :=
  let s := s.modPlc fun x => { x with link := p }
  plcRefresh (if p.enable = 0 then plcStop s else s)

/-- The effect of `plc.set_network` (R447, R449, R459); a change of NET_KEY resets PN and what was seen of others'. -/
def plcSetNetwork (p : PlcSetNetwork) (s : State) : State :=
  let same := s.plc.net.any fun n => n.key == p.netKey
  let s := plcStop s
  let s : State := { s with pol := s.pol.map fun e => (e.1, { e.2 with rxq := [] }) }
  let s := s.modPlc fun x =>
    { x with
      net := some { name := p.netName, node := p.node, coordinator := p.role = 1, key := p.netKey }
      neigh := [], routes := [], chosen := none, acting := false, silent := false, state := 0, sackDue := none
      pn := if same then x.pn else 0, pnStored := if same then x.pnStored else 0, seen := if same then x.seen else [] }
  setBeaconLock false (plcRefresh s)

/-- The effect of `plc.set_spectrum` (R438, R459). -/
def plcSetSpectrum (p : PlcSetSpectrum) (s : State) : State :=
  s.modPlc fun x =>
    { x with notches := p.notches.take p.nnotch, psd := p.psd, neigh := x.neigh.map fun (i, n) => (i, { n with mapOut := none }) }

/-- The effect of `plc.send` (R456): the frame joins its polder's queue. -/
def plcSend (order polder : Nat) (p : PlcSend) (s : State) : State :=
  let f : MacFrame := {
    type := 1, hops := 0, orig := s.plc.node, final := p.dest, destPolder := p.destPolder, srcPolder := polder, mseq := s.plc.mseq + 1
    cls := p.priority, mode := p.mode, body := p.data, order := some order }
  s.modPlc fun x => { x with mseq := x.mseq + 1, txq := x.txq.put polder (x.txq.get [] polder ++ [f]) }

/-- `plc.send` finds its queue full or the link not enabled (R395). -/
def State.plcFull (s : State) (polder : Nat) : Bool := s.plc.link.enable = 0 || 32 ≤ (s.plc.txq.get [] polder).length

/-- The result of `plc.recv` and the state without the frame (R457). -/
def plcRecv (polder : Nat) (s : State) : List Byte × State :=
  match (s.polder polder).rxq with
  | [] => (zeros 16, s)
  | f :: rest =>
    (leBytes 2 f.src ++ leBytes 1 f.priority ++ leBytes 1 f.mode ++ leBytes 2 f.data.length ++ zeros 2 ++ leBytes 8 f.stamp ++ f.data,
      s.modPolder polder fun p => { p with rxq := rest })

/-- The result of `plc.status` (R395). -/
def plcStatusBytes (s : State) : List Byte :=
  let p := s.plc
  leBytes 1 p.state ++ zeros 1 ++ leBytes 2 p.neigh.length ++ leBytes 2 p.routes.length ++ zeros 2 ++ leBytes 4 p.txFrames.toNat
    ++ leBytes 4 p.rxFrames.toNat ++ leBytes 4 p.ackFail.toNat ++ leBytes 1 (bit p.lock) ++ zeros 3

end Sys2Proof.Machine
end

