-- ==== Sys2Proof/Machine/Tandem.lean ====
section
/-! DEFINITION. Tandem operation: the link, heartbeats, roles and terms, checkpoints, reconciliation and takeover (18). -/
namespace Sys2Proof.Machine

/-- Tandem operation changed. -/
def State.modTdm (s : State) (f : Tdm → Tdm) : State := { s with tdm := f s.tdm }

/-- The tandem event (R537). -/
def State.tdmEvent (s : State) (code : Nat) (data : BitVec 32) : State := s.fire 644 code data

/-- The larger of two terms. -/
def maxTerm (a b : BitVec 32) : BitVec 32 := if a < b then b else a

/-- A term seen in a frame of the partner (R514). -/
def Tdm.see (t : Tdm) (term : BitVec 32) : Tdm := { t with seenTerm := maxTerm t.seenTerm term }

/-- A fault discards every outstanding command, and calibration runs and candidates with them (R278, R369, R370). -/
def discardAll (s : State) : State := calFault (s.abandon fun _ => true)

/-- The link can carry frames. -/
def State.tdmUp (s : State) : Bool := s.tdm.enabled && s.tdm.link && !s.tdm.retraining && s.domOn 16

/-! ## Training (R515 to R517) -/

/-- A training of the link ends (R515, R516, R537). -/
def linkTraining (l : TrainIn) (s : State) : State :=
  if !s.tdm.enabled || !s.domOn 16 then s
  else if l.strapsEqual || !l.identityOk || l.lanes = 0 then
    (s.modTdm fun t => { t with link := false, retraining := false, lanes := 0 }).tdmEvent 11
      (BitVec.ofNat 32 (bit l.strapsEqual + 2 * bit (!l.identityOk)))
  else
    let first := !s.tdm.everUp
    let wins := l.term < s.tdm.term || (l.term = s.tdm.term && s.pwr.tiebreak)
    let s := s.modTdm fun t =>
      { t.see l.term with
        link := true, retraining := false, lanes := l.lanes, trainings := t.trainings + 1, everUp := true, txSeq := 0, rxSeq := 0
        unacked := t.unacked.map fun f => { f with sent := s.now }
        roleNext := if first then some (if wins then .captain else .neither) else t.roleNext }
    s.tdmEvent 4 (BitVec.ofNat 32 l.lanes)

/-- LINK_TRAINING (R515). -/
def execLinkTraining (t : Nat) (l : TrainIn) (s : State) : Host.Outcome State Fault Refusal := .next (linkTraining l (s.advance t))

/-- A lane error has persisted for 100 us: the link retrains (R517). -/
def laneRetrain (s : State) : State :=
  if s.tdmUp then (s.modTdm fun t => { t with retraining := true, link := false, lanes := 0 }).tdmEvent 5 0 else s

/-- LANE_ERROR_RETRAIN (R517). -/
def execLaneErrorRetrain (t _lanes : Nat) (s : State) : Host.Outcome State Fault Refusal := .next (laneRetrain (s.advance t))

/-! ## Heartbeats (R519, R529, R530) -/

/-- CKPT_EPOCH of a heartbeat (R519): a captain's epoch in transfer, else the last complete one held. A captain with none in transfer names the last
one it began (DESIGN CHOICE, log 124). -/
def Tdm.heartEpoch (t : Tdm) : BitVec 32 :=
  if t.role == .captain then (t.outgoing.map (·.1)).getD t.epoch else (t.ckpt.map (·.epoch)).getD 0

/-- The heartbeat of the present cadence; `witness`: the level of WITNESS as it is sent (R519). -/
def State.heartbeat (s : State) (witness : Bool) : HeartOut where
  term := s.tdm.term
  cadence := s.time.cad
  role := s.tdm.role
  preferred := s.pwr.tiebreak
  witness := witness
  floodgate := s.guard.closed
  ckptEpoch := s.tdm.heartEpoch
  commits := s.tdm.commits
  bcount := BitVec.ofNat 32 s.book.count
  digest := s.tdm.digest

/-- HEARTBEAT_SEND (R519, R41): one in each cadence, between B(n) + 0.25 ms and B(n) + 0.50 ms. -/
def execHeartbeatSend (x : BeatIn) (s : State) : Host.Outcome State Fault Refusal :=
  let s := s.advance x.t
  .next (if s.tdmUp && !s.tdm.hbSent && 12288 ≤ s.time.off && s.time.off ≤ 24576 then
      s.modTdm fun y => { y with hbSent := true, hbOut := some (s.heartbeat x.witness) } else s)

/-- HEARTBEAT_ACKNOWLEDGED (R519, R530): by B(n) + 2.00 ms. -/
def execHeartbeatAcknowledged (t : Nat) (s : State) : Host.Outcome State Fault Refusal :=
  let s := s.advance t
  .next (if s.tdm.hbSent && s.time.off ≤ 98304 && !s.tdm.unackDone then
      s.modTdm fun x => { x with acks := true :: x.acks.drop 1, unackRun := 0, linkDown := false }
    else s)

/-- HEARTBEAT_UNACKNOWLEDGED (R530): two in a row set LINK to 0 at the captain. -/
def heartbeatUnacked (s : State) : State :=
  if !s.tdm.enabled || s.tdm.unackDone || s.tdm.acks.headD true || s.time.off < 98304 || s.tdm.role != .captain then s
  else
    let run := s.tdm.unackRun + 1
    let down := run = 2 && !s.tdm.linkDown
    let s := s.modTdm fun x => { x with unackDone := true, unackRun := run, linkDown := x.linkDown || run = 2 }
    if down then s.tdmEvent 5 0 else s

/-- HEARTBEAT_UNACKNOWLEDGED (R530). -/
def execHeartbeatUnacknowledged (t : Nat) (s : State) : Host.Outcome State Fault Refusal := .next (heartbeatUnacked (s.advance t))

/-- HEARTBEAT_MISSED (R529): the second in a row makes a stoker suspect the captain. -/
def heartbeatMissed (s : State) : State :=
  if !s.tdm.enabled || !s.tdm.everUp || s.tdm.hbGot || s.tdm.missDone || s.time.off < 49152 then s
  else
    let run := s.tdm.missedRun + 1
    let s := s.modTdm fun x =>
      { x with missDone := true, missedRun := run, suspect := x.suspect || (2 ≤ run && x.role == .stoker)
               linkDown := x.linkDown || (2 ≤ run && x.role == .stoker) }
    s.tdmEvent 6 (BitVec.ofNat 32 s.time.cad)

/-- HEARTBEAT_MISSED (R529). -/
def execHeartbeatMissed (t : Nat) (s : State) : Host.Outcome State Fault Refusal := .next (heartbeatMissed (s.advance t))

/-- A claim reaches a captain: the lower term yields, on equal terms the device that is not preferred (R532). -/
def claimHeard (term : BitVec 32) (s : State) : State :=
  s.modTdm fun t =>
    let t := t.see term
    if t.role == .captain && (t.term < term || (t.term = term && !s.pwr.tiebreak)) then { t with yieldTo := some term } else t

/-- CLAIM_RECEIVED (R532). -/
def execClaimReceived (t : Nat) (term : BitVec 32) (s : State) : Host.Outcome State Fault Refusal :=
  let s := s.advance t
  .next (if s.tdmUp then claimHeard term s else s)

/-- A heartbeat that arrives by B(n) + 1.00 ms (R519, R522, R529, R531, R532). -/
def heartbeatHeard (h : HeartIn) (s : State) : State :=
  let s := s.modTdm fun t => t.see h.term
  if h.cadence ≠ s.time.cad || 49152 < s.time.off then s
  else
    let s := s.modTdm fun t => { t with hbGot := true, missedRun := 0, suspect := false, linkDown := t.linkDown && t.role == .captain }
    let t := s.tdm
    if h.role == .captain && t.role == .captain then claimHeard h.term s
    else if h.role == .captain then
      let s := s.modTdm fun t => { t with term := maxTerm t.term h.term }
      if t.role == .stoker &&
          (h.commits ≠ t.commits || h.digest ≠ t.digest || h.bcount ≠ BitVec.ofNat 32 s.book.count) then
        (s.modTdm fun t => { t with roleNext := some .neither }).tdmEvent 8 (BitVec.ofNat 32 s.time.cad)
      else s
    else if t.role == .captain then
      let s := s.modTdm fun t => { t with heldEpoch := h.ckptEpoch }
      if h.ckptEpoch ≠ t.epoch then s
      else s.modTdm fun t => { t with outgoing := none, handover := t.handover.map fun x => (x.1, true) }
    else s

/-- HEARTBEAT_RECEIVED (R519). -/
def execHeartbeatReceived (t : Nat) (h : HeartIn) (s : State) : Host.Outcome State Fault Refusal :=
  let s := s.advance t
  .next (if s.tdmUp then heartbeatHeard h s else s)

/-! ## Frames that must be acknowledged (R518) -/

/-- FRAME_RESEND (R518): frames not covered within 50 us are sent again. -/
def execFrameResend (t : Nat) (s : State) : Host.Outcome State Fault Refusal :=
  let s := s.advance t
  .next (if s.tdmUp then
      s.modTdm fun x => { x with unacked := x.unacked.map fun f => if f.sent + 2458 ≤ s.now then { f with sent := s.now } else f }
    else s)

/-- A prepare or journal frame goes to the stoker for the command taken `order`-th. -/
def sendFrame (order : Nat) (prepare : Bool) (s : State) : State :=
  s.modTdm fun t => { t with
    txSeq := t.txSeq + 1, unacked := t.unacked ++ [{ seq := t.txSeq + 1, sent := s.now, order, prepare }] }

/-! ## Checkpoints (R523 to R525, R527) -/

/-- READING_SIGNED (R318): a captain journals the reading once it is posted, without waiting (R521). -/
def execReadingSigned (t : Nat) (s : State) : Host.Outcome State Fault Refusal :=
  let s := s.advance t
  .next (match s.sign.busy with
    | none => s
    | some r =>
      let u := readingSigned s
      if u.tdm.role == .captain then sendFrame r.held.order false u else u)

/-- The authority state as it stands (R523). -/
def authorityOf (s : State) : Authority where
  meters := s.mtr.filter fun e => e.2.state != .undefined
  ledgers := s.led
  tariffs := s.tar
  polders := s.pol
  guardResp := s.guard.resp
  guardKey := s.guard.key
  mark := s.time.causes.getLsbD 2
  count := s.book.count
  term := s.tdm.term
  log := s.log.entries.filter fun e => s.tdm.logAt < e.seq

/-- The reference values of a ledger (R527). -/
def refOf (l : Ledger) : RefVal where
  total := l.total
  rate := l.rate
  acc := l.demand.map fun d => (d.acc, d.closes)
  md := List.replicate 4 (0, 0)
  tamper := l.tamper.map (·.count)
  records := l.records
  stickyRead := 0
  stickyPeriod := 0

/-- The later of two demand maxima. -/
def maxDemand (a b : Nat × Nat) : Nat × Nat := if a.1 < b.1 then b else a

/-- What a shadow has set since the last reference joins the reference of the complete epoch, and counting starts again (R527). -/
def foldSince (s : State) : State :=
  let add (m : Nat) (r : RefVal) : RefVal :=
    let l := s.ledger m
    { r with
      stickyRead := r.stickyRead ||| l.sinceRead, stickyPeriod := r.stickyPeriod ||| l.sincePeriod
      md := (r.md.zip l.sinceMd).map fun x => maxDemand x.1 x.2 }
  { s with
    tdm := { s.tdm with ckpt := s.tdm.ckpt.map fun c => { c with refs := c.refs.map fun (m, r) => (m, add m r) } }
    led := s.led.map fun (m, l) => (m, { l with sinceRead := 0, sincePeriod := 0, sinceMd := List.replicate 4 (0, 0) }) }

/-- The captain captures a checkpoint at a boundary, abandoning one in transfer (R524). -/
def captureNow (s : State) : State :=
  let a := authorityOf s
  s.modTdm fun t =>
    { t with epoch := t.epoch + 1, outgoing := some (t.epoch + 1, a, s.b), logAt := s.log.seq
             handover := t.handover.map fun x => (x.1, false) }

/-- At a boundary that begins an RTC second the captain captures, and the other device takes reference values (R524, R527). -/
def checkpointPass (s : State) : State :=
  if !s.tdm.enabled || !s.beginsSecond then s
  else if s.tdm.role == .captain then (if s.tdm.captainAt = some s.b then s else captureNow s)
  else
    let s := foldSince s
    s.modTdm fun t => { t with refsNext := s.led.map fun (m, l) => (m, refOf l), countAt := s.book.count, refsAt := s.b }

/-- CHECKPOINT_CAPTURE (R524). -/
def execCheckpointCapture (s : State) : Host.Outcome State Fault Refusal := .next (checkpointPass s)

/-- A block of a checkpoint is written to the buffer that does not hold the last complete epoch (R525). -/
def blockReceived (epoch : BitVec 32) (block : Nat) (data : List Byte) (s : State) : State :=
  if !s.tdmUp || s.tdm.role == .captain || s.tdm.role == .single then s
  else s.modTdm fun t =>
    let old : Tab (List Byte) := match t.incoming with
      | some (e, b) => if e = epoch then b else []
      | none => []
    { t with incoming := some (epoch, old.put block data) }

/-- CHECKPOINT_BLOCK_RECEIVED (R525). -/
def execCheckpointBlockReceived (t : Nat) (epoch : BitVec 32) (block : Nat) (data : List Byte) (s : State) : Host.Outcome State Fault Refusal :=
  .next (blockReceived epoch block data (s.advance t))

/-! ## Reconciliation (R528) -/

/-- X_c + (X_s - X_s(k_e)) modulo 2^96. -/
def corrected (c x r : Nat) : Nat := (c + x + 2 ^ 96 - r) % 2 ^ 96

/-- Lists corrected value by value. -/
def correctedAll (c x r : List Nat) : List Nat :=
  (List.range x.length).map fun i => corrected (c.getD i 0) (x.getD i 0) (r.getD i 0)

/-- A demand quantity (R528): the sub-interval open at k_e continues the captain's; those closed later are the shadow's. -/
def reconcileDemand (c x : Demand) (r : Nat × Nat) : Demand :=
  if x.closes = r.2 then { x with acc := c.acc + x.acc - r.1, short := false, hist := c.hist }
  else
    let i := x.closes - r.2 - 1
    { x with hist := (x.hist.take i ++ [(c.acc + (x.hist.getD i (0, true)).1 - r.1, false)] ++ c.hist).take 14 }

/-- RECORDS (R528): those of the checkpoint, updated by what the shadow has recorded since. -/
def reconcileRecords (c r x : Records) : Records :=
  let out := x.outageCount != r.outageCount
  let loss := x.dlossCount != r.dlossCount
  let dflt := x.defaultCadences != r.defaultCadences
  { sealCount := c.sealCount, sealState := c.sealState, sealTime := c.sealTime
    outageCount := c.outageCount + (x.outageCount - r.outageCount)
    dlossCount := c.dlossCount + (x.dlossCount - r.dlossCount)
    outageLast := if out then x.outageLast else c.outageLast
    outageFirst := if out then x.outageFirst else c.outageFirst
    dlossFirst := if loss then x.dlossFirst else c.dlossFirst
    dlossLast := if loss then x.dlossLast else c.dlossLast
    defaultCadences := c.defaultCadences + (x.defaultCadences - r.defaultCadences)
    defaultFirst := if dflt && c.defaultCadences = 0 then x.defaultFirst else c.defaultFirst
    defaultLast := if dflt then x.defaultLast else c.defaultLast }

/-- The corrected ledger of a meter (R528): checkpoint `c`, reference `r`, shadow `x`. -/
def reconcile (c : Ledger) (r : RefVal) (x : Ledger) : Ledger :=
  let same := x.period = c.period
  let lasting (l : List Nat) : List Nat := l.map fun v => v / 2 ^ 16 % 2 ^ 64
  { x with
    total := correctedAll c.total x.total r.total, rate := correctedAll c.rate x.rate r.rate
    demand := (List.range x.demand.length).map fun i =>
      reconcileDemand (c.demand.getD i Demand.unused) (x.demand.getD i Demand.unused) (r.acc.getD i (0, 0))
    md := (List.range 4).map fun i =>
      maxDemand (if same then c.md.getD i (0, 0) else (0, 0)) (maxDemand (r.md.getD i (0, 0)) (x.sinceMd.getD i (0, 0)))
    tamper := (List.range x.tamper.length).map fun i =>
      let e := x.tamper.getD i TamperEnt.zero
      let k := c.tamper.getD i TamperEnt.zero
      { e with count := k.count + (e.count - r.tamper.getD i 0), lastStart := Nat.max e.lastStart k.lastStart }
    stickyRead := c.stickyRead ||| r.stickyRead ||| x.sinceRead
    stickyPeriod := (if same then c.stickyPeriod else 0) ||| r.stickyPeriod ||| x.sincePeriod
    records := reconcileRecords c.records r.records x.records
    snap := x.snap.map fun (i, p) =>
      if c.period ≤ p.period then
        let tot := correctedAll c.total p.totFull r.total
        let rate := correctedAll c.rate p.rateFull r.rate
        (i, { p with tot := lasting tot, rate := lasting rate, totFull := tot, rateFull := rate })
      else (i, (Tab.find c.snap i).getD p) }

/-- Every ledger corrected from a complete epoch. -/
def reconcileAll (k : Ckpt) (s : State) : State :=
  { s with led := s.led.map fun (m, x) =>
    (m, match Tab.find k.content.ledgers m, Tab.find k.refs m with
      | some c, some r => reconcile c r x
      | some c, none => c
      | none, _ => x) }

/-! ## Roles (R513 to R516, R528 to R532) -/

/-- Any role but captain; the event of R537 is the caller's. -/
def State.setRole (s : State) (r : Role) : State := s.modTdm fun t => { t with role := r }

/-- The device assumes captaincy with a new term (R514, R537). -/
def becomeCaptain (s : State) : State :=
  let term := maxTerm s.tdm.term s.tdm.seenTerm + 1
  (s.modTdm fun t =>
    { t with role := .captain, term, seenTerm := term, suspect := false, linkDown := false, unackRun := 0, missedRun := 0
             outgoing := none, heldEpoch := 0, incoming := none, captainAt := some s.b, yieldTo := none, stokerDue := false, roleNext := none
             epoch := match t.ckpt with
               | some k => if t.epoch < k.epoch then k.epoch else t.epoch
               | none => t.epoch }).tdmEvent 1 (term.setWidth 32)

/-- A new captain whose seal count differs from the records writes one seal record (R536). -/
def sealCheck (s : State) : State :=
  let differs := s.sealedMeters.any fun m => (s.ledger m).records.sealCount != s.seals.count
  if differs then
    s.sealedMeters.foldl (fun s m => s.modLedger m fun l =>
      l.sealRecord s.seals.count s.seals.open_ s.trusted false s.stamp) s
  else s

/-- The takeover at BT (R528, R529, R369). -/
def takeover (s : State) : State :=
  let s := match s.tdm.ckpt with
    | some k => reconcileAll k s
    | none => s
  sealCheck (discardAll (becomeCaptain s))

/-- A stoker that suspects its captain, preferred or with WITNESS high. -/
def captaincyPass (witness : Bool) (s : State) : State :=
  if s.time.off = 0 && s.tdm.role == .stoker && s.tdm.suspect && (s.pwr.tiebreak || witness) then takeover s else s

/-- TANDEM_TAKEOVER (R529). -/
def execTandemTakeover (witness : Bool) (s : State) : Host.Outcome State Fault Refusal := .next (captaincyPass witness s)

/-- The device enters the role neither and discards its tickets (R530, R532). -/
def leaveCaptaincy (code : Nat) (data : BitVec 32) (s : State) : State :=
  let s := s.modTdm fun t => { t with role := .neither, outgoing := none, ckpt := none, handover := none, yieldTo := none, suspect := false }
  discardAll (s.tdmEvent code data)

/-- A captain without acknowledgements that is not preferred and sees WITNESS low. -/
def standDownPass (witness : Bool) (s : State) : State :=
  if s.time.off = 0 && s.tdm.role == .captain && 2 ≤ s.tdm.unackRun && !s.pwr.tiebreak && !witness then
    leaveCaptaincy 3 s.tdm.term s
  else s

/-- STAND_DOWN (R530). -/
def execStandDown (witness : Bool) (s : State) : Host.Outcome State Fault Refusal := .next (standDownPass witness s)

/-- A captain yields (R532). -/
def yieldPass (s : State) : State :=
  match s.tdm.yieldTo with
  | some term => if s.time.off = 0 && s.tdm.role == .captain then leaveCaptaincy 9 term s else s
  | none => s

/-- A captain yields (R532). -/
def execYield (s : State) : Host.Outcome State Fault Refusal := .next (yieldPass s)

/-- The captain whose extra checkpoint is complete becomes stoker. -/
def handoverPass (s : State) : State :=
  match s.tdm.handover with
  | some (_, true) =>
    if s.time.off ≠ 0 || s.tdm.role != .captain then s
    else
      let a := authorityOf s
      let s := s.modTdm fun t =>
        { t with role := .stoker, handover := none, outgoing := none, suspect := false, missedRun := 0
                 ckpt := some { epoch := t.epoch, content := a, refs := s.led.map fun (m, l) => (m, refOf l), at_ := s.b } }
      discardAll (foldSince (s.tdmEvent 2 s.tdm.term))
  | _ => s

/-- The stoker of a handover assumes captaincy without waiting for missed heartbeats (R531). -/
def handoverTake (s : State) : State :=
  if s.time.off = 0 && s.tdm.role == .stoker && s.tdm.ckpt.isSome && s.tdm.link then takeover s else s

/-- HANDOVER_EXECUTION (R531), at either device. -/
def execHandoverExecution (s : State) : Host.Outcome State Fault Refusal :=
  .next (if s.tdm.role == .stoker then handoverTake s else handoverPass s)

/-- A handover is abandoned after 125 cadences (R531). -/
def handoverAbandonPass (s : State) : State :=
  match s.tdm.handover with
  | some (b, false) => if b + 125 ≤ s.b then (s.modTdm fun t => { t with handover := none }).tdmEvent 10 0 else s
  | _ => s

/-- A handover is abandoned after 125 cadences (R531). -/
def execHandoverAbandoned (s : State) : Host.Outcome State Fault Refusal := .next (handoverAbandonPass s)

/-- A device that enters neither at the first link-up keeps only its measurement (R516). -/
def discardAuthority (s : State) : State :=
  { s with
    led := s.led.map fun (m, l) => (m, { Ledger.cleared 0 with exists_ := l.exists_, owner := l.owner, sealed := l.sealed, defGen := l.defGen })
    tar := [] }

/-- Roles decided for this boundary (R513, R516, R522, R525). -/
def rolePass (s : State) : State :=
  let s := match s.tdm.roleNext with
    | some .captain => becomeCaptain s
    | some _ =>
      let first := s.tdm.role == .neither
      let s := s.modTdm fun t => { t with role := .neither, roleNext := none, ckpt := none, stokerDue := false }
      let s := if first then discardAuthority s else s
      s.tdmEvent 3 s.tdm.term
    | none => s
  if s.tdm.stokerDue && s.tdm.role == .neither then
    (s.modTdm fun t => { t with role := .stoker, stokerDue := false, suspect := false, missedRun := 0 }).tdmEvent 2 s.tdm.seenTerm
  else s

/-- A new cadence for the heartbeats: `acks` holds the last 3 (R519, R534). -/
def heartbeatTurn (s : State) : State :=
  if !s.tdm.enabled then s
  else s.modTdm fun t => { t with hbSent := false, hbGot := false, missDone := false, unackDone := false, acks := (false :: t.acks).take 3 }

/-- What a boundary does to roles, ahead of step 1 of R27: standing down, yielding, handing over, taking over. -/
def tandemPass (witness : Bool) (s : State) : State :=
  if !s.tdm.enabled then s
  else heartbeatTurn (handoverAbandonPass (captaincyPass witness (handoverPass (yieldPass (standDownPass witness (rolePass s))))))

/-- The commit of `tandem.enable` with ENABLE 1 (R515). -/
def tandemOn (partner : BitVec 128) (s : State) : State :=
  if s.tdm.enabled && s.tdm.partnerId = partner then s
  else
    (s.modTdm fun t =>
      { Tdm.reset with enabled := true, partnerId := partner, role := .neither, term := t.term, seenTerm := t.term, trainings := t.trainings
                       epoch := t.epoch, logAt := t.logAt }).tdmEvent 3 s.tdm.term

/-- The commit of `tandem.enable` with ENABLE 0 (R516). -/
def tandemOff (s : State) : State :=
  s.modTdm fun t => { Tdm.reset with term := t.term, seenTerm := t.seenTerm, trainings := t.trainings, epoch := t.epoch, logAt := t.logAt }

/-- The commit of `tandem.handover` (R531). -/
def tandemHandover (s : State) : State := captureNow (s.modTdm fun t => { t with handover := some (s.b, false) })

/-- Captaincy ends with a restart of the device, and the link is down until it trains again. -/
def tandemRestart (s : State) : State :=
  s.modTdm fun t =>
    { t with
      role := if t.enabled then .neither else .single, link := false, lanes := 0, retraining := false
      unacked := [], hbSent := false, hbGot := false, missedRun := 0, acks := [], unackRun := 0, suspect := false, outgoing := none
      heldEpoch := 0, incoming := none, ckpt := none, mirrors := [], handover := none, yieldTo := none, waiting := [], stokerDue := false, roleNext := none }

/-- The device accepts authority commands (R520). -/
def State.acceptsAuthority (s : State) : Bool := s.tdm.role == .single || s.tdm.role == .captain

/-- The result of `tandem.status` (R399). -/
def tandemStatusBytes (s : State) : List Byte :=
  let t := s.tdm
  let role : Nat := match t.role with
    | .single => 0
    | .captain => 1
    | .stoker => 2
    | .neither => 3
  let epoch : BitVec 32 := if t.role == .captain then t.heldEpoch else (t.ckpt.map (·.epoch)).getD 0
  leBytes 1 role ++ leBytes 1 (bit (t.link && !t.linkDown)) ++ zeros 2 ++ leBytes 4 t.term.toNat ++ leBytes 4 epoch.toNat ++ zeros 4
    ++ leBytes 16 t.partnerId.toNat

end Sys2Proof.Machine
end

