-- ==== Sys2Proof/Machine/Power.lean ====
section
/-! DEFINITION. Domain changes, device states, the power-fail sequence, starts and wakes (04), and the recording of what AON
latched (09, 17). -/
namespace Sys2Proof.Machine

/-! ## What a domain change does (R98 to R102, R117) -/

/-- Domain `n` is no longer ON: the wheels' slices serve no more (R155), and FASTTRIP_N asserts for them (R115). Other domains drain
first (R101). -/
def domLeaves (s : State) (n : Nat) : State := if 17 ≤ n then tripKickWheels (wheelLeavesOn (n - 17) s) else s

/-- What domain `n` still has in flight at the end of its drain is ended, with the marking of its service (R101). -/
def domEnds (s : State) (n : Nat) : State :=
  if n = 12 then pqLeavesOn s
  else if n = 14 || n = 15 then plcStop s
  else if n = 16 then s.modTdm fun t => { t with link := false, lanes := 0, retraining := false }
  else s

/-- Domain `n` is OFF: its working data are lost, and what it keeps in retention is its epoch (R102). -/
def domOff (s : State) (n : Nat) : State :=
  if n = 5 then { s with pwr := { s.pwr with metering := s.pwr.metering.return_ } }
  else if n = 8 then { s with mem := s.mem.clear 0x01800000 0x400000 }
  else if n = 9 then { s with mem := s.mem.clear 0x01C00000 0x400000 }
  else if n = 14 then plcKick s
  else if n = 15 then plcLost s
  else s

/-- Domains that rise at step 3 of a start, and those that rise at step 6, once the images are checked (R112; HST with APP, log 44). -/
def startDoms : List Nat := [1, 2, 3, 4, 6, 7]
/-- Domains of step 6. -/
def lateDoms : List Nat := [11, 10]

/-- Step 6 of a start: every domain of step 3 is ON, and the application cores and the host machinery rise (R112). -/
def lateRise (s : State) : State :=
  if s.pwr.state != .nap && startDoms.all s.domOn then lateDoms.foldl (fun s n => s.modDom n Dom.turnOn) s else s

/-- The metering engine returns to service (R117): where its epoch differs, it is re-initialised: the networks and crossing histories of
the meters start afresh, as they do with nothing in retention. -/
def meteringReachesOn (s : State) : State :=
  let fresh := s.pwr.metering.retained != some s.pwr.metering.epoch
  { s with
    pwr := { s.pwr with metering := s.pwr.metering.return_ }
    mtr := if fresh then s.mtr.map fun (m, x) => (m, { x with hilbert := [], cross := Cross.zero, freq := none }) else s.mtr }

/-- Domain `n` is ON: its units compare their epochs, and its services begin (R117). -/
def domReaches (s : State) (n : Nat) : State :=
  if n = 5 then meteringReachesOn s
  else if n = 12 then pqReachesOn s
  else if n = 13 then { s with relief := { s.relief with unit_ := s.relief.unit_.return_ } }
  else if n = 14 || n = 15 then plcRefresh s
  else if 17 ≤ n then detectionBegins (n - 17) (wheelReachesOn (n - 17) s)
  else lateRise s

/-- A rise completes (R100). -/
def domRise (n : Nat) (s : State) : State :=
  if (s.dom n).state == .rising then
    let s := s.modDom n fun d => d.riseDone s.now
    if s.domOn n then domReaches s n else s
  else s

/-- A drain completes (R100, R101, R106): what is still in flight ends. -/
def domDrain (n : Nat) (s : State) : State :=
  let st := (s.dom n).state
  if (st == .draining || st == .drainThenOn) && s.napOrder n then
    domOff ((domEnds s n).modDom n fun d => d.drainDone s.now) n
  else s

/-- DOMAIN_RISE_COMPLETE (R100). -/
def execDomainRiseComplete (t domain : Nat) (s : State) : Host.Outcome State Fault Refusal :=
  .next (if 0 < domain ∧ domain < 33 then domRise domain (s.advance t) else s.advance t)

/-- DOMAIN_DRAIN_COMPLETE (R100). -/
def execDomainDrainComplete (t domain : Nat) (s : State) : Host.Outcome State Fault Refusal :=
  .next (if 0 < domain ∧ domain < 33 then domDrain domain (s.advance t) else s.advance t)

/-- Domains that a change of orders has taken out of ON. -/
def leftOn (was now : State) : List Nat := (List.range 33).filter fun n => was.domOn n && !now.domOn n

/-- The decision of R96 at a boundary, with what it ends; the dry side makes it, outside NAP and once a start has committed stored
configuration (R112, R113). -/
def decidePass (s : State) : State :=
  if !s.pwr.dryOk || s.pwr.state == .nap || s.pwr.startBoundary then s
  else
    let t := decisionPass s
    (leftOn s t).foldl domLeaves t

/-! ## Loss of a domain (R98) -/

/-- Meters that the loss of domain `n` affects: those on the wheel, those whose wheel the relief engine serves, or every one for a
domain that every meter needs. -/
def lossMeters (s : State) (n : Nat) : List Nat :=
  let on (w m : Nat) : Bool := (defChannels (s.meter m).def_).any fun c => wheelOf c == w
  if 17 ≤ n then s.definedMeters.filter (on (n - 17))
  else if n = 13 then s.definedMeters.filter (on s.relief.wheel)
  else if 1 ≤ n && n ≤ 7 then s.definedMeters
  else []

/-- A command names an object in domain `n`, or its commit depends on the domain (R369). -/
def commandNeeds (n : Nat) (c : Cmd) : Bool :=
  let wheels (l : List Nat) : Bool := 17 ≤ n && l.any fun w => w + 17 == n
  let chans (l : List Nat) : Bool := wheels (l.map wheelOf)
  let pq : Bool := n == 12
  match c with
  | .wheelSetGear p => chans (bitsOf 128 p.channels.toNat)
  | .wheelSetJockey p => wheels (bitsOf 16 p.wheels.toNat)
  | .wheelServiceSpoke p => wheels [p.wheel]
  | .wheelReturnSpoke p => wheels [p.wheel]
  | .wheelUseRelief w _ => wheels [w] || n == 13
  | .chainLoadBank p => wheels (bitsOf 16 p.wheels.toNat)
  | .chainSwitchBank p => wheels (bitsOf 16 p.wheels.toNat)
  | .chainSetChannel p => chans [p.channel]
  | .chainSetTrip p => chans [p.channel]
  | .chainClearTrip m => chans (bitsOf 128 m.toNat)
  | .meterDefine p => chans (defChannels p) || n == 5
  | .meterUndefine _ | .meterMapCf _ => n == 5
  | .pqSetChannel p => pq || chans [p.channel]
  | .pqSetMeter _ | .pqArm _ _ | .pqTrigger _ | .pqRelease _ | .pqStreamClose _ => pq
  | .pqSetCapture p => pq || chans (p.channels.filter (· < 128))
  | .pqStreamOpen p => pq || chans (p.channels.filter (· < 128))
  | .calRun p => chans ((p.targets.take p.ntarget).map (·.channel))
  | .calCommit p => chans ((p.targets.take p.ntarget).map (·.channel))
  | .plcSetLink _ | .plcSetNetwork _ | .plcSetSpectrum _ | .plcSend _ => n == 14 || n == 15
  | .tandemEnable _ | .tandemHandover => n == 16
  | _ => false

/-- Domains of the dry side and the application cores: every command depends on them. -/
def commonDomain (n : Nat) : Bool := (1 ≤ n && n ≤ 4) || n == 6 || n == 7 || n == 10 || n == 11

/-- The domain is to be ON: as decided, or always outside NAP (R94, R96). -/
def domWanted (s : State) (n : Nat) : Bool :=
  if s.pwr.state == .nap then false
  else if commonDomain n then true
  else if n = 13 then s.relief.phase != .free
  else s.decides n

/-- Domain `n` is as the last decision left it: not OFF, and with no turn-off pending (R98, R99). -/
def Dom.decidedOn (d : Dom) : Bool :=
  d.state == .on || (d.state == .rising && !d.offPending) || d.state == .drainThenOn || d.riseFrom.isSome

/-- The units of domain `n`, and the domain as a whole, take a new epoch (R98, R116). -/
def newEpoch (n : Nat) (s : State) : State :=
  let s := { s with pwr := { s.pwr with advanced := [] } }
  if n = 5 then s.bumpMetering
  else if n = 12 then s.bumpPq
  else if n = 13 then s.bumpRelief
  else if 17 ≤ n then s.bumpWheel (n - 17)
  else s.bumpDom n

/-- Domain `n` loses power although it was not decided OFF (R98). -/
def domainLoss (n : Nat) (s : State) : State :=
  let d := s.dom n
  if d.decidedOn && s.pwr.state != .nap then
    let was := s
    let s := if 17 ≤ n && d.state == .on then { s with cut := s.cut.put (n - 17) (s.wheel (n - 17)) } else s
    let s := s.modDom n fun d => { d.endSpan s.now true with
      state := .off, riseFrom := none, drainAt := none, offPending := false, retained := some d.epoch }
    let s := s.fire 650 1 (BitVec.ofNat 32 n)
    let s := if d.state == .on then domLeaves s n else s
    let s := if d.state == .on || d.state == .drainThenOn then domEnds s n else s
    let s := domOff s n
    let needs (h : Held) : Bool := commonDomain n || s.out.staged.any fun g => g.held.order == h.order && commandNeeds n g.cmd
    let s := s.abandon needs
    let s := calFault s
    let s := if was.claimed n then
        (lossMeters was n).foldl (fun s m =>
          (ledgerOp m .cut (s.modLedger m fun l => l.domainLoss s.time.cad s.time.cad)).fire (256 + m) 3 (BitVec.ofNat 32 n))
          { s with pwr := { s.pwr with losses := s.pwr.losses ++ [(n, s.time.cad)] } }
      else s
    if domWanted s n then (newEpoch n s).modDom n Dom.turnOn else s
  else s

/-- DOMAIN_LOSS (R98); `epoch`: the state epoch of the domain that is lost (log 129). -/
def execDomainLoss (t domain : Nat) (epoch : BitVec 32) (s : State) : Host.Outcome State Fault Refusal :=
  let s := s.advance t
  .next (if 0 < domain ∧ domain < 33 ∧ (s.dom domain).epoch = epoch then domainLoss domain s else s)

/-- A boundary while a lost domain is not back: the cadence that closes is the last affected one so far (R98), and the sub-intervals that are
open at it are short (R306). -/
def lossPass (s : State) : State :=
  let back (n : Nat) : Bool := s.domOn n && (n < 17 || (s.wheel (n - 17)).settled)
  let s := (s.pwr.losses.filter fun e => !back e.1).foldl (fun s e => (lossMeters s e.1).foldl (fun s m => ledgerOp m .cut s) s) s
  let s := s.pwr.losses.foldl (fun s (n, first) =>
    (lossMeters s n).foldl (fun s m => s.modLedger m fun l =>
      if l.records.dlossFirst = first then { l with records := { l.records with dlossLast := Nat.max first s.closing.cad } } else l) s) s
  { s with pwr := { s.pwr with losses := s.pwr.losses.filter fun e => !back e.1 } }

/-! ## Device states (R103 to R106) -/

/-- Every output is in kickstand (R70, R115); the tandem outputs follow from their domain (`tdmIdle`). -/
def kickAll (s : State) : State :=
  { s with
    fab := s.fab.kick
    cf := s.cf.map fun (n, x) => (n, x.toKick), tripKick := 0xF, irqKick := true
    pwr := { s.pwr with hold := false }, plc := { s.plc with tx := none, dac := false } }

/-- The memories and the working data of the application cores are lost: sluice windows, results, captures, streams, queues. -/
def loseMemory (s : State) : State :=
  let s := s.drop fun _ => true
  { s with
    mem := []
    pq := { Pq.reset with unit_ := s.pq.unit_ }
    pol := s.pol.map fun (p, q) => (p, { q with queue := [], dropped := 0, overflow := false, rxq := [] })
    slu := s.slu.map fun (n, x) => (n, { Sluice.reset with epoch := x.epoch })
    evt := { s.evt with pending := 0 } }

/-- HUSH is entered (R105): the host ports sleep; the decision that follows turns off what HUSH keeps off. -/
def enterHush (s : State) : State :=
  { s with pwr := { s.pwr with state := .hush, held := s.pwr.state, hushWant := false, hushDefer := false, portsReady := false } }

/-- HUSH, once requested, is entered at the first boundary at which DEV_WAKE is low; DEV_WAKE high defers it (R104). A start in progress
is completed first. -/
def hushPass (s : State) : State :=
  if s.pwr.hushWant && s.pwr.portsReady && (s.pwr.state == .run || s.pwr.state == .trim) then
    if s.pwr.devWakeHigh then { s with pwr := { s.pwr with hushDefer := true } } else enterHush s
  else s

/-- A start that is complete enters the state it was to end in (R104, R106): NAP_RETURN, or the HUSH of stored configuration. -/
def afterStartPass (s : State) : State :=
  if s.pwr.portsReady then
    match s.pwr.after with
    | some .hush => { s with pwr := { s.pwr with after := none, hushWant := true } }
    | some d => { s with pwr := { s.pwr with after := none, state := d } }
    | none => s
  else s

/-- DEFERRED_HUSH_ENTRY (R104). -/
def execDeferredHushEntry (s : State) : Host.Outcome State Fault Refusal :=
  .next (if s.pwr.hushDefer && s.time.off = 0 then decidePass (hushPass s) else s)

/-- NAP is entered (R106): every domain but AON is ordered OFF, every output goes to kickstand, and what the switched-off memories
held is gone. -/
def enterNap (s : State) : State :=
  let s := { s with pwr := { s.pwr with
    held := if s.pwr.state == .hush then s.pwr.held else s.pwr.state
    state := .nap, pending := none, after := none, hushWant := false, hushDefer := false, portsReady := false
    startBoundary := false, losses := [] } }
  let t := (List.range 32).foldl (fun s i => s.modDom (i + 1) (Dom.turnOff s.now)) s
  let t := (leftOn s t).foldl (fun s n => domEnds (domLeaves s n) n) t
  let t := { t with closing := { t.closing with open_ := false }, older := [] }
  tandemRestart (calFault (loseMemory (kickAll t)))

/-! ## Recording what AON latched (R289, R498) -/

/-- The dry side runs: it records changes as they happen (R123, R289). -/
def State.dryRuns (s : State) : Bool :=
  s.pwr.porstHigh && !s.pwr.aonLost && !s.pwr.halted && s.pwr.dryOk && s.pwr.state != .nap && !s.pwr.startBoundary

/-- Seal changes latched in AON are recorded in order, those beyond the fourth as one; a level that still differs from the last
record's gives one record with the time unknown (R289). -/
def latchedSeals (s : State) : State :=
  let s := s.seals.latched.foldl (fun s (isOpen, time) => recordSeal isOpen time 0 true false s) s
  let s := if s.seals.further = 0 then s else recordSeal s.seals.open_ 0 (s.seals.further - 1) true true s
  let s := { s with seals := { s.seals with latched := [], further := 0 } }
  if s.seals.open_ != s.seals.recorded then recordSeal s.seals.open_ 0 0 false true s else s

/-- Tamper activations latched on VBAT are recorded in order of time (R498, R501, R509). -/
def latchedTampers (s : State) : State :=
  let l := s.tmp.vbat.mergeSort fun a b => decide (a.2.time ≤ b.2.time)
  let s := l.foldl (fun s (i, v) => s.guardFire i (672 + i) 3 (BitVec.ofNat 32 (1 + v.further)) v.time true) s
  { s with tmp := { s.tmp with vbat := [], latch := 0 } }

/-! ## Starts (R106, R112, R113) -/

/-- Every sluice that a polder holds starts a new epoch, its memory having been lost (R347, R371). -/
def startSluices (s : State) : State :=
  overTo 32 (fun s n => if (List.range 16).any fun p => (s.polder p).sluices.getLsbD n then s.loseSluice n else s) s

/-- A wet copy that is on trial does not survive another start: the former copy runs again (R341). -/
def trialBack (s : State) : State :=
  match s.flash.trial with
  | none => s
  | some (_, former) =>
    (runWet former { s with flash := { s.flash with trial := none } }).fire 642 5 (s.flash.wet former).version

/-- The fuse shadow is checked against the fuses, which prevail; one that disagrees is rewritten (R485, R503). -/
def fuseCheck (s : State) : State :=
  if s.guard.shadow = s.guard.fuses then s else { s with guard := { s.guard with shadow := s.guard.fuses } }.touch 1

/-- What a full start and a warm start share: the instants are counted afresh, the monitors of the main supplies wait to be armed again
(R496), and the first domains rise. -/
def beginStart (warm : Bool) (at_ : Nat) (s : State) : State :=
  let s := { s with
    pwr := { s.pwr with
      warm, startCount := s.pwr.startCount + 1, startAt := at_, firstPub := false, firstPubMs := 0, portsMs := 0
      portsReady := false, startBoundary := s.pwr.dryOk, mainWarn := false, afterPfail := false, pfail := false, pfailClosed := false, losses := [] }
    hp := s.hp.map fun (n, q) => (n, { q with perm := 0 })
    tmp := { s.tmp with armed := s.tmp.armed &&& 8 }
    flash := { s.flash with restarting := none } }
  let s := fuseCheck s
  let s := startDoms.foldl (fun s n => s.modDom n Dom.turnOn) s
  startSluices s

/-- The image checks of a start (R112, R113): the copy that runs, and the event of each failure. -/
def imageChecks (dryOk wetAOk wetBOk : Bool) (s : State) : State :=
  let own := if s.pwr.wetActive then wetBOk else wetAOk
  let other := if s.pwr.wetActive then wetAOk else wetBOk
  let s := { s with pwr := { s.pwr with dryOk, wetAOk, wetBOk, recovery := !wetAOk && !wetBOk } }
  let s := runWet (if !own && other then !s.pwr.wetActive else s.pwr.wetActive) s
  let s := if dryOk then s else s.fire 642 1 s.flash.dryVer
  if wetAOk && wetBOk then s
  else if wetAOk || wetBOk then s.fire 642 2 s.flash.wetVer
  else s.fire 642 3 s.flash.wetVer

/-- A region of flash, by its addresses, holds no granule that cannot be corrected (R484). -/
def State.regionGood (s : State) (lo hi : Nat) : Bool := s.flash.bad.all fun g => g < lo || hi ≤ g

/-- A warm start from NAP (R106): the images are checked again, and what held at the last check still holds unless an uncorrectable
granule has been found in the region since (log 44). The state that NAP_RETURN names follows once the start is complete. -/
def warmStart (s : State) : State :=
  let ret := s.pwr.wakeCfg.toNat / 16 % 4
  let p := s.pwr
  let dry := p.dryOk && s.regionGood 0 0x100000
  let s := trialBack (beginStart true s.now { s with pwr := { s.pwr with dryOk := dry } })
  let s := imageChecks dry (p.wetAOk && s.regionGood 0x200000 0x400000) (p.wetBOk && s.regionGood 0x400000 0x600000) s
  { s with pwr := { s.pwr with coldAon := false, state := .trim, after := some (if ret = 0 then .run else if ret = 1 then .trim else .hush) } }

/-- Step 7 of the start-up table, at the first boundary after step 6: stored configuration is committed (R112), meters wait for
their channels, and what AON latched is recorded. -/
def startBoundaryPass (s : State) : State :=
  if s.pwr.startBoundary && [1, 2, 3, 4, 6, 7, 11].all s.domOn then
    let s := { s with
      pwr := { s.pwr with startBoundary := false, outageOpen := true }
      mtr := s.mtr.map fun (m, x) =>
        (m, if x.state == .undefined then x
          else { Meter.reset m with state := .pending, def_ := x.def_, defGen := x.defGen, unbOn := x.unbOn })
      led := s.led.map fun (m, l) => (m, { l with demand := l.demand.map fun d => d.cut true })
      time := { s.time with steer := s.time.steerStored.getD 0, slew := 0, stepDue := none, ppsEdge := none, ppsFresh := true
                            ppsValid := false, beaconBuf := [], locked := false, everLocked := false, lockRun := 0, bigRun := 0
                            source := 0, holdoverFrom := none } }
    latchedTampers (latchedSeals (pnStart s))
  else s

/-! ## Wake (R118 to R123) -/

/-- The main supplies are absent: NAP followed a power-fail sequence, and they have not come back (R107, R110). -/
def State.suppliesGone (s : State) : Bool := s.pwr.afterPfail && s.pwr.mainWarn

/-- A wake reason (R118): in HUSH and within an episode as R119 says; in NAP a warm start, unless the supplies are absent, where it
latches (R123). -/
def wake (r : Nat) (s : State) : State :=
  if !s.pwr.porstHigh || s.pwr.aonLost || s.pwr.halted then s
  else if s.pwr.state == .nap then
    if s.suppliesGone then
      let old := if s.pwr.vbatNew then s.pwr.wakeCause else 0
      let onVbat := (s.pwr.vbatNew && s.pwr.vbatLatched) || s.pwr.aonVbat
      { s with pwr := { s.pwr with wakeCause := old ||| (1#7 <<< r), vbatLatched := onVbat, vbatNew := true } }
    else warmStart { s with pwr := s.pwr.reason r s.now }
  else s.wakeHush r

/-- A configurable reason, enabled by bit `i` of PWR_WAKE_CFG (R118). -/
def wakeIf (i r : Nat) (s : State) : State := if s.pwr.wakeCfg.getLsbD i then wake r s else s

/-- A change of the filtered level of SEAL_OPEN_N (R91, R288): recorded, or latched while the dry side does not run; a wake reason
where it is enabled (R118). -/
def sealChange (isOpen : Bool) (s : State) : State :=
  if s.seals.open_ == isOpen then s
  else
    let s := { s with seals := { s.seals with open_ := isOpen, changedAt := some s.now } }
    let s := if s.dryRuns then recordSeal isOpen s.stamp 0 false false s
      else if s.seals.latched.length < 4 then
        { s with seals := { s.seals with latched := s.seals.latched ++ [(isOpen, s.stamp)] } }
      else { s with seals := { s.seals with further := s.seals.further + 1 } }
    wakeIf 9 5 s

/-- Samples of the 32.768 kHz clock for which a new level of SEAL_OPEN_N must hold: 20 ms, the first whole number of its periods (R91,
log 120). -/
def sealSamples : Nat := 656

/-- Master clocks of 20 ms. -/
def sealClocks : Nat := 983040

/-- A new level has held for 20 ms: for as many samples as it takes, none of which precedes the last recognised change (R91). -/
def State.sealHeld (s : State) (held : Nat) : Bool :=
  sealSamples ≤ held && s.seals.changedAt.all fun t => t + sealClocks ≤ s.now

/-- SEAL_CHANGE (R91, R288). -/
def execSealChange (t : Nat) (x : SealIn) (s : State) : Host.Outcome State Fault Refusal :=
  let s := s.advance t
  .next (if s.sealHeld x.held then sealChange x.opened s else s)

/-- DEV_WAKE: a rising edge (R118, R119). -/
def execDevWake (t : Nat) (s : State) : Host.Outcome State Fault Refusal :=
  let s := s.advance t
  .next (wake 0 { s with pwr := { s.pwr with devWakeHigh := true } })

/-- AON_VBAT_CHANGEOVER (R122): no AON state is lost; the VDDAON monitors are disarmed (R496). -/
def execAonVbatChangeover (t : Nat) (s : State) : Host.Outcome State Fault Refusal :=
  let s := s.advance t
  .next { s with pwr := { s.pwr with aonVbat := true }, tmp := { s.tmp with armed := s.tmp.armed &&& 7 } }

/-- AON_VDDAON_RETURN (R122): VDDAON has been within its range for 2 ms. -/
def execAonVddaonReturn (t : Nat) (s : State) : Host.Outcome State Fault Refusal :=
  let s := s.advance t
  .next { s with pwr := { s.pwr with aonVbat := false }, tmp := { s.tmp with aonBack := s.now } }

/-- The main-supply warning comparator has released (R107). -/
def State.clearWarn (s : State) : State := { s with pwr := { s.pwr with mainWarn := false } }

/-- VDDC has been absent: nothing is left in retention (R102, R117). -/
def loseRetention (s : State) : State :=
  { s with
    pwr := { s.pwr with
      doms := s.pwr.doms.map fun (n, d) => (n, { d with retained := none })
      metering := { s.pwr.metering with retained := none } }
    whl := s.whl.map fun (w, x) =>
      (w, { overTo 9 (fun x k => x.modSlice k fun y => { y with retained := none, stale := false }) x with engRetained := none })
    relief := { s.relief with unit_ := { s.relief.unit_ with retained := none } }
    pq := { s.pq with unit_ := { s.pq.unit_ with retained := none } } }

/-- Main supplies back within range after a power-fail sequence (R110); `kept`: VDDC has been present throughout. -/
def mainReturn (kept : Bool) (s : State) : State :=
  if s.pwr.state == .nap && s.pwr.afterPfail && s.pwr.porstHigh && !s.pwr.aonLost && !s.pwr.halted then
    wake 6 ((if kept then s else loseRetention s).clearWarn)
  else s

/-- MAIN_RETURN (R110). -/
def execMainReturn (x : ReturnIn) (s : State) : Host.Outcome State Fault Refusal := .next (mainReturn x.kept (s.advance x.t))

/-! ## The power-fail sequence (R107) -/

/-- The main-supply warning asserts (R107): doorbells are no longer admitted, the monitors of the main supplies are disarmed
(R496), a slew ends (R462), and EV0690 fires. -/
def mainWarning (s : State) : State :=
  let s := { s with pwr := { s.pwr with mainWarn := true } }
  if s.pwr.state == .nap || !s.pwr.porstHigh || s.pwr.aonLost || s.pwr.pfail then s
  else
    { s with
      pwr := { s.pwr with pfail := true, pfailClosed := false, pfailCount := s.pwr.pfailCount + 1, lastComplete := false }
      time := { s.time with slew := 0 }
      tmp := { s.tmp with armed := s.tmp.armed &&& 8 } }.fire 690 1 0

/-- MAIN_SUPPLY_WARNING (R107). -/
def execMainSupplyWarning (t : Nat) (s : State) : Host.Outcome State Fault Refusal := .next (mainWarning (s.advance t))

/-- Power-down records: the last cadence measured, in the ledger of every defined meter (R107). -/
def powerDownRecords (s : State) : State :=
  s.definedMeters.foldl (fun s m => s.modLedger m fun l => { l with records := { l.records with outageLast := s.closing.cad } }) s

/-- Steps 3 of the power-fail sequence: the last cadence is published and booked at once, and the power-down records are written. -/
def closeMetering (p : PubIn) (s : State) : State :=
  let s := if s.closing.open_ && s.older.isEmpty then publish false (pubRun p s) s else s
  powerDownRecords (bookAll s)

/-- Steps 3 and 4 of the power-fail sequence, once B has passed. -/
def powerFailClose (p : PubIn) (s : State) : State :=
  if s.pwr.pfail && s.pwr.pfailClosed && s.older.isEmpty then
    let s := closeMetering p s
    let s := enterNap { s with pwr := { s.pwr with lastComplete := true } }
    { s with pwr := { s.pwr with pfail := false, pfailClosed := false, afterPfail := true, outageOpen := true } }
  else s

/-- POWER_FAIL_CLOSE (R107). -/
def execPowerFailClose (p : PubIn) (s : State) : Host.Outcome State Fault Refusal := .next (powerFailClose p s)

/-! ## PORST_N and AON (R111, R112, R563) -/

/-- Every domain but AON is in reset: nothing in retention, slices and engines at their stored states (R102, R111, R117). -/
def resetDomains (s : State) : State :=
  let s := { s with pwr := { s.pwr with doms := s.pwr.doms.map fun (n, d) =>
    (n, if n = 0 then d else { Dom.reset with epoch := d.epoch }) }, cut := [] }
  let s := overTo 16 (fun s w => wheelLeavesOn w s) s
  { s with
    whl := s.whl.map fun (w, x) =>
      let x := overTo 9 (fun x k => x.modSlice k fun y =>
        { y with retained := none, stale := false, climb := false, gears := [], failedAt := none }) x
      (w, { x with engine := 0, engFailed := false, engRetained := none, passRun := 0, lostFrom := none
                   verdicts := [], jcount := [], clean := [], test := WheelTest.reset, temp := 0, temps := [], tstale := true
                   calRun := none, bankA := x.bankA, bankB := x.bankB })
    relief := { Relief.reset with unit_ := { s.relief.unit_ with retained := none } }
    chan := s.chan.map fun (c, x) =>
      (c, { Chan.reset c with
        gearPolicy := x.gearPolicy, scale := x.scale, corner := x.corner, dcFreeze := x.dcFreeze, intEnable := x.intEnable
        cycleRef := x.cycleRef, envAttack := x.envAttack, envDecay := x.envDecay, trip := x.trip, sets := x.sets, pq := x.pq }) }

/-- PORST_N goes low (R111, R115): outputs in kickstand, domains in reset, a booking in progress rolled back (R109), waiting effects
of past boundaries complete in the ledger (R487). -/
def porstLow (s : State) : State :=
  let s := { s with pwr := { s.pwr with
    porstHigh := false, portsReady := false, startBoundary := false, pfail := false, pfailClosed := false, afterPfail := false
    episodeOpen := false, pending := none, after := none, hushWant := false, hushDefer := false, dryOk := false, wetAOk := false, wetBOk := false, recovery := false
    firstPub := false, losses := [] } }
  let s := { s with
    book := { s.book with awaiting := [] }
    closing := { s.closing with open_ := false }
    older := []
    led := s.led.map fun (m, l) => (m, l.settle s.b)
    sign := { queue := [], busy := none } }
  tandemRestart (loseMemory (kickAll (resetDomains s)))

/-- PORST_ASSERT (R111). -/
def execPorstAssert (t : Nat) (s : State) : Host.Outcome State Fault Refusal := .next (porstLow (s.advance t))

/-- A full start (R112): straps, clock, registers at reset, images, and the first domains. The stored state is in force again: NAP is
left for the state held before it, HUSH is entered once the start is complete (log 44). -/
def fullStart (r : StartIn) (s : State) : State :=
  let s := { s with
    fab := Fabric.reset
    pwr := { s.pwr with
      porstHigh := true, aonLost := false, halted := r.tmode, tiebreak := r.tiebreak, clkExt := decide (1000 ≤ r.mclk) } }
  if r.tmode then s
  else
    let was := s.pwr.state
    let s := { s with
      pwr := { s.pwr with
        coldAon := s.pwr.coldPend, coldPend := false
        state := if was == DevState.nap || was == DevState.hush then (if s.pwr.held == DevState.run then .run else .trim) else was
        after := if was == DevState.hush then some .hush else none, hushWant := false, hushDefer := false }
      hp := [], bc := Bcast.reset
      evt := { Evt.reset with disabled := s.evt.disabled, route := s.evt.route }
      par := { Par.reset with liveErrors := s.par.liveErrors, spares := s.par.spares, rowErrors := s.par.rowErrors, remap := s.par.remap }
      tmp := { s.tmp with armed := 0 } }
    imageChecks r.dryOk r.wetAOk r.wetBOk (trialBack (beginStart false s.now { s with pwr := { s.pwr with dryOk := r.dryOk } }))

/-- PORST_RELEASE (R112): also the start after AON has reset while PORST_N was high (R563). -/
def execPorstRelease (r : StartIn) (s : State) : Host.Outcome State Fault Refusal :=
  .next (if s.pwr.porstHigh && !s.pwr.aonLost then s else fullStart r s)

/-- AON resets (R111, R563): the RTC and every latch start again; what ledger MRAM, flash and the crest log hold stays. -/
def aonCold (s : State) : State :=
  let high := s.pwr.porstHigh
  let s := porstLow s
  let s := { s with
    pwr := { s.pwr with
      porstHigh := high, aonLost := high, coldPend := true, wakeCause := 0, collided := false, vbatLatched := false, vbatNew := false, episode := 0
      startCount := 0, pfailCount := 0, lastComplete := false, aonVbat := false, mainWarn := false, devWakeFirst := none, devWakeAt := none, reasonAt := none }
    time := { Time.reset with
      bnd := s.time.bnd + 1, steerStored := s.time.steerStored, alarmSeconds := 0, causes := 1 }
    seals := { s.seals with latched := [], further := 0 }
    tmp := { Tamper.reset with active := s.tmp.active, level := s.tmp.level } }
  s

/-- AON_COLD_START (R111, R563). -/
def execAonColdStart (s : State) : Host.Outcome State Fault Refusal := .next (aonCold s)

end Sys2Proof.Machine
end

