-- ==== Sys2Proof/Machine/Guards.lean ====
section
/-! DEFINITION. Memory integrity, logs, tamper inputs, supply monitors, the floodgate, restarts of one side, the alarm and the
periodic wake (17, 12, 16). -/
namespace Sys2Proof.Machine

/-! ## Guard sources whose event another rule gives (R499, R501) -/

/-- The response of guard source `g` closes the floodgate. -/
def State.closes (s : State) (g : Nat) : Bool := !s.fused g && (s.response g).response == 2

/-! ## Faults of one side (R369, R370, R481) -/

/-- The dry side restarts: every ticket is discarded, runs and candidates end, and its working state is rebuilt as at a start, with open
sub-intervals short (R278, R306, R369, R481). -/
def dryRestart (s : State) : State :=
  let s := discardAll s
  { s with led := s.led.map fun (m, l) => (m, { l with demand := l.demand.map fun d => d.cut true }) }

/-- Guard source 18 fires, and the dry side restarts. -/
def dryFault (s : State) : State := dryRestart (s.guardFire 18 642 6 0 s.stamp false)

/-- LOCKSTEP_MISMATCH (R369). -/
def execLockstepMismatch (t : Nat) (s : State) : Host.Outcome State Fault Refusal :=
  let s := s.advance t
  .next (if s.dryRuns then dryFault s else s)

/-- The wet side restarts (R341): the application cores stop, commands not yet committed are discarded, and the ports do not answer. Their
ST_ABANDONED completions are posted once the ports are ready (R370). `who`: the activating polder; `onTrial`: a trial follows. -/
def wetRestart (who : Nat) (copy onTrial : Bool) (s : State) : State :=
  let former := s.pwr.wetActive
  let held := s.out.held
  let s := calFault (plcRestart (s.drop fun _ => true))
  let s := runWet copy { s with out := { s.out with held } }
  { s with
    pwr := { s.pwr with portsReady := false, cores := s.pwr.cores.substitute }
    flash := { s.flash with restarting := some (who, onTrial), trial := if onTrial then some (s.now, former) else none } }

/-- A restart of the wet side for any other cause: during a trial the former copy returns (R341). A fault during a
trial (R345) is taken as one that restarts the wet side (log 127). -/
def wetFault (s : State) : State :=
  match s.flash.trial with
  | some (_, former) => wetRestart 0 former false s
  | none => wetRestart 0 s.pwr.wetActive false s

/-- The restart is complete (R341): the copy's check has passed and the ports are ready, or the check has failed and R113 applies. -/
def wetComplete (ok : Bool) (s : State) : State :=
  match s.flash.restarting with
  | none => s
  | some (who, onTrial) =>
    let ran := s.pwr.wetActive
    let mark (s : State) (b : Bool) : State := if ran then { s with pwr := { s.pwr with wetBOk := b } } else { s with pwr := { s.pwr with wetAOk := b } }
    let s := { mark s ok with flash := { s.flash with restarting := none } }
    let other := if ran then s.pwr.wetAOk else s.pwr.wetBOk
    let s := if ok then s
      else if other then (runWet (!ran) { s with flash := { s.flash with trial := none } }).fire 642 2 (s.flash.wet (!ran)).version
      else { s with pwr := { s.pwr with recovery := true }, flash := { s.flash with trial := none } }.fire 642 3 s.flash.wetVer
    let s : State := { s with
      pwr := { s.pwr with portsReady := s.pwr.state != DevState.hush && !s.pwr.startBoundary && (!s.pwr.dryOk || s.pwr.firstPub) }
      irqKick := s.irqKick && (s.pwr.state == DevState.hush || !s.pwr.dryOk)
      flash := { s.flash with trial := s.flash.trial.map fun (_, f) => (s.now, f) } }
    let s : State := s.abandon fun _ => true
    let s := s.fire 642 4 s.flash.wetVer
    if onTrial then s.fire (704 + who) 4 s.flash.wetVer else s

/-- WET_RESTART_COMPLETE (R341). -/
def execWetRestartComplete (t : Nat) (checkOk : Bool) (s : State) : Host.Outcome State Fault Refusal := .next (wetComplete checkOk (s.advance t))

/-- A trial of 600 s ends at the first boundary after them: the device restarts into the former copy (R341). -/
def trialPass (s : State) : State :=
  match s.flash.trial with
  | some (at_, former) =>
    if s.flash.restarting.isNone && at_ + seconds 600 ≤ s.now then (wetRestart 0 former false s).fire 642 5 (s.flash.wet former).version else s
  | none => s

/-- WET_TRIAL_EXPIRY (R341). -/
def execWetTrialExpiry (s : State) : Host.Outcome State Fault Refusal := .next (trialPass s)

/-! ## SRAM (R480 to R482) -/

/-- EV0648 with a code for a bank and row (R509). -/
def parityEvent (code bank row : Nat) (s : State) : State := s.fire 648 code (BitVec.ofNat 32 (bank + 4 * row))

/-- The offset of the block that holds offset `target` of a data area, walking blocks from offset `o`. -/
def blockAt (mem : Mem) (base size target : Nat) : Nat → Nat → Option Nat
  | 0, _ => none
  | n + 1, o =>
    if size ≤ o || Mem.read mem (base + o + 8) == 0xFF then none
    else
      let len := if (Mem.read mem (base + o + 9)).getLsbD 0 then 64 else 144
      if target < o + len then (if o ≤ target then some o else none) else blockAt mem base size target n (o + len)

/-- A word of a FROZEN segment is in error: the block's LOST_MASK is set, its BFLAGS LOST, and CFLAGS [1] of the segment (R480). -/
def captureError (k i address : Nat) (c : Capture) (s : State) : State :=
  let base := c.segAddr i + 256
  let size := capDataSize c.cfg
  let o := address - base
  let first := ofLE (s.mem.readAll (base - 256 + 36) 4)
  let pos := ofLE (s.mem.readAll (base - 256 + 40) 4)
  let s := match blockAt s.mem base size o (size / 64 + 1) (if o < pos then 0 else first) with
    | some b =>
      let flags := Mem.read s.mem (base + b + 12) ||| 8
      { s with mem := (s.mem.write (base + b + 12) flags).writeAll (base + b + 14) [0xFF, 0xFF] }
    | none => s
  let s := s.modCapture k fun c => c.modSeg i fun x => { x with cflags := x.cflags ||| 2 }
  { s with mem := s.mem.writeAll (base - 256 + 4) (leBytes 4 (((c.seg i).cflags ||| 2).toNat)) }

/-- The capture pool (R480). -/
def poolError (address : Nat) (s : State) : State :=
  s.pq.captures.foldl (fun s (k, c) =>
    (c.inState .frozen).foldl (fun s i =>
      if c.segAddr i + 256 ≤ address && address < c.segAddr i + 256 + capDataSize c.cfg then captureError k i address c s else s) s) s

/-- A stream's row that holds the word is dropped and counted, under the rules of spill blocks (R262, R480). -/
def streamError (address : Nat) (s : State) : State :=
  s.pq.streams.foldl (fun s (k, x) =>
    if x.base ≤ address && address < x.base + streamSpan x.cfg then
      let ring := x.base + 64 + x.size
      let i := (address - ring) / Nat.max 1 (x.cfg.nchan * blockSize x.cfg.format)
      let inRing := decide (address < ring)
      let at_ := if inRing then ofLE (s.mem.readAll (x.base + 64 + ((address - x.base - 64) / 16 * 16)) 8)
        else (x.staged[i]?.map (·.stamp)).getD 0
      if !inRing && x.staged.length ≤ i then s
      else
        let started := !x.spilling
        let ep := match x.episode with
          | some (a, b, n) => some (Nat.min a at_, Nat.max b at_, n + 1)
          | none => some (at_, at_, 1)
        let x := { x with
          dropped := x.dropped + 1, spilling := true, episode := ep, spills := if started then x.spills + 1 else x.spills
          staged := if inRing then x.staged else x.staged.eraseIdx i }
        let s := s.putStream k x s.mem
        if started then s.fire (608 + k) 1 (BitVec.ofNat 32 x.dropped) else s
    else s) s

/-- The sequence field of the record that holds an address of the result areas (R246, R480). -/
def sequenceField (address : Nat) : Nat :=
  let below (base len : Nat) : Nat := base + (address - base) / len * len
  if address < 0x014C0000 then below 0x01480000 0x200
  else if address < 0x01540000 then
    let b := below 0x014C0000 0x1000
    let o := address - b
    if o < 0x140 then b + 0x30 else if o < 0x5C0 then b + 0x140 else if o < 0xA40 then b + 0x5C0
    else if o < 0xC80 then b + 0xA40 else b + 0xC80
  else if address < 0x01544000 then below 0x01540000 0x40
  else below 0x01544000 0x40

/-- A window in progress of a channel is published with NOT_COMPUTED, and windows start anew (R480). -/
def windowSpoilt (s : State) (c : Nat) : State :=
  match (s.pqRec c).win with
  | none => s
  | some w => (windowClose c w s.fineNow w.cycles (!w.noSync) false false true s).modPq c fun r => { r with win := none, oldWin := none }

/-- The consequence of a parity error by region (R480, R481). -/
def parityConsequence (e : ParityIn) (s : State) : State :=
  let a := e.address
  let hit (s : State) : State := parityEvent 2 e.bank e.row s
  if a < 0x01200000 then hit (calFault (s.loseSluice ((a - 0x01000000) / 0x10000)))
  else if a < 0x01280000 || (0x01400000 ≤ a && a < 0x01480000) then
    if e.both then dryFault (parityEvent 5 e.bank e.row s) else parityEvent 1 e.bank e.row s
  else if a < 0x01400000 then wetFault (hit s)
  else if a < 0x01564000 then hit { s with mem := s.mem.writeAll (sequenceField a) (List.replicate 8 0xFF) }
  else if a < 0x01580000 then hit (e.channels.foldl windowSpoilt s)
  else if a < 0x01600000 then hit (streamError a s)
  else hit (poolError a s)

/-- The row's count, and its remap to the next free spare row at the second error; the count of a spare row that stands for it begins at zero
(R482). -/
def rowRepair (e : ParityIn) (s : State) : State :=
  let key := e.bank * 4096 + e.row
  let n := s.par.rowErrors.get 0 key + 1
  let s := { s with par := { s.par with rowErrors := s.par.rowErrors.put key n } }.touch 2
  let used := s.par.spares.get 0 e.bank
  if n < 2 then s
  else if used < 64 then
    parityEvent 3 e.bank e.row { s with par := { s.par with
      rowErrors := s.par.rowErrors.erase key, remap := s.par.remap.put key used, spares := s.par.spares.put e.bank (used + 1) } }
  else parityEvent 4 e.bank e.row s

/-- A parity error in live data (R480). -/
def parityError (e : ParityIn) (s : State) : State :=
  if 4 ≤ e.bank || e.address < 0x01000000 || 0x02000000 ≤ e.address || !s.pwr.porstHigh || s.pwr.state == .nap then s
  else
    let s := { s with par := { s.par with liveErrors := s.par.liveErrors.put e.bank (Nat.min 0xFFFF (s.par.liveErrors.get 0 e.bank + 1)) } }
    rowRepair e (parityConsequence e s)

/-- SRAM_PARITY_ERROR (R480). -/
def execSramParityError (t : Nat) (e : ParityIn) (s : State) : Host.Outcome State Fault Refusal := .next (parityError e (s.advance t))

/-! ## Flash (R484 to R486) -/

/-- EV0649 with a code at a flash address (R509). -/
def flashEvent (code address : Nat) (s : State) : State := s.fire 649 code (BitVec.ofNat 32 address)

/-- The image check of a dry restart fails (R113, R484): the device does not meter, and every output is in kickstand. -/
def dryImageLost (s : State) : State :=
  let s := { s with pwr := { s.pwr with dryOk := false } }
  ((kickAll s).fire 642 1 s.flash.dryVer)

/-! ### Regions held in two copies (R485, log 128) -/

/-- The first byte and the size of the flash regions held twice (R36). -/
def doubleRegion (k : Nat) : Nat × Nat := [(0x600000, 0x100000), (0x700000, 0x40000), (0x740000, 0x80000)].getD k (0, 0)

/-- Region `k` of those held twice. -/
def State.double (s : State) (k : Nat) : TwoCopies := s.dbl.regions.get TwoCopies.factory k

/-- The region with copy A (`false`) or B changed. -/
def TwoCopies.mod (x : TwoCopies) (b : Bool) (f : CopyState → CopyState) : TwoCopies := if b then { x with b := f x.b } else { x with a := f x.a }

/-- The copy that a read takes: the higher generation whose checks pass. -/
def TwoCopies.inUse (x : TwoCopies) : Bool := if x.a.bad then true else !x.b.bad && decide (x.a.gen < x.b.gen)

/-- A copy of region `k` is erased and written; its erases are counted (R485, R486). -/
def writeCopy (k : Nat) (b : Bool) (gen : Nat) (s : State) : State :=
  let x := (s.double k).mod b fun c => { gen, erases := c.erases + 1, bad := false }
  let s := { s with dbl := { s.dbl with regions := s.dbl.regions.put k x } }
  if 100000 < (if b then x.b else x.a).erases then
    flashEvent 3 ((doubleRegion k).1 + (if b then (doubleRegion k).2 / 2 else 0)) s
  else s

/-- The dry side writes what has changed into the older copy of each region, with the next generation (R485). -/
def storePass (s : State) : State :=
  if !s.dryRuns then s
  else
    let due := s.dbl.due
    [0, 1, 2].foldl (fun s k =>
      let x := s.double k
      if due.getLsbD k then writeCopy k (decide (x.b.gen ≤ x.a.gen)) (Nat.max x.a.gen x.b.gen + 1) s else s)
      { s with dbl := { s.dbl with due := 0 } }

/-- The region held twice and the copy that hold a flash address. -/
def doubleAt (a : Nat) : Option (Nat × Bool) :=
  (firstFrom (fun k => (doubleRegion k).1 ≤ a && a < (doubleRegion k).1 + (doubleRegion k).2) 3 0).map fun k =>
    (k, decide ((doubleRegion k).1 + (doubleRegion k).2 / 2 ≤ a))

/-- A copy fails a check: the other one is used (R484, R485). -/
def copyFails (a : Nat) (s : State) : State :=
  match doubleAt a with
  | some (k, b) => { s with dbl := { s.dbl with regions := s.dbl.regions.put k ((s.double k).mod b fun c => { c with bad := true }) } }
  | none => s

/-- The patrol rewrites a copy in error from the good one (R485). -/
def repairCopy (a : Nat) (s : State) : State :=
  match doubleAt a with
  | some (k, b) =>
    let x := s.double k
    let good := if b then x.a else x.b
    if good.bad then s else flashEvent 4 a (writeCopy k b good.gen s)
  | none => s

/-- What reading a granule with an error does (R484). Regions in the order of R36: dry image, its staging, wet A and B, calibration
sets, keys, stored configuration, general store. -/
def flashError (f : FlashIn) (s : State) : State :=
  if f.corrected then flashEvent 1 f.address { s with flash := { s.flash with corrected := s.flash.corrected + 1 } }
  else
    let g := f.address / 16 * 16
    let s := flashEvent 2 f.address s
    if 0x600000 ≤ g && g < 0x7C0000 then copyFails g s
    else
      let s := { s with flash := { s.flash with bad := if s.flash.bad.contains g then s.flash.bad else s.flash.bad ++ [g] } }
      if g < 0x100000 && s.dryRuns then dryImageLost (dryRestart s) else s

/-- FLASH_ECC_ERROR (R484). -/
def execFlashEccError (t : Nat) (e : FlashIn) (s : State) : Host.Outcome State Fault Refusal := .next (flashError e (s.advance t))

/-- Once every 24 h the dry side reads the dry regions and both wet copies; a copy held twice that is in error is rewritten (R484,
R485). -/
def flashPatrol (found : List FlashIn) (s : State) : State :=
  if s.dryRuns && s.flash.patrolAt + seconds 86400 ≤ s.now then
    let s := { s with flash := { s.flash with patrolAt := s.now } }
    (found.filter fun f => f.address < 0x7C0000).foldl (fun s f =>
      let s := flashError f s
      if f.corrected then s else repairCopy f.address s) s
  else s

/-- FLASH_PATROL (R484). -/
def execFlashPatrol (t : Nat) (found : List FlashIn) (s : State) : Host.Outcome State Fault Refusal := .next (flashPatrol found (s.advance t))

/-! ## Ledger MRAM and the logs (R488, R491 to R494) -/

/-- EV0647 CODE 1 with its crest entry (R488, R491). -/
def mramEvent (data : Nat) (s : State) : State :=
  let d := BitVec.ofNat 32 data
  let e : LogEntry := { time := s.stamp, owner := s.owner 647, source := 647, code := 1, lflags := s.lflags false false, data := d
                        seq := 0, detail := 0 }
  let s := if s.log.failed then s else s.crest e
  s.fire 647 1 d

/-- The event log is failed: a crest entry with CODE 2, and guard source 16 (R491, R499). -/
def logFails (s : State) : State :=
  if s.log.failed then s
  else
    let closes := s.closes 16
    let s := { s with log := { s.log with failed := true } }
    guardDue 16 closes (s.fireFull 647 2 0 s.stamp false false 0 closes)

/-- A location of the event log fails: it is not used again, and the sixteenth failure fails the log (R491). -/
def locationFails (loc address : Nat) (s : State) : State :=
  if s.log.failed || s.log.failedLocs.contains loc then mramEvent address s
  else
    let l := s.log
    let failed := l.failedLocs ++ [loc]
    let s := { s with log := { l with failedLocs := failed, pos := nextLoc failed l.pos } }
    let s := mramEvent loc s
    if 16 ≤ failed.length then logFails s else s

/-- The crest log fails (R494). -/
def crestFails (s : State) : State :=
  if s.log.crestFailed then s
  else
    let closes := s.closes 17
    let s := { s with log := { s.log with crestFailed := true, compromisedDue := s.log.compromisedDue || !s.log.compromised } }
    guardDue 17 closes (s.fireFull 647 4 0 s.stamp false false 0 closes)

/-- A 64-bit word of TAMPER (words 0 to 9), RECORDS (10 to 21) or SNAP (from 22 on, 41 for each snapshot) is set to zero (R292, R308,
R488). -/
def Ledger.zeroWord (l : Ledger) (w : Nat) : Ledger :=
  if w < 10 then
    { l with tamper := l.tamper.set (w / 2) (let e := l.tamper.getD (w / 2) TamperEnt.zero
                                             if w % 2 = 0 then { e with count := 0, active := false } else { e with lastStart := 0 }) }
  else if w < 22 then
    let r := l.records
    { l with records := match w - 10 with
      | 0 => { r with sealCount := 0, sealState := 0 }
      | 1 => { r with sealTime := 0 }
      | 2 => { r with outageCount := 0, dlossCount := 0 }
      | 3 => { r with outageLast := 0 }
      | 4 => { r with outageFirst := 0 }
      | 5 => { r with dlossFirst := 0 }
      | 6 => { r with dlossLast := 0 }
      | 7 => { r with defaultCadences := 0 }
      | 8 => { r with defaultFirst := 0 }
      | 9 => { r with defaultLast := 0 }
      | _ => r }
  else
    let i := (w - 22) / 41
    let k := (w - 22) % 41
    match l.snap.find i with
    | none => l
    | some x =>
      let x := if k = 0 then { x with period := 0, cause := 0, sflags := 0 }
        else if k = 1 then { x with open_ := 0 }
        else if k = 2 then { x with close := 0 }
        else if k < 19 then { x with tot := x.tot.set (k - 3) 0 }
        else if k < 35 then { x with rate := x.rate.set (k - 19) 0 }
        else
          let b := x.md.flatMap fun (v, o) => leBytes 8 v ++ leBytes 4 (o.getD 0xFFFFFFFF)
          let b := b.take (8 * (k - 35)) ++ zeros 8 ++ b.drop (8 * (k - 34))
          { x with md := (List.range 4).map fun n =>
            (field b (12 * n) 8, if field b (12 * n + 8) 4 = 0xFFFFFFFF then none else some (field b (12 * n + 8) 4)) }
      { l with snap := l.snap.put i x }

/-- What a word of ledger MRAM that cannot be corrected leads to (R488). -/
def mramError (e : MramIn) (s : State) : State :=
  if e.corrected then s
  else match e.part with
    | .block _ | .config => mramEvent e.address s
    | .record m w =>
      let s := s.modLedger m fun l => l.zeroWord w
      mramEvent e.address { s with log := { s.log with lost := if s.log.lost.contains m then s.log.lost else s.log.lost ++ [m] } }
    | .journal p => mramEvent e.address (s.modPolder p fun q => { q with journalAll := true })
    | .log loc => locationFails loc e.address s
    | .logState => logFails s
    | .crest => crestFails s

/-- MRAM_ECC_ERROR (R488). -/
def execMramEccError (t : Nat) (e : MramIn) (s : State) : Host.Outcome State Fault Refusal := .next (mramError e (s.advance t))

/-- From the first boundary after the first crest entry on, readings carry LOG_COMPROMISED (R493). -/
def compromisedPass (s : State) : State :=
  if s.log.compromisedDue then { s with log := { s.log with compromised := true, compromisedDue := false } } else s

/-- LOG_COMPROMISED (R493). -/
def execLogCompromised (s : State) : Host.Outcome State Fault Refusal := .next (compromisedPass s)

/-! ## Supply monitors (R495, R496) -/

/-- A monitor of supply `k` detects: its latch is set and its source fires (R495, R501). -/
def monitorFires (slow : Bool) (k : Nat) (s : State) : State :=
  let g := if slow then 12 + k else 8 + k
  if 4 ≤ k || !s.tmp.armed.getLsbD k || s.fused g then s
  else
    let b : BitVec 4 := 1#4 <<< k
    let s := if slow then { s with tmp := { s.tmp with slow := s.tmp.slow ||| b } } else { s with tmp := { s.tmp with glitch := s.tmp.glitch ||| b } }
    if s.dryRuns then s.guardFire g (674 + g) 1 0 s.stamp false else s

/-- SUPPLY_GLITCH (R495). -/
def execSupplyGlitch (t supply : Nat) (s : State) : Host.Outcome State Fault Refusal := .next (monitorFires false supply (s.advance t))

/-- SLOW_EXCURSION (R495). -/
def execSlowExcursion (t supply : Nat) (s : State) : Host.Outcome State Fault Refusal := .next (monitorFires true supply (s.advance t))

/-- A supply has been within its range for 2 ms since the start, or since AON's return to VDDAON: its monitors are armed (R496). -/
def monitorArm (k : Nat) (s : State) : State :=
  let ms2 := 98304
  if k < 4 && s.pwr.startAt + ms2 ≤ s.now && (k != 3 || s.tmp.aonBack + ms2 ≤ s.now) && s.pwr.porstHigh && !s.pwr.aonLost && s.pwr.state != .nap && !s.pwr.pfail && !(k == 3 && s.pwr.aonVbat) then
    { s with tmp := { s.tmp with armed := s.tmp.armed ||| (1#4 <<< k) } }
  else s

/-- MONITOR_ARM (R496). -/
def execMonitorArm (t supply : Nat) (s : State) : Host.Outcome State Fault Refusal := .next (monitorArm supply (s.advance t))

/-! ## Tamper inputs (R497, R498) -/

/-- The level at which input `i` is active (`on`) or inactive, by the polarity of its PARAM (R497). -/
def State.tamperHigh (s : State) (i : Nat) (on : Bool) : Bool := if (s.response i).param.getLsbD 0 then on else !on

/-- The bit of TMP_LEVEL for input `i` active or not (R497). -/
def tamperLevel (i : Nat) (on : Bool) (s : State) : BitVec 8 :=
  if s.tamperHigh i on then s.tmp.level ||| (1#8 <<< i) else s.tmp.level &&& ~~~(1#8 <<< i)

/-- The last 8 samples of input `i`, 1/1,024 s apart, are all at the level at which it is active or inactive, and none of them precedes its
last change (R497). -/
def State.tamperHeld (s : State) (i : Nat) (on : Bool) (samples : List Bool) : Bool :=
  let last := samples.drop (samples.length - 8)
  last.length = 8 && (last.all fun h => h == s.tamperHigh i on) && (Tab.find s.tmp.changed i).all fun t => decide (t + 8 * 48000 ≤ s.now)

/-- Input `i` is sampled: its response is not none, and it is not fused (R497, R502). -/
def State.sampled (s : State) (i : Nat) : Bool := i < 8 && !s.fused i && (s.response i).response != 0

/-- An input becomes active (R497, R498): recorded at once, or latched while the dry side does not run; and a wake reason where it is
enabled. -/
def tamperActive (i : Nat) (s : State) : State :=
  if !s.sampled i || s.tmp.active.getLsbD i then s
  else
    let level := tamperLevel i true s
    let s := { s with tmp := { s.tmp with active := s.tmp.active ||| (1#8 <<< i), level, changed := s.tmp.changed.put i s.now } }
    let s := if s.dryRuns then s.guardFire i (672 + i) 1 0 s.stamp false
      else
        let v := match s.tmp.vbat.find i with
          | some v => { v with further := Nat.min 255 (v.further + 1) }
          | none => { time := s.stamp, further := 0 }
        { s with tmp := { s.tmp with latch := s.tmp.latch ||| (1#8 <<< i), vbat := s.tmp.vbat.put i v } }
    wakeIf 8 4 s

/-- TAMPER_INPUT_ACTIVE (R497). -/
def execTamperInputActive (t : Nat) (x : TamperIn) (s : State) : Host.Outcome State Fault Refusal :=
  let s := s.advance t
  .next (if s.tamperHeld x.input true x.samples then tamperActive x.input s else s)

/-- An input becomes inactive (R497, R509). -/
def tamperInactive (i : Nat) (s : State) : State :=
  if !s.tmp.active.getLsbD i || 8 ≤ i then s
  else
    let level := tamperLevel i false s
    let s := { s with tmp := { s.tmp with active := s.tmp.active &&& ~~~(1#8 <<< i), level, changed := s.tmp.changed.put i s.now } }
    if s.dryRuns then s.fire (672 + i) 2 0 else s

/-- TAMPER_INPUT_INACTIVE (R497). -/
def execTamperInputInactive (t : Nat) (x : TamperIn) (s : State) : Host.Outcome State Fault Refusal :=
  let s := s.advance t
  .next (if s.tamperHeld x.input false x.samples then tamperInactive x.input s else s)

/-! ## The floodgate (R504, R506) -/

/-- A close response detected since the last boundary closes the floodgate, naming the lowest source; CF outputs go to kickstand. -/
def floodgatePass (s : State) : State :=
  match s.guard.due with
  | [] => s
  | g :: rest =>
    let low := rest.foldl Nat.min g
    let s := { s with guard := { s.guard with due := [] } }
    if s.guard.closed || !s.dryRuns then s
    else
      let s : State := { s with
        guard := { s.guard with closed := true }
        cf := s.cf.map fun (n, x) => (n, x.toKick) }
      s.fire 681 1 (BitVec.ofNat 32 low)

/-- FLOODGATE_CLOSE (R504). -/
def execFloodgateClose (s : State) : Host.Outcome State Fault Refusal := .next (floodgatePass s)

/-- CF outputs mapped to a meter that publishes leave kickstand, while the floodgate is open (R114, R506). -/
def cfLeave (s : State) : State :=
  if s.guard.closed || !s.pwr.dryOk || s.pwr.state == .nap then s
  else
    { s with cf := s.cf.map fun (n, x) =>
      (n, match x.map with
        | some m => if (s.meter m.meter).state == .defined then { x with kick := false } else x
        | none => x) }

/-- `guard.unlock` opens the floodgate (R507): CF outputs go on in phase. -/
def floodgateOpen (id : BitVec 32) (s : State) : State :=
  if s.guard.closed then cfLeave ({ s with guard := { s.guard with closed := false } }.fire 681 2 id) else s

/-! ## Alarm and periodic wake (R474, R475) -/

/-- The alarm fires: the time event, and its wake reason where it is enabled (R474). -/
def alarmFires (sec : Nat) (s : State) : State :=
  wakeIf 6 2 ({ s with time := { s.time with alarmAt := some sec } }.timeEvent 6 (BitVec.ofNat 32 sec))

/-- The count has entered a matching second (R474). -/
def alarmPass (s : State) : State :=
  if s.time.alarmOn && s.time.off = 0 && s.time.cad % 125 = 0 && s.time.matches s.second && s.time.alarmAt != some s.second then
    alarmFires s.second s
  else s

/-- A step has changed the count from `before` seconds: a forward step that skips or enters a matching second fires the alarm once,
and a backward step fires it where the count enters a matching second, now and later (R474). -/
def alarmStep (before : Nat) (s : State) : State :=
  if !s.time.alarmOn then s
  else if before < s.second then
    match s.time.nextMatch (before + 1) with
    | some m => if m ≤ s.second then alarmFires s.second s else s
    | none => s
  else if s.second < before then
    let s := { s with time := { s.time with alarmAt := none } }
    if s.time.matches s.second then alarmFires s.second s else s
  else s

/-- ALARM (R474). -/
def execAlarm (t : Nat) (s : State) : Host.Outcome State Fault Refusal := .next (alarmPass (s.advance t))

/-- A whole multiple of the period has been reached (R475): 2^(K-8) s is 192,000 · 2^K master clocks. -/
def periodicDue (s : State) : Bool :=
  s.time.periodicOn && (s.time.cad * cadenceClocks + s.time.off) % (192000 * 2 ^ s.time.periodicK) = 0

/-- PERIODIC_WAKE (R475). -/
def execPeriodicWake (t : Nat) (s : State) : Host.Outcome State Fault Refusal :=
  let s := s.advance t
  .next (if periodicDue s then wakeIf 7 3 s else s)

end Sys2Proof.Machine
end

