-- ==== Sys2Proof/Machine/Polders.lean ====
section
/-! DEFINITION. Polders: privileges, the invariants of their records, what a change of assignments leads to, and the effects of
the polder commands (11, R391 to R393). -/
namespace Sys2Proof.Machine

/-! ## Privileges (R328) -/

/-- PRIV bits. -/
def privSeal : Nat := 0
/-- TARIFF. -/
def privTariff : Nat := 1
/-- PERIOD. -/
def privPeriod : Nat := 2
/-- CAL. -/
def privCal : Nat := 3
/-- GUARD. -/
def privGuard : Nat := 4
/-- TIME. -/
def privTime : Nat := 5
/-- WET_IMAGE. -/
def privWet : Nat := 6
/-- DRY_IMAGE. -/
def privDry : Nat := 7

/-- A polder that is not FREE. -/
def Polder.live (p : Polder) : Bool := p.state != 0

/-- Polder `p` holds privilege `b`: P00 every one, except GUARD where another polder holds it (R328). -/
def State.privileged (s : State) (p b : Nat) : Bool :=
  if p = 0 then b < 8 && !(b == privGuard && ((List.range 15).map (· + 1)).any fun q => (s.polder q).live && (s.polder q).priv.getLsbD privGuard)
  else (s.polder p).live && (s.polder p).priv.getLsbD b

/-! ## Records and their invariants (R326) -/

/-- The assignments of a record replace those of a polder. -/
def Polder.assigned (q : Polder) (r : PolderRecord) : Polder :=
  { q with
    priv := r.priv, sluices := r.sluices, tickets := r.tickets, options := r.options, ftripOut := r.ftripOut.setWidth 4
    cfOut := r.cfOut, tripCh := r.tripCh, pqCh := r.pqCh, domains := r.domains.setWidth 33
    poolShare := r.poolShare, streamShare := r.streamShare, evt := r.evt }

/-- Reserved bits of a record are zero (R11, R326). -/
def recordReserved (r : PolderRecord) : Bool := r.priv.toNat < 256 && r.options.toNat < 4 && r.ftripOut.toNat < 16

/-- Reserved bits of a record are zero, and every domain it names exists (R11, R326). -/
def recordBits (r : PolderRecord) : Bool := recordReserved r && r.domains.toNat < 2 ^ 33

/-- A resource of every polder is disjoint from that of every other. -/
def disjoint {w : Nat} (f : Polder → BitVec w) (pol : Nat → Polder) : Bool :=
  ((List.range 16).foldl (fun (acc : Bool × BitVec w) p => (acc.1 && (acc.2 &&& f (pol p)) == 0, acc.2 ||| f (pol p))) (true, 0)).1

/-- The invariants that the records of a commit must satisfy (R326). -/
def recordsOk (pol : Nat → Polder) : Bool :=
  let all (f : Polder → Bool) : Bool := (List.range 16).all fun p => !(pol p).live || f (pol p)
  let count (q : Polder) : Nat := (bitsOf 32 q.sluices.toNat).length
  disjoint (·.sluices) pol && disjoint (·.cfOut) pol && disjoint (·.ftripOut) pol && disjoint (·.tripCh) pol
    && disjoint (·.pqCh) pol && disjoint (·.evt) pol
    && (pol 0).sluices.getLsbD 0 && (pol 0).domains == commandDomains
    && all (fun q => 1 ≤ count q && 8 * count q ≤ q.tickets && q.tickets ≤ Nat.min (256 * count q) 1024)
    && all (fun q => (q.domains &&& ~~~commandDomains) == 0)
    && all (fun q => (bitsOf 1024 q.evt.toNat).all assignable)
    && ((List.range 16).map fun p => (pol p).poolShare).sum ≤ 2560
    && ((List.range 16).map fun p => (pol p).streamShare).sum ≤ 128
    && (((List.range 15).map (· + 1)).filter fun p => (pol p).live && (pol p).priv.getLsbD privGuard).length ≤ 1

/-- Polders as a table of changed ones over those of the state. -/
def State.withPolders (s : State) (l : List (Nat × Polder)) : State :=
  { s with pol := l.foldl (fun t (p, q) => t.put p q) s.pol }

/-- A record would take something from a CLOSED polder (R326): a resource, a privilege or a part of a share; its OPTIONS are its
own to set (R331). -/
def stripsClosed (s : State) (r : PolderRecord) : Bool :=
  let q := s.polder r.polder
  let n := q.assigned r
  r.polder < 16 && q.state == 2
    && ((q.priv &&& ~~~n.priv) != 0 || (q.sluices &&& ~~~n.sluices) != 0 || (q.cfOut &&& ~~~n.cfOut) != 0
      || (q.ftripOut &&& ~~~n.ftripOut) != 0 || (q.tripCh &&& ~~~n.tripCh) != 0 || (q.pqCh &&& ~~~n.pqCh) != 0
      || (q.domains &&& ~~~n.domains) != 0 || (q.evt &&& ~~~n.evt) != 0 || n.tickets < q.tickets
      || n.poolShare < q.poolShare || n.streamShare < q.streamShare || n.options != q.options)

/-! ## Consequences of a change of holders (R327, R408) -/

/-- A sluice changes holder: its outstanding commands are abandoned, and it begins a new epoch. -/
def sluiceMoves (s : State) (n : Nat) : State := (s.abandon fun h => h.sluice == n).newEpoch n

/-- A CF output changes holder: its mapping is cleared and it is in kickstand (R115, R327). -/
def cfMoves (s : State) (n : Nat) : State := s.modCf n fun x => { x.toKick with map := Option.none, acc := 0 }

/-- A comparator changes holder: MODE 0, no latch (R327), and what it asserted ends (R225). -/
def tripMoves (s : State) (c : Nat) : State :=
  (clearTrip c s).modChannel c fun x => { x with trip := { x.trip with mode := 0 } }

/-- A FASTTRIP_N output changes holder: its bit leaves every OUT_MASK of the former holder's comparators. -/
def ftripMoves (former : Polder) (s : State) (k : Nat) : State :=
  { s with chan := s.chan.map fun (c, x) =>
      (c, if former.tripCh.getLsbD c then { x with trip := { x.trip with outMask := x.trip.outMask &&& ~~~(1#4 <<< k) } } else x) }

/-- What changed hands from `was` to `s` has its consequences (R327). Requests for domains
that a polder no longer holds cease, ports carry no polder without a sluice (R408), captures and streams end (R264), and each polder
whose record changed learns of it (R423). -/
def holdersPass (was s : State) : State :=
  let held (f : State → Nat) : Bool := f was != f s
  let s := ((List.range 32).filter fun n => held (·.sluiceHolder n)).foldl sluiceMoves s
  let s := ((List.range 16).filter fun n => held (fun x => holder x (·.cfOut.getLsbD n))).foldl cfMoves s
  let s := ((List.range 4).filter fun n => held (fun x => holder x (·.ftripOut.getLsbD n))).foldl
    (fun s n => ftripMoves (was.polder (holder was (·.ftripOut.getLsbD n))) s n) s
  let s := ((List.range 128).filter fun n => held (fun x => holder x (·.tripCh.getLsbD n))).foldl tripMoves s
  let s := { s with pol := s.pol.map fun (p, q) => (p, { q with on := q.on &&& q.domains, off := q.off &&& q.domains }) }
  let s := ((List.range 16).filter fun p => (s.polder p).sluices == 0).foldl State.unpermit s
  sharePass was s

/-- The polders named learn that their assignments changed (R423). -/
def assignmentEvents (l : List Nat) (s : State) : State := l.foldl (fun s p => s.fire (704 + p) 2 0) s

/-- The keys of polder `p` changed: its bit clears on every port, and it learns of it (R408, R423). -/
def keysChanged (p : Nat) (s : State) : State := (s.unpermit p).fire (704 + p) 3 (s.polder p).keyGen

/-- The device generates a signing key for polder `p` (R323, R324): a free value. -/
def newSigning (p : Nat) (s : State) : State :=
  let (v, s) := s.draw
  s.modPolder p fun q => { q with signKey := BitVec.ofNat 256 v, keyId := q.keyId + 1 }

/-! ## Effects of the polder commands -/

/-- `polder.create` names a FREE polder; the other arguments are those of R326 and R391. -/
def createOk (c : PolderCreate) (s : State) : Bool :=
  let p := c.record.polder
  let q := { (s.polder p).assigned c.record with state := 1 }
  p < 16 && !(s.polder p).live && recordBits c.record
    && (c.record.options.getLsbD 1 || (c.sessionKey >>> 128) == 0)
    && recordsOk (fun i => if i = p then q else s.polder i)

/-- The commit of `polder.create` (R323). -/
def polderCreate (c : PolderCreate) (s : State) : State :=
  let p := c.record.polder
  let old := s.polder p
  let fresh := { Polder.free.assigned c.record with
    state := 1, keyGen := old.keyGen + 1, keyId := old.keyId, authKey := c.authKey, sessKey := c.sessionKey, hasKeys := true
    auditNo := 0 }
  let t := newSigning p (s.withPolders [(p, fresh)])
  assignmentEvents [p] (keysChanged p (holdersPass s t))

/-- The polders that `polder.assign` names, with their new records. -/
def assignedPolders (l : List PolderRecord) (s : State) : List (Nat × Polder) :=
  l.map fun r => (r.polder, (s.polder r.polder).assigned r)

/-- A target of `polder.assign` fails: no such polder, a reserved bit, or KEY256, which only a rekey sets (R331). -/
def assignTargetBad (s : State) (r : PolderRecord) : Bool :=
  15 < r.polder || !(s.polder r.polder).live || !recordBits r
    || r.options.getLsbD 1 != (s.polder r.polder).options.getLsbD 1

/-- The records of a `polder.assign` together satisfy the invariants, and no polder is named twice. -/
def assignOk (l : List PolderRecord) (s : State) : Bool :=
  let names := l.map (·.polder)
  names.eraseDups.length == names.length && recordsOk (s.withPolders (assignedPolders l s)).polder

/-- The commit of `polder.assign` (R326, R327). -/
def polderAssign (l : List PolderRecord) (s : State) : State :=
  assignmentEvents (l.map (·.polder)) (holdersPass s (s.withPolders (assignedPolders l s)))

/-- P00 takes what another polder gives up (R325, R392); its quota rises to the least that its sluices need. -/
def Polder.take (q : Polder) (sluices : BitVec 32) (cf : BitVec 16) (ft : BitVec 4) (trip pq : BitVec 128) (evt : BitVec 1024) : Polder :=
  let sl := q.sluices ||| sluices
  let n := (bitsOf 32 sl.toNat).length
  { q with
    sluices := sl, cfOut := q.cfOut ||| cf, ftripOut := q.ftripOut ||| ft, tripCh := q.tripCh ||| trip, pqCh := q.pqCh ||| pq
    evt := q.evt ||| evt, tickets := Nat.max q.tickets (8 * n) }

/-- The polders as a `polder.release` of polder `p` leaves them (R392). -/
def releasedPolders (p : Nat) (r : PolderRecord) (s : State) : List (Nat × Polder) :=
  let q := s.polder p
  let ft := r.ftripOut.setWidth 4
  [(p, { q with
      priv := q.priv &&& ~~~r.priv, sluices := q.sluices &&& ~~~r.sluices, cfOut := q.cfOut &&& ~~~r.cfOut
      ftripOut := q.ftripOut &&& ~~~ft, tripCh := q.tripCh &&& ~~~r.tripCh, pqCh := q.pqCh &&& ~~~r.pqCh
      domains := q.domains &&& ~~~r.domains.setWidth 33, evt := q.evt &&& ~~~r.evt, tickets := q.tickets - r.tickets
      poolShare := q.poolShare - r.poolShare, streamShare := q.streamShare - r.streamShare }),
   (0, (s.polder 0).take r.sluices r.cfOut ft r.tripCh r.pqCh r.evt)]

/-- A `polder.release` names only what the polder holds, and leaves the invariants (R392). P00 has no one to give to. -/
def releaseOk (p : Nat) (r : PolderRecord) (s : State) : Bool :=
  let q := s.polder p
  p != 0 && recordBits { r with options := 0 } && r.options.toNat < 4
    && (r.priv &&& ~~~q.priv) == 0 && (r.sluices &&& ~~~q.sluices) == 0 && (r.cfOut &&& ~~~q.cfOut) == 0
    && (r.ftripOut.setWidth 4 &&& ~~~q.ftripOut) == 0 && (r.tripCh &&& ~~~q.tripCh) == 0 && (r.pqCh &&& ~~~q.pqCh) == 0
    && (r.domains.setWidth 33 &&& ~~~q.domains) == 0 && (r.evt &&& ~~~q.evt) == 0
    && r.tickets ≤ q.tickets && r.poolShare ≤ q.poolShare && r.streamShare ≤ q.streamShare
    && recordsOk (s.withPolders (releasedPolders p r s)).polder

/-- The commit of `polder.release` (R392, R327). -/
def polderRelease (p : Nat) (r : PolderRecord) (s : State) : State :=
  assignmentEvents [p, 0] (holdersPass s (s.withPolders (releasedPolders p r s)))

/-- `polder.close` is accepted of an OPEN polder with a rekey since its creation; P00 is never closed (R321, R324). -/
def closeOk (p : Nat) (s : State) : Bool := p != 0 && (s.polder p).state == 1 && (s.polder p).rekeyed

/-- The commit of `polder.close` (R324). -/
def polderClose (p : Nat) (s : State) : State :=
  keysChanged p (newSigning p (s.modPolder p fun q => { q with state := 2 }))

/-- `polder.dissolve` names a polder that exists, is not P00 and owns no defined meter (R321, R325). -/
def dissolveOk (p : Nat) (s : State) : Bool :=
  1 ≤ p && p < 16 && (s.polder p).live && !(s.definedMeters.any fun m => (s.meter m).def_.owner == p)

/-- The commit of `polder.dissolve` (R325): KEY_GEN and KEY_ID stay, and no polder may read its former meters any more. -/
def polderDissolve (p : Nat) (s : State) : State :=
  let q := s.polder p
  let gone := { Polder.free with keyGen := q.keyGen, keyId := q.keyId }
  let t := s.withPolders [(p, gone), (0, (s.polder 0).take q.sluices q.cfOut q.ftripOut q.tripCh q.pqCh q.evt)]
  let t := { t with
    mtr := t.mtr.map fun (m, x) => (m, if x.former == some p then { x with former := Option.none } else x)
    tar := t.tar.erase p }
  assignmentEvents [0] (holdersPass s t)

/-- The keys that a `polder.rekey` carries, opened; none where their integrity check fails (R331, R391). -/
def rekeyKeys (p : Nat) (r : PolderRekey) : Option (BitVec 256 × BitVec 256) :=
  (Config.unwrapKeys p r.newKeyGen (r.options.getLsbD 2) r.ephPub r.wrapped).filter fun k =>
    r.options.getLsbD 2 || (k.2 >>> 128) == 0

/-- The commit of `polder.rekey` with its keys (R331): P00's signing key is made at its first rekey, since nothing created P00. -/
def polderRekey (p : Nat) (r : PolderRekey) (keys : BitVec 256 × BitVec 256) (s : State) : State :=
  let q := s.polder p
  let s := s.modPolder p fun q => { q with
    authKey := keys.1, sessKey := keys.2, hasKeys := true, keyGen := q.keyGen + 1, rekeyed := true
    options := BitVec.ofNat 8 (r.options.toNat / 2 % 4)
    journal := if r.options.getLsbD 3 then [] else q.journal
    journalAll := q.journalAll && !r.options.getLsbD 3 }
  let s := if r.options.getLsbD 0 || (p == 0 && !q.hasKeys) then newSigning p s else s
  keysChanged p s

/-! ## Results (R391) -/

/-- PRIV as it acts: P00's depends on who holds GUARD (R328). -/
def State.privBits (s : State) (p : Nat) : Nat := maskOf ((List.range 8).filter (s.privileged p))

/-- The 256 bytes of a polder record (R326). -/
def recordBytes (p : Nat) (s : State) : List Byte :=
  let q := s.polder p
  leBytes 1 p ++ leBytes 1 q.state ++ leBytes 2 (s.privBits p) ++ leBytes 4 q.sluices.toNat ++ leBytes 2 q.tickets
    ++ leBytes 1 q.options.toNat ++ leBytes 1 q.ftripOut.toNat ++ leBytes 2 q.cfOut.toNat ++ zeros 2
    ++ leBytes 16 q.tripCh.toNat ++ leBytes 16 q.pqCh.toNat ++ leBytes 8 q.domains.toNat
    ++ leBytes 2 q.poolShare ++ leBytes 2 q.streamShare ++ leBytes 4 q.keyGen.toNat ++ leBytes 4 q.keyId.toNat ++ zeros 4
    ++ leBytes 128 q.evt.toNat ++ zeros 56

/-- The result of `polder.get_key` (R331, R391); the random number of its signature is a free value. -/
def getKeyBytes (p : Nat) (s : State) : List Byte × State :=
  let q := s.polder p
  let body := leBytes 1 p ++ zeros 3 ++ leBytes 4 q.keyId.toNat ++ leBytes 16 Config.deviceId.toNat ++ slice (Config.publicKey q.signKey) 0 64
  let (r, s) := s.draw
  (body ++ slice (Config.ecdsaSign Config.identityKey r (Config.sha256 body)) 0 64, s)

/-- The 32 bytes of an audit entry (R337, R339, R490). -/
def AuditEntry.bytes : AuditEntry → List Byte
  | .refusal time reason sluice opcode ticket nonce count =>
    leBytes 8 time ++ leBytes 1 1 ++ leBytes 1 reason ++ leBytes 1 sluice ++ zeros 1 ++ leBytes 2 opcode ++ leBytes 2 ticket
      ++ leBytes 4 nonce.toNat ++ leBytes 4 count ++ zeros 8
  | .blocked time count => leBytes 8 time ++ leBytes 1 2 ++ zeros 11 ++ leBytes 4 count ++ zeros 8
  | .entry e =>
    leBytes 8 e.time ++ leBytes 1 3 ++ leBytes 1 e.owner ++ leBytes 2 e.source ++ leBytes 2 e.code ++ leBytes 2 e.lflags.toNat
      ++ leBytes 4 e.data.toNat ++ leBytes 4 e.seq.toNat ++ leBytes 8 e.detail.toNat

/-- The result of `polder.read_audit` (R393). -/
def readAuditBytes (p : Nat) (r : PolderReadAudit) (s : State) : List Byte :=
  let q := s.polder p
  let newest := q.auditNo.toNat
  let oldest := if q.audit.isEmpty then 0 else (newest + 2 ^ 32 - (q.audit.length - 1)) % 2 ^ 32
  let got := (q.audit.drop (Nat.max r.fromNo oldest - oldest)).take r.count
  leBytes 4 oldest ++ leBytes 4 newest ++ leBytes 2 got.length ++ zeros 6 ++ (got.map AuditEntry.bytes).flatten

end Sys2Proof.Machine
end

