-- ==== Sys2Proof/Machine/Refusals.lean ====
section
/-! DEFINITION. The refusal conditions that depend on the command: side, privilege, objects, claims, device state, dry image and
CLOSED polders (R329, R335, R378). -/
namespace Sys2Proof.Machine

/-! ## Side (R329) -/

/-- The dry groups by opcode byte. -/
def dryGroup (g : Nat) : Bool := [0x02, 0x03, 0x04, 0x05, 0x07, 0x08, 0x09, 0x0A, 0x0D, 0x0F, 0x10].contains g

/-- The side of an opcode: an image command is dry where it names the dry image; an unknown group is wet. `kind`: the first byte of
the payload. -/
def dryOpcode (op kind : Nat) : Bool :=
  dryGroup (op / 256) || ((op == 0x1101 || op == 0x1102) && kind == 1)

/-- The channels of a wheel. -/
def wheelChannels (w : Nat) : List Nat := (List.range 8).map fun k => 8 * w + k

end Sys2Proof.Machine

namespace Sys2Proof
open Sys2Proof.Machine

/-- KIND of a command: 1 for one that names the dry image. -/
def Cmd.kind : Cmd → Nat
  | .imageStage p => p.kind
  | .imageActivate k => k
  | _ => 0

/-- A command belongs to the dry side. -/
def Cmd.dry (c : Cmd) : Bool := dryOpcode c.opcode c.kind

/-! ## Privileges and objects by command (R378) -/

/-- The privileges a command needs by itself, by PRIV bit. -/
def Cmd.needs : Cmd → List Nat
  | .wheelSetGear _ | .wheelSetJockey _ | .wheelServiceSpoke _ | .wheelReturnSpoke _ | .wheelUseRelief _ _ => [privCal]
  | .chainLoadBank _ | .chainSwitchBank _ | .chainSetChannel _ => [privCal]
  | .calRun _ | .calCommit _ | .calDiscard _ | .calAnchor | .calSetReference _ => [privCal]
  | .tariffStageCalendar _ | .tariffActivateAt _ | .tariffSetMeter _ => [privTariff]
  | .ledgerSetDemand _ | .ledgerClosePeriod _ => [privPeriod]
  | .timeSet _ | .timeTrust _ => [privTime]
  | .guardUnlock _ | .guardSetKey _ | .guardSetResponse _ => [privGuard]
  | .imageStage p => [if p.kind = 1 then privDry else privWet]
  | .imageActivate k => [if k = 1 then privDry else privWet]
  | .imageConfirm => [privWet]
  | _ => []

/-- P00 alone may send the command. -/
def Cmd.p00 : Cmd → Bool
  | .powerSetState _ | .calAnchor | .calSetReference _ | .polderCreate _ | .polderAssign _ _ | .eventRoute _ => true
  | .plcSetLink _ | .plcSetNetwork _ | .plcSetSpectrum _ | .timeSetAlarm _ | .timeSetPeriodic _ => true
  | .tandemEnable _ | .tandemHandover | .tandemStatus => true
  | _ => false

/-- The channels that an authority command affects (R378): for a wheel, every channel of it. -/
def Cmd.affected : Cmd → List Nat
  | .wheelSetGear p => bitsOf 128 p.channels.toNat
  | .wheelSetJockey p => ((bitsOf 16 p.wheels.toNat).map wheelChannels).flatten
  | .wheelServiceSpoke p => wheelChannels p.wheel
  | .wheelReturnSpoke p => wheelChannels p.wheel
  | .wheelUseRelief w _ => wheelChannels w
  | .chainLoadBank p => ((bitsOf 16 p.wheels.toNat).map wheelChannels).flatten
  | .chainSwitchBank p => ((bitsOf 16 p.wheels.toNat).map wheelChannels).flatten
  | .chainSetChannel p => [p.channel]
  | .calRun p => (p.targets.take p.ntarget).map (·.channel)
  | .calCommit p => (p.targets.take p.ntarget).map (·.channel)
  | .calDiscard t => [t.channel]
  | _ => []

/-- The channels that a capture definition records, and those it names as sources. -/
def PqSetCapture.named (x : PqSetCapture) : List Nat :=
  (x.channels ++ ((List.range 8).filter fun i => !x.srcIsMeter.getLsbD i).map fun i => x.sources.getD i 0xFF).filter (· != 0xFF)

/-- The meters that a capture definition names. -/
def PqSetCapture.meters (x : PqSetCapture) : List Nat :=
  let src := (((List.range 8).filter fun i => x.srcIsMeter.getLsbD i).map fun i => x.sources.getD i 0xFF).filter (· != 0xFF)
  if x.flagMeter = 0xFF then src else src ++ [x.flagMeter]

end Sys2Proof

namespace Sys2Proof.Machine

/-- The owner that a `meter.define` leaves the meter with (R193): ignored where the meter exists. -/
def defineOwner (d : MeterDefine) (s : State) : Nat :=
  if (s.meter d.meter).state == .undefined then d.owner else (s.meter d.meter).def_.owner

/-- A privilege is missing: the requesting polder's, or SEAL of the polder that would own a sealed meter (R192). -/
def privilegeMissing (p : Nat) (c : Cmd) (s : State) : Bool :=
  (c.needs.any fun b => !s.privileged p b)
    || (match c with
        | .meterDefine d => defSealed d && defineOwner d s < 16 && !s.privileged (defineOwner d s) privSeal
        | _ => false)

/-! ## Objects (R328, R335, R378) -/

/-- Meter `m` is not polder `p`'s to command: another's, or undefined for any polder but P00 (R378). -/
def State.notOwner (s : State) (p m : Nat) : Bool :=
  if (s.meter m).state == .undefined then p != 0 else (s.meter m).def_.owner != p

/-- Polder `p` answers for channel `c` (R271). -/
def State.answersFor (s : State) (p c : Nat) : Bool :=
  let users := s.definedMeters.filter fun m => (defChannels (s.meter m).def_).contains c
  if users.any fun m => defSealed (s.meter m).def_
  then users.any fun m => defSealed (s.meter m).def_ && (s.meter m).def_.owner == p
  else p = 0 || users.all fun m => (s.meter m).def_.owner == p

/-- Capture `k` belongs to another polder. -/
def State.captureOther (s : State) (p k : Nat) : Bool := (s.pq.captures.find k).any fun c => c.owner != p

/-- Stream `k` belongs to another polder. -/
def State.streamOther (s : State) (p k : Nat) : Bool := (s.pq.streams.find k).any fun c => c.owner != p

/-- An object that the command names is not the polder's (R335, R378). -/
def objectMissing (p : Nat) (c : Cmd) (s : State) : Bool :=
  let q := s.polder p
  (c.p00 && p != 0) || (c.affected.any fun ch => !s.answersFor p ch)
    || (match c with
        | .powerSetDomains r => (bitsOf 33 (r.on ||| r.off).toNat).any fun n => !q.domains.getLsbD n
        | .chainSetTrip r => !(decide (r.channel < 128) && q.tripCh.getLsbD r.channel) || (r.outMask.setWidth 4 &&& ~~~q.ftripOut) != 0
        | .chainClearTrip m => (m &&& ~~~q.tripCh) != 0
        | .meterDefine d => s.notOwner p d.meter
        | .meterUndefine r => s.notOwner p r.meter
        | .meterMapCf r => !(decide (r.cf < 16) && q.cfOut.getLsbD r.cf) || (r.q != 0xFF && s.notOwner p r.meter)
        | .meterStatus m => s.notOwner p m
        | .pqSetChannel r => !(decide (r.channel < 128) && q.pqCh.getLsbD r.channel)
        | .pqSetMeter r => s.notOwner p r.meter
        | .pqSetCapture r => s.captureOther p r.capture
            || (r.nseg != 0 && ((r.named.any fun ch => !(decide (ch < 128) && q.pqCh.getLsbD ch)) || r.meters.any (s.notOwner p)))
        | .pqArm k _ => s.captureOther p k
        | .pqTrigger k => s.captureOther p k
        | .pqRelease r => s.captureOther p r.capture
        | .pqStatus k => s.captureOther p k
        | .pqStreamOpen r => (r.channels.filter (· != 0xFF)).any fun ch => !(decide (ch < 128) && q.pqCh.getLsbD ch)
        | .pqStreamClose k => s.streamOther p k
        | .calRun r => r.kind == 3 && s.notOwner p r.meter
        | .tariffSetMeter r => s.notOwner p r.meter
        | .ledgerReadSigned r => s.notOwner p r.meter && !((s.meter r.meter).state == .undefined && (s.meter r.meter).former == some p)
        | .ledgerSetDemand r => s.notOwner p r.meter
        | .ledgerSetTamper r => s.notOwner p r.meter
        | .ledgerClosePeriod m => (bitsOf 256 m.toNat).any (s.notOwner p)
        | .ledgerStatus m => s.notOwner p m
        | .polderDissolve n => n != p && !(p == 0 && (s.polder n).state != 2)
        | .polderStatus n => p != 0 && n != p
        | .eventMask r => r.group < 32
            && (bitsOf 32 r.select.toNat).any fun i => !(sourceExists (32 * r.group + i) && s.owner (32 * r.group + i) == p)
        | _ => false)

/-! ## Claims, device state, dry image (R97, R104, R113, R287, R322) -/

/-- A claim forbids an OFF request, or the capture pool does (R97). -/
def claimForbids (c : Cmd) (s : State) : Bool :=
  match c with
  | .powerSetDomains r => (bitsOf 33 r.off.toNat).any fun n => s.claimed n || s.poolInto n
  | _ => false

/-- Channels of sealed meters of polders other than `p`. -/
def State.sealedElsewhere (s : State) (p c : Nat) : Bool :=
  s.definedMeters.any fun m => defSealed (s.meter m).def_ && (s.meter m).def_.owner != p && (defChannels (s.meter m).def_).contains c

/-- The device state forbids the command: NAP while a meter is defined or tandem operation is enabled (R104), a sealed meter on a
channel of another polder's sealed meter (R287), or a wet command that the boot-ROM recovery does not serve (R113, R400). -/
def stateForbids (c : Cmd) (s : State) : Bool :=
  (s.pwr.recovery && !c.dry
      && (match c with | .imageStage _ => false | .imageActivate _ => false | _ => true))
    || (match c with
        | .powerSetState r => r.state == 3 && (!s.definedMeters.isEmpty || s.tdm.enabled)
        | .meterDefine d => defSealed d && (defChannels d).any (s.sealedElsewhere (defineOwner d s))
        | _ => false)

/-- The dry image does not run: every dry command is refused but its replacement (R113). -/
def imageForbids (c : Cmd) (s : State) : Bool :=
  !s.pwr.dryOk && c.dry && (match c with | .imageStage _ => false | .imageActivate _ => false | _ => true)

/-- It would remove a resource from a CLOSED polder (R326). -/
def closedForbids (c : Cmd) (s : State) : Bool :=
  match c with
  | .polderAssign _ l => l.any (stripsClosed s)
  | _ => false

/-- The first refusal reason from 0x07 on (R335); a claim is judged at acceptance only (R365). -/
def commandRefusal (p : Nat) (c : Cmd) (acceptance : Bool) (s : State) : Option Nat :=
  if privilegeMissing p c s then some 0x07
  else if objectMissing p c s then some 0x08
  else if acceptance && claimForbids c s then some 0x09
  else if stateForbids c s then some 0x0A
  else if imageForbids c s then some 0x0B
  else if closedForbids c s then some 0x0C
  else none

end Sys2Proof.Machine
end

