-- ==== Sys2Proof/Machine/Arguments.lean ====
section
/-! DEFINITION. The argument check of every command (check 6 of R358): ranges, reserved fields, expected generations, resources that are
not free, and the targets of multi-unit commands (R367, R377, R383 to R400). -/
namespace Sys2Proof.Machine

/-- What the argument check finds. -/
inductive Judgment where
  | ok
  /-- The command completes with a status. -/
  | status (n : Nat)
  /-- Targets fail: the status of the lowest, the targets named, and the indices that fail (R367). -/
  | group (first n : Nat) (failed : List Nat)
deriving DecidableEq, Repr

/-- ST_BAD_ARGUMENT unless a condition holds. -/
def argument (b : Bool) : Judgment := if b then .ok else .status stBadArgument

/-- A first judgment decides unless it passes. -/
def Judgment.andThen : Judgment → Judgment → Judgment
  | .ok, j => j
  | j, _ => j

/-- The judgment over the targets of a multi-unit command (R367): a status for each target by index; none passes. -/
def targets (l : List Nat) (f : Nat → Option Nat) : Judgment :=
  let bad := l.filter fun i => (f i).isSome
  match bad with
  | [] => .ok
  | i :: _ => .group ((f i).getD stOk) l.length bad

/-- The 40 bytes of an abort result (R367). -/
def abortResult (first n : Nat) (failed : List Nat) : List Byte :=
  leBytes 2 first ++ leBytes 2 n ++ zeros 4 ++ leBytes 32 (maskOf failed)

/-- `lo ≤ n ≤ hi`. -/
def within (lo hi n : Nat) : Bool := decide (lo ≤ n) && decide (n ≤ hi)

/-- No value twice. -/
def distinct (l : List Nat) : Bool := l.eraseDups.length == l.length

/-! ## wheel and chain -/

/-- `wheel.service_spoke` (R147, R155). -/
def judgeService (p : WheelServiceSpoke) (commit : Bool) (s : State) : Judgment :=
  let x := s.wheel p.wheel
  let st := (x.slice p.spoke).state
  (argument (p.wheel < 16 && p.spoke < 8 && p.action ≤ 2
      && (st == .serving || (st == .failed && p.action != 1)))).andThen
    (if commit && (!x.jockeyFree || x.calRun.isSome) then .status stBusyRetry else .ok)

/-- `wheel.return_spoke` (R147, R151). -/
def judgeReturn (p : WheelReturnSpoke) (s : State) : Judgment :=
  let x := s.wheel p.wheel
  let st := (x.slice p.spoke).state
  argument (p.wheel < 16 && p.spoke < 8 && (st == .covered || (st == .failed && x.jockeyServes == some p.spoke)))

/-- `wheel.use_relief` (R155, R158). -/
def judgeRelief (w mode : Nat) (commit : Bool) (s : State) : Judgment :=
  let serves := s.relief.wheel == w && s.relief.phase == .serving
  (argument (w < 16 && mode ≤ 1 && (mode = 1 || serves))).andThen
    (if mode = 1 && commit && (s.relief.phase != .free || s.relief.failed) then .status stBusyRetry else .ok)

/-- The set that the bytes of a `chain.load_bank` hold; none where a rule of R183 or R184 is broken. -/
def parseBank (b : List Byte) : Option Bank :=
  let word (o : Nat) : Option Int :=
    let v := fieldInt b o 4
    if -(2 ^ 23 : Int) ≤ v && v < 2 ^ 23 then some v else none
  let words (o n : Nat) : Option (List Int) := (List.range n).mapM fun i => word (o + 4 * i)
  match words 16 3, words 28 5, words 48 428 with
  | some hb1, some hb2, some proto =>
    let unit : Int := 2 ^ 22
    let abs (l : List Int) : Nat := (l.map (·.natAbs)).sum
    -- a symmetric half-band: the taps loaded stand on both sides of a centre of one half
    let half (l : List Int) : Bool :=
      (2 * l.sum + unit / 2 - unit).natAbs ≤ 4 && decide (2 * abs l * 4 ≤ 5 * 2 ^ 22)
    -- branch r holds the taps 9 n + r of the symmetric prototype (R168)
    let taps := (proto ++ proto.reverse).zipIdx
    let branch (r : Nat) : List Int := (taps.filter fun x => x.2 % 9 == r).map (·.1)
    let branchOk (r : Nat) : Bool := ((branch r).sum - unit).natAbs ≤ 4 && decide (abs (branch r) ≤ 2 * 2 ^ 22)
    if b.length = 1768 && field b 0 4 = 1 && field b 8 4 = 1768 && BitVec.ofNat 32 (field b 12 4) == crc32 (b.drop 16)
        && half hb1 && half hb2 && (List.range 9).all branchOk
        && field b 1760 4 != 0 && within 12 24 (field b 1764 1) && field b 1765 3 = 0
    then some { id := BitVec.ofNat 32 (field b 4 4), coeffs := some { hb1, hb2, proto, intGain := field b 1760 4, intLeak := field b 1764 1 } }
    else none
  | _, _, _ => none

/-- A bank switch for wheel `w` is staged for its next boundary (R186). -/
def State.switchStaged (s : State) (w : Nat) : Bool :=
  s.out.staged.any fun g => g.due == s.b + 1 && (match g.cmd with | .chainSwitchBank r => r.wheels.getLsbD w | _ => false)

/-- A fade is in progress on a wheel at instant `now`, a boundary count (R185). -/
def Wheel.fading (x : Wheel) : Bool := x.fade.isSome

/-- `chain.load_bank` (R184, R186). -/
def judgeLoad (p : ChainLoadBank) (s : State) : Judgment :=
  (argument (p.wheels != 0 && (parseBank p.set).isSome)).andThen
    (targets (bitsOf 16 p.wheels.toNat) fun w => if s.switchStaged w || (s.wheel w).fading then some stBusyRetry else none)

/-- `chain.switch_bank` (R185, R186): `done` names the wheels switched at this boundary. -/
def judgeSwitch (p : ChainSwitchBank) (done : List Nat) (commit : Bool) : Judgment :=
  (argument (p.wheels != 0 && p.fade ≤ 3)).andThen
    (if commit then targets (bitsOf 16 p.wheels.toNat) fun w => if done.contains w then some stBusyRetry else none else .ok)

/-- `chain.set_channel` (R386): a field that WHAT does not name is zero. -/
def judgeSetChannel (p : ChainSetChannel) (s : State) : Judgment :=
  let named (i v top : Nat) : Bool := if p.what.getLsbD i then v ≤ top else v = 0
  argument (p.channel < 128 && p.what.toNat < 64 && named 1 p.corner 3 && named 2 p.dcFreeze 1 && named 3 p.intEnable 1
    && named 4 p.cycleRef 127 && named 5 p.envAttack 15 && named 5 p.envDecay 23
    && (if p.what.getLsbD 0
        then (match f32Val p.scale with
          | none => false
          | some v => v != 0 || !s.metered p.channel)
        else p.scale == 0))

/-- `chain.set_trip` (R223). -/
def judgeTrip (p : ChainSetTrip) : Judgment :=
  argument (p.mode ≤ 3 && within 1 8 p.count && p.tflags.toNat < 4 && p.outMask.toNat < 16 && within 1 65535 p.release)

/-! ## meter -/

/-- Slots of a type (R190): for V0 to V3 then I0 to I3, 2 required, 1 optional, 0 unused. -/
def slotRule (type : Nat) : List Nat :=
  match type with
  | 0 => [2, 0, 0, 0, 2, 0, 0, 1]
  | 1 => [2, 2, 0, 0, 2, 2, 0, 1]
  | 2 => [2, 2, 2, 1, 2, 2, 2, 1]
  | 3 => [2, 2, 0, 0, 2, 2, 0, 0]
  | _ => [2, 0, 0, 0, 2, 0, 0, 0]

/-- A definition that R190, R191, R193 and R195 allow. -/
def defineOk (d : MeterDefine) (s : State) : Bool :=
  let slots := (d.vSlot ++ d.iSlot).take 8
  let used := slots.filter (· != 0xFF)
  let creates := (s.meter d.meter).state == .undefined
  d.meter < 256 && d.type ≤ 4 && slots.length = 8
    && ((slots.zip (slotRule d.type)).all fun (c, r) => if c = 0xFF then r != 2 else r != 0 && c < 128)
    && distinct used
    && d.options.toNat < 32 && defSMode d != 3
    && ((List.range 8).all fun i => !(d.invert.getLsbD i && slots.getD i 0xFF = 0xFF))
    && (!creates || (d.owner < 16 && (s.polder d.owner).live))
    && !(defSumMode d && 3 ≤ d.type)
    && !(defSealed d && 8 ≤ (s.sealedMeters.filter (· != d.meter)).length)
    && (used.all fun c => (f32Val (s.channel c).scale).any (· != 0))

/-- The meter is defined, and the expected generation is its own where CHECK is set (R359, R387). -/
def judgeGeneration (m : Nat) (gen : BitVec 32) (s : State) : Judgment :=
  if (s.meter m).state == .undefined || 2 ^ 17 ≤ gen.toNat then .status stBadArgument
  else if gen.getLsbD 16 && gen.setWidth 16 != (s.meter m).defGen then .status stStaleState else .ok

/-- `meter.map_cf` (R217, R387). -/
def judgeMap (p : MeterMapCf) (s : State) : Judgment :=
  if p.q = 0xFF then argument (p.cf < 16 && p.meter = 0 && p.width = 0 && p.k = 0 && p.expGen == 0)
  else (argument (p.cf < 16 && p.q ≤ 15 && within 1 80 p.width && within 1 1000000 p.k)).andThen (judgeGeneration p.meter p.expGen s)

/-- Meter `m` is defined (R378): else ST_BAD_ARGUMENT, from P00. -/
def judgeMeter (m : Nat) (s : State) : Judgment := argument ((s.meter m).state != .undefined)

/-! ## pq -/

/-- `pq.set_channel` (R230). -/
def judgePqChannel (p : PqSetChannel) : Judgment :=
  argument (p.channel < 128 && p.enable ≤ 1 && p.kind ≤ 1 && p.fNom ≤ 1 && p.ref < 128 && p.harm ≤ 1 && p.iharm ≤ 1
    && (f32Val p.udin).any (fun v => decide (0 < v)) && within 1 20000 p.dip && within 1 20000 p.swell && within 1 20000 p.intr
    && p.hyst ≤ 1000 && p.intr < p.dip && p.dip < 10000 && 10000 < p.swell)

/-- The capture number a `pq.set_capture` means: the lowest free one for 0xFF (R388). -/
def State.captureNumber (s : State) (n : Nat) : Option Nat :=
  if n = 0xFF then firstFrom (fun k => (s.pq.captures.find k).isNone) 32 0 else some n

/-- A capture may be redefined or deleted: disarmed, every segment FREE (R388). -/
def Capture.idle (c : Capture) : Bool := !c.enabled && (c.inState .free).length == c.cfg.nseg

/-- Channels of a list that names at most `n`, unused entries 0xFF. -/
def channelsOk (l : List Nat) (n : Nat) : Bool :=
  let used := l.filter (· != 0xFF)
  used.length = n && distinct used && used.all (· < 128)

/-- `pq.set_capture` of polder `p` (R253, R388). -/
def judgeCapture (p : Nat) (x : PqSetCapture) (s : State) : Judgment :=
  let there := s.pq.captures.find x.capture
  if x.nseg = 0 then
    (argument (x.capture < 32 && there.isSome && x.format = 0 && x.nchan = 0 && x.preMs = 0 && x.postMs = 0 && x.kinds == 0
      && x.channels.all (· = 0) && x.sources.all (· = 0) && x.srcIsMeter == 0 && x.flagMeter = 0 && x.flagMask == 0)).andThen
      (if there.all Capture.idle then .ok else .status stBusyRetry)
  else
    let src (i : Nat) : Bool :=
      let v := x.sources.getD i 0xFF
      if v = 0xFF then !x.srcIsMeter.getLsbD i else x.srcIsMeter.getLsbD i || v < 128
    (argument ((x.capture < 32 || x.capture = 0xFF) && x.format ≤ 3 && within 1 16 x.nseg
      && within 1 (if fmtFast x.format then 8 else 32) x.nchan && x.preMs ≤ 10000 && within 1 60000 x.postMs
      && x.kinds.toNat < 1024 && !x.kinds.getLsbD 0 && channelsOk x.channels x.nchan && (List.range 8).all src
      && ((bitsOf 8 x.srcIsMeter.toNat).all fun i => (s.meter (x.sources.getD i 0)).state != .undefined)
      && x.flagMask.toNat < 2 ^ 16 && (x.flagMeter = 0xFF || (s.meter x.flagMeter).state != .undefined))).andThen
    (if there.any fun c => !c.idle then .status stBusyRetry
     else match s.captureNumber x.capture with
      | none => .status stBusyRetry
      | some k => argument (s.capturePlace p k (captureSpan x)).isSome)

/-- `pq.stream_open` of polder `p` (R260, R388). -/
def judgeStream (p : Nat) (x : PqStreamOpen) (s : State) : Judgment :=
  (argument (x.format ≤ 3 && within 1 (if fmtFast x.format then 4 else 16) x.nchan && within 1 64 x.size
    && channelsOk x.channels x.nchan)).andThen
  (if 16 ≤ s.pq.streams.length then .status stBusyRetry else argument (s.streamPlace p (streamSpan x)).isSome)

/-! ## cal -/

/-- The targets named, and those beyond them (R389). -/
def calTargets (l : List CalTarget) (n : Nat) : List CalTarget := l.take n

/-- Entries beyond NTARGET are zero. -/
def targetsPadded (l : List CalTarget) (n : Nat) : Bool := (l.drop n).all fun t => t.channel = 0 && t.gear = 0

/-- A reference value that is not an infinity or, but for REF_ANG, not a number. -/
def refNumber (v : BitVec 64) : Bool := (f64Val v).isSome

/-- An infinity. -/
def refInfinite (v : BitVec 64) : Bool := v.toNat % 2 ^ 63 = 0x7FF0000000000000

/-- The reference fields of a run by kind; a field its kind does not use is zero (R270, R377). -/
def calFields (r : CalRun) : Bool :=
  let mag := r.kind == 1 || r.kind == 4 || r.kind == 5
  let ang := r.kind == 2 || r.kind == 4 || r.kind == 5
  let power := r.kind == 3
  let point := r.kind == 4 || r.kind == 5
  (if mag then (f64Val r.refMag).any (fun v => decide (0 < v)) else r.refMag == 0)
    && (if ang then !refInfinite r.refAng && r.phaseRef < 128 else r.refAng == 0 && r.phaseRef = 0)
    && (if power then refNumber r.refP1 && refNumber r.refQ1 && r.phase ≤ 2
        else r.refP1 == 0 && r.refQ1 == 0 && r.meter = 0 && r.phase = 0)
    && (if point then r.index ≤ (if r.kind == 4 then 7 else 4) else r.index = 0)

/-- A jockey serves channel `c`: PATH 1 alone is measured (R272). -/
def State.jockeyServed (s : State) (c : Nat) : Bool := (s.wheel (wheelOf c)).jockeyServes == some (spokeOf c)

/-- A target of a run that cannot be run (R270): no such channel or gear, DC with a DC block, the wrong channel for POWER, a point
beyond the next one; at BC, a wheel that is not free (R278). -/
def calTargetBad (r : CalRun) (t : CalTarget) (commit : Bool) (s : State) : Option Nat :=
  let c := t.channel
  let ch := s.channel c
  let points (path : Nat) : Nat := if r.kind == 4 then (ch.set t.gear path).seg.length else (ch.set t.gear path).temp.length
  let fits := r.index ≤ points 1 && (s.jockeyServed c || r.index ≤ points 0)
  if !(c < 128 && t.gear ≤ 1) || (r.signal = 1 && ch.corner != 0)
      || (r.kind == 3 && !((s.meter r.meter).state != .undefined && r.phase < phasesOf (s.meter r.meter).def_.type
            && slotChannel (s.meter r.meter).def_ (4 + r.phase) == some c))
      || ((r.kind == 4 || r.kind == 5) && !fits)
  then some stBadArgument
  else
    let x := s.wheel (wheelOf c)
    if commit && ((x.jockeyServes.any (· != spokeOf c)) || x.calRun.isSome || x.prob.isSome) then some stBusyRetry else none

/-- `cal.run` (R270, R278). -/
def judgeRun (r : CalRun) (commit : Bool) (s : State) : Judgment :=
  let l := calTargets r.targets r.ntarget
  (argument (r.kind ≤ 5 && within 1 16 r.ntarget && r.signal ≤ 1 && within 8 3750 r.n && (r.tol = 0 || within 50 5000 r.tol)
    && calFields r && targetsPadded r.targets r.ntarget && distinct (l.map fun t => t.channel / 8)
    && (r.kind != 3 || (s.meter r.meter).state != .undefined))).andThen
  (targets (List.range r.ntarget) fun i => calTargetBad r (l.getD i ⟨0xFF, 0⟩) commit s)

/-- `cal.commit` (R276): a target without a READY candidate fails, one named twice included. -/
def judgeCommit (r : CalCommit) (s : State) : Judgment :=
  let l := calTargets r.targets r.ntarget
  (argument (within 1 16 r.ntarget && targetsPadded r.targets r.ntarget)).andThen
  (targets (List.range r.ntarget) fun i =>
    let t := l.getD i ⟨0xFF, 0⟩
    if t.channel < 128 && t.gear ≤ 1 && (s.cand t.channel t.gear).any (fun k => k.status == .ready) && !(l.take i).contains t
    then none else some stBadArgument)

/-! ## tariff and ledger -/

/-- A rate quantity (R291): 0 to 15, or 0xFF for none. -/
def rateQOk (q : Nat) : Bool := q ≤ 15 || q = 0xFF

/-- `tariff.activate_at` of polder `p` (R302, R390). -/
def judgeActivate (p : Nat) (t : BitVec 64) (s : State) : Judgment :=
  argument (t == 0 || (t.toNat < 2 ^ 40 && (s.tariff p).passiveValid && s.second + 2 ≤ t.toNat))

/-- A demand entry (R304). -/
def demandEntryOk (e : DemandEntry) : Bool :=
  if e.q = 0xFF then e.l = 0 && e.s = 0 && e.rateMask == 0
  else e.q ≤ 15 && [1, 2, 3, 4, 5, 6, 10, 12, 15, 20, 30, 60].contains e.l && within 1 15 e.s

/-- A tamper configuration (R309, R502). -/
def tamperCfgOk (c : TamperCfg) (s : State) : Bool :=
  c.enable.toNat < 8 && c.revMask.toNat < 8 && (f32Val c.pRev).any (fun v => decide (0 ≤ v)) && within 1 1000 c.bypRel
    && within 1 1000 c.neuLow && (f32Val c.uNom).any (fun v => decide (0 < v)) && within 1 1000 c.neuPe && within 1 1000 c.neuZs
    && within 125 65535 c.tOn && within 125 65535 c.tOff
    && ((List.range 3).all fun i => !(c.enable.getLsbD i && s.guard.fuses.getLsbD (19 + i)))

/-- `ledger.read_signed` (R312). -/
def judgeReading (r : LedgerReadSigned) (s : State) : Judgment :=
  let snap := r.select.getLsbD 5
  let known := (s.meter r.meter).state != .undefined || (s.meter r.meter).former.isSome
  (argument (known && r.select != 0 && r.select.toNat < 64
    && (if snap then ((s.ledger r.meter).snapshot r.snapIndex).isSome else r.snapIndex = 0))).andThen
  (if s.sign.queue.length < 64 then .ok else .status stBusyRetry)

/-! ## polder -/

/-- `polder.assign` (R326, R367). -/
def judgeAssign (n : Nat) (l : List PolderRecord) (s : State) : Judgment :=
  (argument (within 1 15 n && l.length = n && l.all recordReserved)).andThen
  ((targets (List.range n) fun i =>
      match l[i]? with
      | some r => if assignTargetBad s r then some stBadArgument else none
      | none => some stBadArgument).andThen
    (argument (assignOk l s)))

/-- `polder.rekey` of polder `p` (R331, R391, R401); `alone`: no other command of the polder is outstanding. -/
def judgeRekey (p : Nat) (r : PolderRekey) (alone : Bool) (s : State) : Judgment :=
  if 16 ≤ r.options.toNat then .status stBadArgument
  else if BitVec.ofNat 32 r.newKeyGen != (s.polder p).keyGen + 1 then .status stStaleState
  else if (rekeyKeys p r).isNone then .status stBadArgument
  else if r.options.getLsbD 3 && !alone then .status stBusyRetry else .ok

/-! ## plc, time, store -/

/-- `plc.set_link` (R436, R377): the phase of a mode that uses none is zero. -/
def judgeLink (p : PlcSetLink) : Judgment :=
  argument (p.enable ≤ 1 && p.txMode ≤ 2 && p.rxMode ≤ 1 && (if p.txMode = 0 then p.txPhase ≤ 2 else p.txPhase = 0)
    && (if p.rxMode = 0 then p.rxPhase ≤ 2 else p.rxPhase = 0))

/-- `plc.set_spectrum` (R438). -/
def judgeSpectrum (p : PlcSetSpectrum) : Judgment :=
  argument (p.nnotch ≤ 16
    && ((p.notches.take p.nnotch).all fun (a, b) => within 40 245 a && within 40 245 b && a ≤ b)
    && ((p.notches.drop p.nnotch).all fun (a, b) => a = 0 && b = 0)
    && p.psd.all fun v => -3 ≤ v && v ≤ 60)

/-- `plc.send` of polder `p` (R395). -/
def judgeSend (p : Nat) (r : PlcSend) (s : State) : Judgment :=
  (argument (r.priority ≤ 3 && r.mode ≤ 2 && within 1 1500 r.dlen && r.destPolder < 16)).andThen
    (if s.plcFull p then .status stBusyRetry else .ok)

/-- `time.set` (R396, R472): whether the RTC keeps its range is judged at the commit boundary. -/
def judgeTime (p : TimeSet) (commit : Bool) (s : State) : Judgment :=
  argument (p.mode ≤ 1 && (p.mode = 0 || p.offset.natAbs ≤ 2 ^ 24) && (!commit || (timeSet p.mode p.offset s).isSome))

/-- Bytes of a polder's store (R397). -/
def storeSize : Nat := 16384

/-- Flash byte address of the general store (R36). -/
def storeBase : Nat := 0x7C0000

/-- A granule of the general store is erased: not programmed since the last erase. -/
def State.granuleErased (s : State) (g : Nat) : Bool := (s.flash.store.find g).isNone

/-- `store.program` of polder `p` (R397, R483). -/
def judgeProgram (p : Nat) (r : StoreProgram) (s : State) : Judgment :=
  (argument (r.addr % 16 = 0 && r.len % 16 = 0 && within 16 4096 r.len && r.addr + r.len ≤ storeSize)).andThen
    (if (List.range (r.len / 16)).all fun i => s.granuleErased ((p * storeSize + r.addr) / 16 + i) then .ok else .status stNotErased)

/-! ## guard -/

/-- The prime of P-256 and the coefficient b of its curve. -/
def p256Prime : Nat := 2 ^ 256 - 2 ^ 224 + 2 ^ 192 + 2 ^ 96 - 1
/-- b. -/
def p256B : Nat := 0x5ac635d8aa3a93e7b3ebbd55769886bc651d06b0cc53b0f63bce3c3e27d2604b

/-- An unsigned big-endian value (R9). -/
def ofBE (l : List Byte) : Nat := ofLE l.reverse

/-- X and Y of 32 bytes each are a point on P-256 (R398). -/
def onCurve (pub : List Byte) : Bool :=
  let x := ofBE (pub.take 32)
  let y := ofBE (pub.drop 32)
  pub.length = 64 && x < p256Prime && y < p256Prime
    && y * y % p256Prime = (x * x * x + (p256Prime - 3) * x + p256B) % p256Prime

/-- 300 s in master clocks. -/
def challengeLife : Nat := seconds 300

/-- The response to the current challenge is valid (R398). -/
def unlockValid (r : GuardUnlock) (s : State) : Bool :=
  match s.guard.key, s.guard.challenge with
  | some key, some c =>
    c.id == BitVec.ofNat 32 r.challengeId && s.now ≤ c.issued + challengeLife
      && Config.ecdsaVerify key
          (Config.sha256 (("KMP3-UNLOCK".toList.map fun ch => BitVec.ofNat 8 ch.toNat) ++ leBytes 16 Config.deviceId.toNat
            ++ leBytes 4 c.id.toNat ++ leBytes 16 c.bytes.toNat)) r.sig
  | _, _ => false

/-- The reserved bits of PARAM are zero, by source (R11, R499). -/
def guardParamOk (e : GuardEntry) : Bool := if e.source < 8 then e.param < 4 else if e.source < 19 then e.param = 0 else e.param < 8

/-- A target of `guard.set_response` fails (R500). -/
def guardTargetBad (s : State) (e : GuardEntry) : Bool :=
  let known := e.source < 19 || (256 ≤ e.source && e.source < 512)
  !known || s.fused e.source || 2 < e.response || (e.response = 2 && s.guard.key.isNone)

/-! ## image -/

/-- The copy a wet package is staged into: the one that is not active (R340). -/
def State.idleWet (s : State) : Bool := !s.pwr.wetActive

/-- The region that `image.stage` of a kind writes, and its size (R36, R342). -/
def stageRegion (kind : Nat) (s : State) : ImageCopy × Nat :=
  if kind = 1 then (s.flash.dryStaged, 0x100000) else (s.flash.wet s.idleWet, 0x200000)

/-- `image.stage` (R340, R400, R401, R483). -/
def judgeStage (r : ImageStage) (s : State) : Judgment :=
  let region := stageRegion r.kind s
  (argument (r.kind ≤ 1 && r.offset % 16 = 0 && r.offset + r.data.length ≤ region.2)).andThen
    (if r.offset = 0 then
      (if s.out.staged.any fun g => g.cmd == .imageActivate r.kind then .status stBusyRetry else .ok)
     else if (List.range (r.data.length / 16)).all fun i => (region.1.granules.find (r.offset / 16 + i)).isNone then .ok
     else .status stNotErased)

/-- Flash byte address of the region that `image.stage` of a kind writes (R36). -/
def stageBase (kind : Nat) (s : State) : Nat := if kind = 1 then 0x100000 else if s.idleWet then 0x400000 else 0x200000

/-- A granule of the `len` flash bytes from `a` cannot be read (R484). -/
def State.granulesBad (s : State) (a len : Nat) : Bool := s.flash.bad.any fun g => g < a + len && a < g + 16

/-- A staged package passes the checks of R343; a granule that cannot be read fails them (R484). -/
def packageOk (kind : Nat) (s : State) : Bool :=
  let c := (stageRegion kind s).1
  let limit := (stageRegion kind s).2 - 256
  let len := ofLE (c.read 16 4)
  let head := c.read 0 56
  let hash := Config.sha256 head
  let sec := BitVec.ofNat 32 (ofLE (c.read 12 4))
  !s.granulesBad (stageBase kind s) (256 + len) && ofLE (c.read 0 4) = 1 && ofLE (c.read 4 1) = kind && ofLE (c.read 5 3) = 0 && len ≤ limit && ofLE (c.read 20 4) = 0
    && ofLE (c.read 184 72) = 0
    && BitVec.ofNat 256 (ofBE (c.read 24 32)) == Config.sha256 (c.read 256 len)
    && Config.ecdsaVerify Config.glerothKey hash (c.read 56 64)
    && (if kind = 1 then Config.ecdsaVerify Config.authorityKey hash (c.read 120 64) else ofLE (c.read 120 64) = 0)
    && decide ((if kind = 1 then s.flash.drySec else s.flash.wetSec).toNat ≤ sec.toNat)

/-! ## Every command -/

/-- The argument check of command `c` from polder `p`, at acceptance or, `commit`, at its boundary; `done`: wheels whose bank has been
switched at that boundary; `alone`: the polder has no other command outstanding. -/
def judge (p : Nat) (c : Cmd) (commit : Bool) (done : List Nat) (alone : Bool) (s : State) : Judgment :=
  match c with
  | .devInfo | .devIdentity | .devEcho _ => .ok
  | .powerSetDomains r => argument ((r.on &&& r.off) == 0 && (r.on ||| r.off).toNat < 2 ^ 33)
  | .powerSetState r => argument (r.state ≤ 3 && r.wakeCfg.toNat < 1024 && r.wakeCfg.toNat / 16 % 4 != 3)
  | .powerStatus => .ok
  | .wheelSetGear r => argument (r.channels != 0 && r.policy ≤ 2)
  | .wheelSetJockey r => argument (r.wheels != 0 && r.policy ≤ 2 && within 1 10000 r.rel && within 20 10000 r.floorPpm)
  | .wheelServiceSpoke r => judgeService r commit s
  | .wheelReturnSpoke r => judgeReturn r s
  | .wheelUseRelief w m => judgeRelief w m commit s
  | .wheelStatus w => argument (w < 16)
  | .chainLoadBank r => judgeLoad r s
  | .chainSwitchBank r => judgeSwitch r done commit
  | .chainSetChannel r => judgeSetChannel r s
  | .chainSetTrip r => judgeTrip r
  | .chainClearTrip _ => .ok
  | .chainStatus n => argument (n < 128)
  | .meterDefine d => argument (defineOk d s)
  | .meterUndefine r => judgeGeneration r.meter r.expGen s
  | .meterMapCf r => judgeMap r s
  | .meterStatus _ => .ok
  | .pqSetChannel r => judgePqChannel r
  | .pqSetMeter r => argument (r.enable ≤ 1 && (s.meter r.meter).state != .undefined
      && ((s.meter r.meter).def_.type == 2 || (s.meter r.meter).def_.type == 3))
  | .pqSetCapture r => judgeCapture p r s
  | .pqArm k a => argument (a ≤ 1 && (s.pq.captures.find k).isSome)
  | .pqTrigger k => argument (s.pq.captures.find k).isSome
  | .pqRelease r => argument (s.pq.captures.find r.capture).isSome
  | .pqStatus k => argument (s.pq.captures.find k).isSome
  | .pqStreamOpen r => judgeStream p r s
  | .pqStreamClose k => argument (s.pq.streams.find k).isSome
  | .calRun r => judgeRun r commit s
  | .calCommit r => judgeCommit r s
  | .calDiscard t => argument (t.channel < 128 && t.gear ≤ 1 && (s.cand t.channel t.gear).isSome)
  | .calStatus t => argument (t.channel < 128 && t.gear ≤ 1)
  | .calRead r => argument (r.channel < 128 && r.gear ≤ 1 && r.path ≤ 1)
  | .calAnchor => .ok
  | .calSetReference r => argument (r.preferred ≤ 2 && r.auto ≤ 1 && (s.refs.anchor.find r.preferred).isSome
      && !s.refs.failed.contains r.preferred)
  | .tariffStageCalendar b => argument (parseCalendar b).isSome
  | .tariffActivateAt t => judgeActivate p t s
  | .tariffSetMeter r => argument ((s.meter r.meter).state != .undefined && r.mode ≤ 1
      && (if r.mode = 1 then r.rate ≤ 7 else r.rate = 0) && rateQOk r.rateQ0 && rateQOk r.rateQ1)
  | .tariffStatus => .ok
  | .ledgerReadSigned r => judgeReading r s
  | .ledgerSetDemand r => argument ((s.meter r.meter).state != .undefined && r.entries.all demandEntryOk)
  | .ledgerSetTamper r => argument ((s.meter r.meter).state != .undefined && tamperCfgOk r.cfg s)
  | .ledgerClosePeriod m => (argument (m != 0)).andThen
      (targets (bitsOf 256 m.toNat) fun i => if (s.meter i).state == .undefined then some stBadArgument else none)
  | .ledgerStatus m => judgeMeter m s
  | .polderCreate r => argument (createOk r s)
  | .polderAssign n l => judgeAssign n l s
  | .polderRelease r => argument (releaseOk p r s)
  | .polderClose => argument (closeOk p s)
  | .polderDissolve n => argument (dissolveOk n s)
  | .polderRekey r => judgeRekey p r alone s
  | .polderGetKey => .ok
  | .polderStatus n => argument (n < 16)
  | .polderReadAudit r => argument (within 1 64 r.count)
  | .eventRead n => argument (within 1 64 n)
  | .eventMask r => argument (r.group < 32)
  | .eventRoute r => argument (r.line ≤ 3)
  | .plcSetLink r => judgeLink r
  | .plcSetNetwork r => argument (within 1 0xFFFE r.node && r.role ≤ 1)
  | .plcSetSpectrum r => judgeSpectrum r
  | .plcSend r => judgeSend p r s
  | .plcRecv | .plcStatus => .ok
  | .timeSet r => judgeTime r commit s
  | .timeTrust a => argument (a ≤ 1)
  | .timeSetAlarm r => argument (r.seconds.toNat < 2 ^ 40 && r.mask.toNat < 2 ^ 40 && r.enable ≤ 1)
  | .timeSetPeriodic r => argument (r.k ≤ 22 && r.enable ≤ 1)
  | .timeStatus => .ok
  | .storeRead r => argument (within 1 4096 r.len && r.addr + r.len ≤ storeSize
      && !s.granulesBad (storeBase + p * storeSize + r.addr) r.len)
  | .storeProgram r => judgeProgram p r s
  | .storeErase r => argument (r.addr % 4096 = 0 && within 1 4 r.count && r.addr + 4096 * r.count ≤ storeSize)
  | .guardUnlock r => argument (r.step = 0 || (r.step = 1 && unlockValid r s))
  | .guardSetKey k => argument (onCurve k)
  | .guardSetResponse r => (argument (within 1 64 r.n && r.entries.length = r.n && r.entries.all guardParamOk)).andThen
      (targets (List.range r.n) fun i =>
        if (r.entries[i]?).all (guardTargetBad s) then some stBadArgument else none)
  | .tandemEnable r => argument (r.enable ≤ 1 && (r.enable = 1 || r.partnerId == 0))
  | .tandemHandover => if s.tdm.role == .captain && s.tdm.heldEpoch != 0 then .ok else .status stBusyRetry
  | .tandemStatus => .ok
  | .imageStage r => judgeStage r s
  | .imageActivate k => argument (k ≤ 1 && packageOk k s)
  | .imageConfirm => argument s.flash.trial.isSome
  | .imageStatus => .ok

end Sys2Proof.Machine
end

