-- ==== Sys2Proof/Machine/Settings.lean ====
section
/-! DEFINITION. What the commands that commit at a boundary change: power, wheels, chains, meters, calibration, tariffs, ledgers and
guards (04 to 10, 17). -/
namespace Sys2Proof.Machine

/-! ## power (R95, R104) -/

/-- The commit of `power.set_domains` by polder `p`: its requests (R95). -/
def setDomains (p : Nat) (r : PowerSetDomains) (s : State) : State :=
  s.modPolder p fun q => { q with on := r.on.setWidth 33, off := r.off.setWidth 33 }

/-- The device state that a code names (R124). -/
def devStateOf : Nat → DevState
  | 0 => .run
  | 1 => .trim
  | 2 => .hush
  | _ => .nap

/-- The commit of `power.set_state` (R104): RUN and TRIM at once; HUSH is deferred while DEV_WAKE is high; NAP is entered once the
boundary's commits are done. A device in HUSH leaves it only by a wake (R105): RUN and TRIM then become the state it goes back to. -/
def setPower (r : PowerSetState) (s : State) : State :=
  let s := { s with pwr := { s.pwr with wakeCfg := r.wakeCfg.setWidth 10 } }
  match devStateOf r.state with
  | .hush => if s.pwr.state == DevState.hush then s else { s with pwr := { s.pwr with hushWant := true, after := none } }
  | .nap => { s with pwr := { s.pwr with pending := some .nap, after := none, hushWant := false, hushDefer := false } }
  | d => if s.pwr.state == DevState.hush then { s with pwr := { s.pwr with held := d } }
         else { s with pwr := { s.pwr with state := d, after := none, hushWant := false, hushDefer := false } }

/-! ## wheel (R132, R138, R147, R151, R158) -/

/-- The commit of a channel's gear policy (R132): CRUISE and CLIMB take the gear they name at the boundary. -/
def setGear (policy : Nat) (s : State) (c : Nat) : State :=
  if (s.channel c).gearPolicy = policy then s
  else gearPass (wheelOf c) ((s.modChannel c fun x => { x with gearPolicy := policy }).bumpChannel c)

/-- The commit of a wheel's jockey policy and threshold (R138). -/
def setJockey (r : WheelSetJockey) (s : State) (w : Nat) : State :=
  let x := s.wheel w
  let s := if x.policy = r.policy && x.rel = r.rel && x.floorPpm = r.floorPpm then s
    else (s.modWheel w fun x => { x with policy := r.policy, rel := r.rel, floorPpm := r.floorPpm }).bumpWheel w
  let held := x.takeover.isSome || x.prob.isSome || x.calRun.isSome
  if held then s
  else match x.jockey.state with
    | .settling | .dwell => if r.policy = 0 then idleJockey w (cutDwell w s) else s
    | .idle => if r.policy = 0 then s else follow w 0 s
    | _ => s

/-- The commit of `wheel.return_spoke` (R147, R154): a spoke whose jockey has failed returns without a check. -/
def returnSpoke (w k : Nat) (s : State) : State :=
  if (s.wheel w).jockeyServes == some k then returnPass w k s else emergencyReturn w k s

/-- The commit of `wheel.use_relief` (R158): the handover takes place at the next boundary, after a cadence in parallel; the passing tests
that a return of a failed engine needs are counted from here. -/
def useRelief (w mode : Nat) (s : State) : State :=
  { s.modWheel w (fun x => { x with passRun := 0 }) with
    relief := { s.relief with phase := if mode = 1 then .taking else .returning, wheel := w, due := s.b + 1 } }

/-! ## chain (R173 to R186, R223, R225) -/

/-- The inactive bank of wheel `w` takes a set (R182, R184). -/
def loadBank (b : Bank) (s : State) (w : Nat) : State :=
  let x := s.wheel w
  if x.otherBank = b then s
  else (s.modWheel w fun x => if x.activeB then { x with bankA := b } else { x with bankB := b }).bumpWheel w

/-- L_f by its code (R386). -/
def fadeLength (code : Nat) : Nat := 16 * 2 ^ code

/-- The banks of wheel `w` exchange at the boundary; while its domain is not ON there is no fade (R185, R186). -/
def switchBank (code : Nat) (s : State) (w : Nat) : State :=
  (s.modWheel w fun x =>
    { x with activeB := !x.activeB
             fade := if s.domOn (wheelDom w) then some { length := fadeLength code, from_ := s.b, over_ := false } else Option.none }).bumpWheel w

/-- The settings of a channel as `chain.set_channel` leaves them (R386); the integrator is cleared where it is enabled or disabled
(R173), and another cycle reference begins its crossings anew (R179). -/
def Chan.apply (x : Chan) (r : ChainSetChannel) (b : Nat) : Chan :=
  let on (i : Nat) : Bool := r.what.getLsbD i
  let int := if on 3 then r.intEnable ≠ 0 else x.intEnable
  let ref := if on 4 then r.cycleRef else x.cycleRef
  { x with
    scale := if on 0 then r.scale else x.scale
    corner := if on 1 then r.corner else x.corner
    dcFreeze := if on 2 then r.dcFreeze ≠ 0 else x.dcFreeze
    intEnable := int
    intAt := if int == x.intEnable then x.intAt else some b
    cycleRef := ref
    cycleX := if ref = x.cycleRef then x.cycleX else Cross.zero
    envAttack := if on 5 then r.envAttack else x.envAttack
    envDecay := if on 5 then r.envDecay else x.envDecay }

/-- The commit of `chain.set_channel`: a change advances epochs (R116). -/
def setChannel (r : ChainSetChannel) (s : State) : State :=
  let x := s.channel r.channel
  let y := x.apply r s.b
  if y = x then s else (s.modChannel r.channel fun _ => y).bumpChannel r.channel

/-- The commit of `chain.set_trip` (R223, R225). -/
def setTrip (r : ChainSetTrip) (s : State) : State :=
  (clearTrip r.channel s).modChannel r.channel fun x => { x with trip := {
    mode := r.mode, tHi := r.tHi, tLo := r.tLo, count := r.count, release := r.release, latch := r.tflags.getLsbD 0
    lostTrip := r.tflags.getLsbD 1, outMask := r.outMask.setWidth 4 } }

/-- `chain.clear_trip`: the latches of the comparators named (R225). -/
def clearLatch (s : State) (c : Nat) : State := if (s.channel c).tripState.latched then clearTrip c s else s

/-! ## meter (R189 to R195, R217, R293) -/

/-- Slots whose channel or INVERT bit differs between two definitions (R202). -/
def changedSlots (a b : MeterDefine) : BitVec 8 :=
  BitVec.ofNat 8 (maskOf ((List.range 8).filter fun i =>
    slotChannel a i != slotChannel b i || a.invert.getLsbD i != b.invert.getLsbD i))

/-- A result record and an unbalance record are cleared (R194). -/
def clearRecords (m : Nat) (s : State) : State :=
  { s with
    mem := ((s.mem.clear (resultAddr m 0) 0x200).clear (resultAddr m 1) 0x200).clear (0x01540000 + m * 0x40) 0x40
    pq := { s.pq with unb := s.pq.unb.erase m } }

/-- DEF_GEN of meter number `m` advances, once at a boundary however many definitions commit there (R194). -/
def bumpDefGen (m : Nat) (s : State) : State :=
  s.once (.definition m) fun s => s.modMeter m fun x => { x with defGen := x.defGen + 1 }

/-- The commit of `meter.define` for an undefined number (R194, R293): what still waits for its old ledger is booked first. A cadence that
closes at this boundary is still published for the meter that an undefine has ended. -/
def createMeter (d : MeterDefine) (s : State) : State :=
  let m := d.meter
  let s := bumpDefGen m (clearRecords m (bookAll s))
  let gen := (s.meter m).defGen
  let s := s.modMeter m fun _ => { Meter.reset m with state := .pending, def_ := d, defGen := gen, born := s.b }
  let s := s.modLedger m fun l =>
    { Ledger.cleared l.readSeq with
      exists_ := true, owner := d.owner, sealed := defSealed d, defGen := gen, period := 1, periodOpen := s.stamp }
  s.bumpMetering

/-- The commit of `meter.define` for a meter that exists (R194): its owner stays. -/
def changeMeter (d : MeterDefine) (s : State) : State :=
  let m := d.meter
  let was := s.meter m
  let d := { d with owner := was.def_.owner }
  let s := bumpDefGen m s
  let gen := (s.meter m).defGen
  let s := s.modMeter m fun x =>
    { x with def_ := d, redefined := x.redefined || x.state == .defined
             restart := some (s.b, changedSlots was.def_ d |||
               (match x.restart with
                | some (b, mask) => if b = s.b then mask else 0
                | Option.none => 0)) }
  let s := s.modLedger m fun l => { l with sealed := defSealed d, defGen := gen }
  if d = was.def_ then s else s.bumpMetering

/-- The commit of `meter.define`. -/
def defineMeter (d : MeterDefine) (s : State) : State :=
  if (s.meter d.meter).state == .undefined then createMeter d s else changeMeter d s

/-- The commit of `meter.undefine` (R194, R307, R115): the final close, the former owner, and the outputs mapped to the meter. -/
def undefineMeter (m : Nat) (s : State) : State :=
  let was := s.meter m
  let s := ledgerOp m (.periodClose 6 s.stamp) s
  let s := s.modMeter m fun x => { Meter.reset m with defGen := x.defGen, former := some was.def_.owner }
  let s := s.bumpMetering
  { s with
    pwr := { s.pwr with outageDue := s.pwr.outageDue.erase m }
    pq := { s.pq with unb := s.pq.unb.map fun (i, u) => (i, if i = m then { u with open_ := [], slotsOpen := [] } else u) }
    cf := s.cf.map fun (n, x) => (n, if x.map.any (·.meter = m) then { x.toKick with map := Option.none, acc := 0 } else x) }

/-- The mapping that a `meter.map_cf` sets (R217); none where it clears it. -/
def mapOf (r : MeterMapCf) : Option CfMap :=
  if r.q = 0xFF then Option.none else some { meter := r.meter, q := r.q, k := r.k, width := r.width }

/-- The commit of `meter.map_cf` (R218): a change clears the accumulator; edges already placed stay due (R221), and R115 names no
return to kickstand for it. -/
def mapCf (r : MeterMapCf) (s : State) : State :=
  if (s.cfOut r.cf).map = mapOf r then s
  else (s.modCf r.cf fun x => { x with map := mapOf r, acc := 0, carry := 0 }).bumpMetering

/-! ## cal (R272, R276, R278, R280, R284) -/

/-- A RUNNING candidate of a target (R272, R275). -/
def newCand (r : CalRun) (t : CalTarget) (s : State) : Cand :=
  let jockey := s.jockeyServed t.channel
  { status := .running, run := r, gear := t.gear, bc := s.b, leg := r.kind = 1 && !jockey, legHalves := { nA := 0, sumA := 0, nB := 0, sumB := 0 }
    refResp := Option.none, spokePath := !jockey, jockeyPath := true
    a0 := { counted := 0, c1 := 0, c2 := 0 }, b0 := { counted := 0, c1 := 0, c2 := 0 }
    a1 := { counted := 0, c1 := 0, c2 := 0 }, b1 := { counted := 0, c1 := 0, c2 := 0 }
    rSum := 0, thetaSum := 0, counted := 0, freqSum := 0, seen := 0, new0 := Option.none, new1 := Option.none, readyAt := Option.none
    broken := false }

/-- The commit of a run for one target (R272, R278): a wheel with a takeover in hand, or whose domain is not ON, leaves the candidate
ABORTED; GAIN on a spoke takes the channel over for its reference leg. -/
def startRun (r : CalRun) (s : State) (t : CalTarget) : State :=
  let c := t.channel
  let w := wheelOf c
  let k := newCand r t s
  let blocked := (s.wheel w).takeover.isSome || !s.domOn (wheelDom w) || !(s.wheel w).settled
  let s := s.modChannel c fun ch =>
    { ch with cand := ch.cand.put t.gear (if blocked then { k with status := .aborted } else k) }
  if blocked then s
  else
    let s := s.modWheel w fun x => { x with calRun := some c }
    if s.jockeyServed c then s
    else
      let s := moveJockey w (spokeOf c) (cutDwell w s)
      if k.leg then s.modWheel w fun x => { x with takeover := some { spoke := spokeOf c, action := 3, bt := s.b + 1, auto := false } }
      else s

/-- A set replaced by a committed one (R276). -/
def CalSet.commit (x : CalSet) (n : CalSet) (kind stamp : Nat) : CalSet :=
  { n with lastKind := kind, calCount := x.calCount + 1, calTime := stamp, svcCount := x.svcCount, svcTime := x.svcTime }

/-- The commit of one target's candidate (R276). -/
def commitCand (s : State) (t : CalTarget) : State :=
  let c := t.channel
  match s.cand c t.gear with
  | none => s
  | some k =>
    let put (n : Option CalSet) (path : Nat) (ch : Chan) : Chan :=
      match n with
      | some x => ch.putSet t.gear path ((ch.set t.gear path).commit x k.run.kind s.stamp)
      | none => ch
    let s := s.modChannel c fun ch =>
      let ch := put k.new1 1 (put k.new0 0 ch)
      { ch with cand := Tab.erase ch.cand t.gear }
    s.bumpChannel c

/-- `cal.discard` (R275): the candidate goes; a run under way ends, in its reference leg with its spoke COVERED (DEDUCED, log 87). -/
def discardCand (t : CalTarget) (s : State) : State :=
  let c := t.channel
  let w := wheelOf c
  let running := (s.cand c t.gear).any fun k => k.status == .running
  let s := s.modChannel c fun ch => { ch with cand := Tab.erase ch.cand t.gear }
  if running then s.modWheel w Wheel.endRun else s

/-- The commit of `cal.set_reference` (R284): a change of selection is a handover, at the boundary of the commit
(DEDUCED, log 127). -/
def setReference (r : CalSetReference) (s : State) : State :=
  let s := { s with refs := { s.refs with pref := r.preferred, autoHo := r.auto ≠ 0 } }
  if s.refs.sel = r.preferred then s else handoverTo r.preferred s

/-! ## tariff and ledger (R296, R297, R302, R304, R307, R309) -/

/-- `tariff.stage_calendar` (R297): the passive copy, and no activation any more. -/
def stageCalendar (p : Nat) (bytes : List Byte) (s : State) : State :=
  match parseCalendar bytes with
  | none => s
  | some c => s.modTariff p fun t => { t with passive := c, passiveValid := true, pendingT := Option.none }

/-- `tariff.activate_at` (R302, R390): T, or no activation for T = 0. -/
def activateAt (p : Nat) (t : Nat) (s : State) : State :=
  s.modTariff p fun x => { x with pendingT := if t = 0 then Option.none else some t }

/-- The commit of `tariff.set_meter` (R296): a change of the rate quantities closes the period; mode 0 takes the rate its calendar gives
now. -/
def setTariff (r : TariffSetMeter) (s : State) : State :=
  let m := r.meter
  let l := s.ledger m
  let cal := (s.tariff (s.meter m).def_.owner).active
  let rate := if r.mode = 1 then r.rate else if s.trusted then cal.rateAt s.second else cal.defaultRate
  let s' := s.modLedger m fun l =>
    { l with mode := r.mode, fixedRate := r.rate, activeRate := rate, nowDefault := r.mode = 0 && !s.trusted }
  if l.rateQ0 = r.rateQ0 && l.rateQ1 = r.rateQ1 then s'
  else ledgerOp m (.rateQ r.rateQ0 r.rateQ1) (ledgerOp m (.periodClose 4 s.stamp) s')

/-- The commit of `ledger.set_demand` (R304): any change closes the period. A commit makes the sub-intervals in progress short, one that
changes nothing too (R306). -/
def setDemand (r : LedgerSetDemand) (s : State) : State :=
  if (s.ledger r.meter).demand.map (·.cfg) = r.entries then ledgerOp r.meter .cut s
  else ledgerOp r.meter (.demand r.entries) (ledgerOp r.meter (.periodClose 4 s.stamp) s)

/-- The commit of `ledger.set_tamper` (R309): the consecutive counts begin anew. -/
def setTamper (r : LedgerSetTamper) (s : State) : State :=
  s.modLedger r.meter fun l => { l with cfg := r.cfg, tamper := l.tamper.map fun e => { e with onRun := 0, offRun := 0 } }

/-- The commit of `ledger.close_period` for one meter (R307). -/
def closePeriod (s : State) (m : Nat) : State := ledgerOp m (.periodClose 2 s.stamp) s

/-! ## time, guard (R396, R499) -/

/-- The commit of `time.trust` (R473): the command mark is set by ACTION 0 and cleared by 1. -/
def timeTrust (action : Nat) (s : State) : State :=
  setCauses (if action = 0 then s.time.causes ||| 4 else s.time.causes &&& 3) s

/-- `time.set_alarm` (R474): it does not fire in the second that is under way. -/
def setAlarm (r : TimeSetAlarm) (s : State) : State :=
  { s with time := { s.time with
    alarmSeconds := r.seconds.setWidth 40, alarmMask := r.mask.setWidth 40, alarmOn := r.enable ≠ 0, alarmAt := some s.second } }

/-- `time.set_periodic` (R475). -/
def setPeriodic (r : TimeSetPeriodic) (s : State) : State :=
  { s with time := { s.time with periodicK := r.k, periodicOn := r.enable ≠ 0 } }

/-- The commit of one entry of `guard.set_response` (R499); an input whose response becomes none is not sampled and reads 0, and
one that is sampled from now on is read at its inactive level first (R497, log 69). -/
def setResponse (s : State) (e : GuardEntry) : State :=
  let was := s.response e.source
  let s := { s with guard := { s.guard with
    resp := s.guard.resp.put e.source { response := e.response, param := BitVec.ofNat 8 e.param } } }
  if e.source < 8 && was.response = 0 && e.response ≠ 0 then
    { s with tmp := { s.tmp with level := if e.param % 2 = 1 then s.tmp.level else s.tmp.level ||| (1#8 <<< e.source) } }
  else if e.source < 8 && e.response = 0 then
    { s with tmp := { s.tmp with
      active := s.tmp.active &&& ~~~(1#8 <<< e.source), level := s.tmp.level &&& ~~~(1#8 <<< e.source) } }
  else s

end Sys2Proof.Machine
end

