-- ==== Sys2Proof/Machine/Results.lean ====
section
/-! DEFINITION. The results of the commands that report (13): layouts packed as R377 says. A field whose value the spec does not state
for the state at hand is drawn free (log 2). -/
namespace Sys2Proof.Machine

/-- `n` bytes of a free value. -/
def State.drawBytes (s : State) (n : Nat) : List Byte × State := (leBytes n s.draw.1, s.draw.2)

/-- Bytes of a value, or free ones where there is none. -/
def State.orFree (s : State) (n : Nat) (v : Option (List Byte)) : List Byte × State :=
  match v with
  | some b => (b, s)
  | none => s.drawBytes n

/-- Several fields in order, each from the state that the one before leaves. -/
def fields (l : List (State → List Byte × State)) (s : State) : List Byte × State :=
  l.foldl (fun (bs, s) f => let (b, s) := f s; (bs ++ b, s)) ([], s)

/-- The result of `dev.info` (R383). -/
def devInfoBytes (s : State) : List Byte :=
  leBytes 2 3 ++ zeros 2 ++ leBytes 4 s.flash.wetVer.toNat ++ leBytes 4 s.flash.dryVer.toNat ++ leBytes 4 s.flash.wetSec.toNat
    ++ leBytes 4 s.flash.drySec.toNat ++ leBytes 16 Config.deviceId.toNat

/-- The result of `dev.identity` (R383). -/
def devIdentityBytes : List Byte :=
  let cert := Config.certificate.take 1024
  leBytes 16 Config.deviceId.toNat ++ slice Config.kaPub 0 64 ++ slice (Config.publicKey Config.identityKey) 0 64
    ++ leBytes 2 cert.length ++ zeros 6 ++ cert

/-- The result of `power.status` (R384). -/
def powerStatusBytes (p : Nat) (s : State) : List Byte := leBytes 8 (s.polder p).on.toNat ++ leBytes 8 (s.polder p).off.toNat

/-- State codes of R130. -/
def SliceState.code : SliceState → Nat
  | .serving => 0
  | .settling => 1
  | .dwell => 2
  | .covered => 3
  | .service => 4
  | .check => 5
  | .probation => 6
  | .failed => 7
  | .retired => 8
  | .idle => 9
  | .off => 10

/-- The 24 bytes of a slice in `wheel.status` (R385); free for the epoch of a slice that retains none. -/
def Slice.bytes (x : Slice) (s : State) : List Byte × State :=
  fields [fun s => (leBytes 1 x.state.code ++ leBytes 1 (bit x.suspect + 2 * bit x.emergency) ++ zeros 2, s),
    fun s => s.orFree 4 (x.retained.map fun e => leBytes 4 e.toNat),
    fun s => (leBytes 4 x.up.toNat ++ leBytes 4 x.down.toNat ++ leBytes 8 x.bridged.toNat, s)] s

/-- The result of `wheel.status` (R385). -/
def wheelStatusBytes (w : Nat) (s : State) : List Byte × State :=
  let x := s.wheel w
  fields ((fun s => (leBytes 1 w ++ leBytes 1 x.policy ++ leBytes 1 (x.jockeyAt.getD 0xFF) ++ leBytes 1 x.engine ++ leBytesInt 4 x.temp
    ++ leBytes 2 x.rel ++ leBytes 2 x.floorPpm ++ leBytes 1 (bit x.tstale) ++ zeros 3, s))
    :: (List.range 9).map fun k => (x.slice k).bytes) s

/-- FREEZE of `chain.status`: the causes of R175 that hold. -/
def freezeCauses (c : Nat) (s : State) : Nat :=
  let ch := s.channel c
  let sl := (s.wheel (wheelOf c)).slice (((s.wheel (wheelOf c)).server (spokeOf c)).getD (spokeOf c))
  bit ch.dcFreeze + 2 * bit (ch.shiftAt.any fun t => s.now < t + shiftFreeze) + 4 * bit ch.tripFrom.isSome + 8 * bit sl.lastBad
    + 16 * bit (ch.corner = 0)

/-- The result of `chain.status` (R386). -/
def chainStatusBytes (c : Nat) (s : State) : List Byte :=
  let x := s.wheel (wheelOf c)
  let ch := s.channel c
  let sl := x.slice ((x.server (spokeOf c)).getD (spokeOf c))
  leBytes 4 x.bank.id.toNat ++ leBytes 4 x.otherBank.id.toNat ++ leBytes 1 (bit x.activeB) ++ leBytes 1 (bit (x.fade.any fun f => !f.over_))
    ++ leBytes 1 ch.corner ++ leBytes 1 (freezeCauses c s) ++ leBytesInt 8 (sats 48 (roundSigned 48 ((sl.m : Rat) / ((2 ^ 44 : Nat) : Rat))))
    ++ leBytes 4 ch.scale.toNat ++ leBytes 1 ch.cycleRef ++ leBytes 1 ch.envAttack ++ leBytes 1 ch.envDecay ++ leBytes 1 (bit ch.intEnable)
    ++ leBytes 1 (bit ch.tripState.asserted + 2 * bit ch.tripState.latched) ++ zeros 3

/-- The outputs mapped to meter `m`. -/
def State.mappedTo (s : State) (m : Nat) : List Nat := (List.range 16).filter fun n => (s.cfOut n).map.any (·.meter = m)

/-- The result of `meter.status` (R387): an undefined meter has no type, options or publication to tell. -/
def meterStatusBytes (m : Nat) (s : State) : List Byte × State :=
  let x := s.meter m
  let here := x.state != .undefined
  let out := s.mappedTo m
  fields [
    fun s => (leBytes 1 (match x.state with
      | .undefined => 0
      | .pending => 1
      | .defined => 2), s),
    fun s => s.orFree 1 (if here then some (leBytes 1 x.def_.type) else none),
    fun s => (leBytes 2 x.defGen.toNat, s),
    fun s => s.orFree 1 (if here then some (leBytes 1 x.def_.options.toNat) else none),
    fun s => (zeros 3, s),
    fun s => s.orFree 8 (if here && !x.fresh then some (leBytes 8 x.lastPub) else none),
    fun s => (leBytes 2 (maskOf out) ++ zeros 6, s),
    fun s => ((List.range 16).flatMap fun n => if out.contains n then leBytes 4 (s.cfOut n).lost.toNat else zeros 4, s)] s

/-- The result of `pq.set_capture` (R388). -/
def captureBytes (k : Nat) (s : State) : List Byte :=
  leBytes 1 k ++ zeros 3 ++ (List.range 16).flatMap fun i =>
    match s.pq.captures.find k with
    | some c => if i < c.cfg.nseg then leBytes 4 (c.segAddr i) else zeros 4
    | none => zeros 4

/-- The result of `pq.status` (R388). -/
def pqStatusBytes (k : Nat) (s : State) : List Byte :=
  match s.pq.captures.find k with
  | none => zeros 24
  | some c =>
    ((List.range 16).flatMap fun i => leBytes 1 (if i < c.cfg.nseg then (c.seg i).state.code else 0xFF))
      ++ leBytes 4 c.missed.toNat ++ leBytes 1 c.cfg.format ++ leBytes 1 c.cfg.nseg ++ leBytes 1 c.cfg.nchan ++ leBytes 1 (bit c.enabled)

/-- Status codes of R389. -/
def CandStatus.code : CandStatus → Nat
  | .running => 0
  | .ready => 1
  | .disagree => 2
  | .insufficient => 3
  | .limit => 4
  | .failed => 5
  | .aborted => 6
  | .superseded => 7

/-- REF_STATE of `cal.status` (R389). -/
def refStateByte (r : Refs) : Nat :=
  (match r.state with
    | .normal => 0
    | .warn => 1
    | .handover => 2
    | .unassured => 3) + 4 * bit (r.kRef != r.kTarget) + 8 * r.sel + 32 * bit r.autoHo

/-- C1 and C2 of one run on one path as float64; none where nothing was counted or the measured value is zero under a quotient. -/
def coeffBytes (k : Cand) (x : CalSet) (m : RunSum) : Option (List Byte) × Option (List Byte) :=
  let kind := k.run.kind
  let f (v : Rat) : List Byte := leBytes 8 (toF64 v).toNat
  let c := runCoeffs k x m
  if m.counted = 0 then (none, if kind ≤ 2 then some (f 0) else none)
  else
    let quotient := ((kind = 1 || kind = 4 || kind = 5) && m.c1 = 0) || (kind = 3 && m.c1 = 0 && m.c2 = 0)
    (if quotient then none else some (f c.1), some (f c.2))

/-- One PATH entry of `cal.status`. -/
def pathBytes (k : Cand) (x : CalSet) (a b : RunSum) : List (State → List Byte × State) :=
  let ca := coeffBytes k x a
  let cb := coeffBytes k x b
  [fun s => (leBytes 2 a.counted ++ leBytes 2 b.counted ++ zeros 4, s),
   fun s => s.orFree 8 ca.1, fun s => s.orFree 8 cb.1, fun s => s.orFree 8 ca.2, fun s => s.orFree 8 cb.2]

/-- The deviations of `cal.status` as float32 in ppm; free where a reference has no ratio or no anchor (R280). -/
def deviationBytes (r : Refs) : List (State → List Byte × State) :=
  [(0, 1), (0, 2), (1, 2)].map fun (x, y) => fun (s : State) =>
    s.orFree 4 ((r.dev x y).map fun d => leBytes 4 (f32 (d * 1000000)).toNat)

/-- The result of `cal.status` (R389). -/
def calStatusBytes (t : CalTarget) (s : State) : List Byte × State :=
  let ch := s.channel t.channel
  let tail : List (State → List Byte × State) := deviationBytes s.refs ++ [fun (s : State) => (zeros 4, s)]
  match s.cand t.channel t.gear with
  | none =>
    fields ([fun (s : State) => (leBytes 1 0xFF, s), fun (s : State) => s.drawBytes 2, fun (s : State) => (leBytes 1 (refStateByte s.refs), s),
      fun (s : State) => s.drawBytes 12, fun (s : State) => (zeros 8, s), fun (s : State) => s.drawBytes 80] ++ tail) s
  | some k =>
    let n : Rat := (k.counted : Rat)
    let unit : Rat := (f32Val ch.scale).getD 0 / ((2 ^ 47 : Nat) : Rat)
    let known (v : List Byte) : Option (List Byte) := if k.counted = 0 then none else some v
    fields ([fun (s : State) => (leBytes 1 k.status.code ++ leBytes 1 k.run.kind ++ leBytes 1 (bit k.spokePath + 2 * bit k.jockeyPath)
        ++ leBytes 1 (refStateByte s.refs), s),
      fun (s : State) => s.orFree 4 (known (leBytesInt 4 (roundSigned 46 (k.thetaSum / n)))),
      fun (s : State) => s.orFree 8 (known (leBytes 8 (toF64 (k.rSum / n * unit)).toNat)),
      fun (s : State) => (zeros 8, s)]
      ++ pathBytes k (ch.set t.gear 0) k.a0 k.b0 ++ pathBytes k (ch.set t.gear 1) k.a1 k.b1 ++ tail) s

/-- The 224 bytes of a calibration set (R266). -/
def calSetBytes (r : CalRead) (s : State) : List Byte :=
  let x := (s.channel r.channel).set r.gear r.path
  let seg (i : Nat) : List Byte := match x.seg[i]? with
    | some p => leBytes 4 p.break_ ++ leBytesInt 4 p.gamma ++ leBytesInt 4 p.tau
    | none => zeros 12
  let temp (i : Nat) : List Byte := match x.temp[i]? with
    | some p => leBytesInt 4 p.theta ++ leBytesInt 4 p.gamma ++ leBytesInt 4 p.tau
    | none => zeros 12
  let body := leBytes 1 r.channel ++ leBytes 1 r.gear ++ leBytes 1 r.path ++ leBytes 1 x.seg.length ++ leBytes 1 x.temp.length
    ++ leBytes 1 x.lastKind ++ zeros 2 ++ leBytesInt 4 x.offset ++ leBytes 4 x.gain ++ leBytesInt 8 x.refResp
    ++ leBytes 4 x.calCount.toNat ++ leBytes 4 x.svcCount.toNat ++ leBytes 8 x.calTime ++ leBytes 8 x.svcTime
    ++ (List.range 8).flatMap seg ++ (List.range 5).flatMap temp
  body ++ leBytes 4 (crc32 body).toNat ++ zeros 16

/-- The result of `tariff.status` (R390). -/
def tariffStatusBytes (p : Nat) (s : State) : List Byte :=
  let t := s.tariff p
  leBytes 4 t.active.id.toNat ++ leBytes 4 t.passive.id.toNat ++ leBytes 1 (bit t.passiveValid) ++ leBytes 1 (bit t.pendingT.isSome)
    ++ zeros 2 ++ leBytes 8 (t.pendingT.getD 0)

/-- The 16 bytes of an event entry (R422). -/
def EventEntry.bytes (e : EventEntry) : List Byte := leBytes 8 e.stamp ++ leBytes 2 e.source ++ leBytes 2 e.code ++ leBytes 4 e.data.toNat

/-- `event.read` (R394, R424): the oldest entries leave the queue, and drops are counted anew. -/
def eventRead (p max : Nat) (s : State) : List Byte × State :=
  let q := s.polder p
  let got := q.queue.take max
  (leBytes 4 (q.queue.length - got.length) ++ leBytes 4 q.dropped ++ leBytes 1 got.length ++ zeros 7 ++ got.flatMap EventEntry.bytes,
    s.modPolder p fun q => { q with queue := q.queue.drop max, dropped := 0, overflow := false })

/-- The result of `time.status` (R396). -/
def timeStatusBytes (s : State) : List Byte :=
  let held := match s.time.holdoverFrom with
    | some t => if s.time.source = 3 then (s.now - t) / secondClocks else 0
    | none => 0
  leBytes 1 (bit s.trusted) ++ leBytes 1 s.time.causes.toNat ++ leBytes 1 s.time.source ++ zeros 1
    ++ leBytesInt 8 (roundSigned 47 s.time.lastOffset) ++ leBytes 4 held ++ zeros 4

/-- The general store's bytes of polder `p`: an erased granule reads 0xFF (R397). -/
def storeBytes (p addr len : Nat) (s : State) : List Byte :=
  (List.range len).map fun i =>
    let a := p * storeSize + addr + i
    (s.flash.store.get (List.replicate 16 0xFF) (a / 16)).getD (a % 16) 0xFF

/-- The result of `image.status` (R400). -/
def imageStatusBytes (s : State) : List Byte :=
  let left : Nat := match s.flash.trial with
    | some (t, _) => roundField 49 ((seconds 600 - (s.now - t) : Nat) / (secondClocks : Rat))
    | none => 0
  leBytes 4 s.flash.wetA.version.toNat ++ leBytes 4 s.flash.wetA.security.toNat ++ leBytes 4 s.flash.wetB.version.toNat
    ++ leBytes 4 s.flash.wetB.security.toNat ++ leBytes 4 s.flash.dryVer.toNat ++ leBytes 4 s.flash.drySec.toNat
    ++ leBytes 1 (bit (packageOk 1 s)) ++ leBytes 1 (bit s.pwr.wetActive) ++ leBytes 1 (bit s.flash.trial.isSome) ++ zeros 1 ++ leBytes 4 left

end Sys2Proof.Machine
end

