-- ==== Sys2Proof/Machine/Effects.lean ====
section
/-! DEFINITION. The mailbox commands as the sluices run them: which are staged, which the seal gates, what their results measure, and
the effect of each at its commit point (12, 13). -/
namespace Sys2Proof

/-! ## Commit points and lengths (13) -/

/-- The commit point is a cadence boundary (R384 to R400). -/
def Cmd.staged : Cmd → Bool
  | .powerSetDomains _ | .powerSetState _ | .wheelSetGear _ | .wheelSetJockey _ | .wheelServiceSpoke _ | .wheelReturnSpoke _ => true
  | .wheelUseRelief _ _ | .chainSwitchBank _ | .chainSetChannel _ | .chainSetTrip _ | .meterDefine _ | .meterUndefine _ => true
  | .meterMapCf _ | .pqSetChannel _ | .pqSetMeter _ | .calRun _ | .calCommit _ | .calAnchor | .calSetReference _ => true
  | .tariffSetMeter _ | .ledgerSetDemand _ | .ledgerSetTamper _ | .ledgerClosePeriod _ => true
  | .polderCreate _ | .polderAssign _ _ | .polderRelease _ | .polderClose | .polderDissolve _ => true
  | .timeSet _ | .timeTrust _ | .guardSetResponse _ | .tandemEnable _ | .tandemHandover | .imageActivate _ => true
  | _ => false

/-- Commands that name several targets (R367, R381). -/
def Cmd.multiUnit : Cmd → Bool
  | .wheelSetGear _ | .wheelSetJockey _ | .chainLoadBank _ | .chainSwitchBank _ | .calRun _ | .calCommit _ => true
  | .ledgerClosePeriod _ | .polderAssign _ _ | .guardSetResponse _ => true
  | _ => false

/-- Authority commands (R520). -/
def Cmd.authority : Cmd → Bool
  | .meterDefine _ | .meterUndefine _ | .meterMapCf _ => true
  | .tariffStageCalendar _ | .tariffActivateAt _ | .tariffSetMeter _ => true
  | .ledgerReadSigned _ | .ledgerSetDemand _ | .ledgerSetTamper _ | .ledgerClosePeriod _ => true
  | .polderCreate _ | .polderAssign _ _ | .polderRelease _ | .polderClose | .polderDissolve _ | .polderRekey _ => true
  | .timeSet _ | .timeTrust _ | .guardSetKey _ | .guardSetResponse _ => true
  | _ => false

/-- The parts of a payload whose length 13 fixes, or gives by a formula, have it (R352, R377). -/
def Cmd.sizeOk : Cmd → Bool
  | .devEcho d => d.length ≤ 32
  | .chainLoadBank p => p.set.length = 1768
  | .calRun p => p.targets.length = 16
  | .calCommit p => p.targets.length = 16
  | .pqSetCapture p => p.channels.length = 32 && p.sources.length = 8
  | .pqStreamOpen p => p.channels.length = 16
  | .meterDefine p => p.vSlot.length = 4 && p.iSlot.length = 4
  | .tariffStageCalendar b => b.length = 3936
  | .ledgerSetDemand p => p.entries.length = 4
  | .polderAssign n l => l.length = n
  | .polderRekey p => p.ephPub.length = 64 && p.wrapped.length = 72
  | .plcSetSpectrum p => p.notches.length = 16 && p.psd.length = 206
  | .plcSend p => p.data.length = p.dlen
  | .storeProgram p => p.data.length = p.len
  | .guardUnlock p => if p.step = 1 then p.sig.length = 64 else p.sig.isEmpty
  | .guardSetKey k => k.length = 64
  | .guardSetResponse p => p.entries.length = p.n
  | .imageStage p => p.data.length % 16 = 0 && 16 ≤ p.data.length && p.data.length ≤ 32704
  | _ => true

/-- The region, of those held twice, that holds what a command changes (R36, R485): ledgers, calendars, the definitions of polders, the RTC and
tamper configurations are in MRAM or AON, and captures, streams and runs in SRAM. -/
def Cmd.storedIn (c : Cmd) : Option Nat :=
  match c with
  | .calCommit _ | .calAnchor => some 0
  | .polderRekey _ | .polderCreate _ | .polderClose | .polderDissolve _ | .guardSetKey _ => some 1
  | .powerSetDomains _ | .powerSetState _ | .wheelSetGear _ | .wheelSetJockey _ | .wheelServiceSpoke _ | .wheelReturnSpoke _ => some 2
  | .chainLoadBank _ | .chainSwitchBank _ | .chainSetChannel _ | .chainSetTrip _ | .meterDefine _ | .meterUndefine _ | .meterMapCf _ => some 2
  | .pqSetChannel _ | .pqSetMeter _ | .calSetReference _ | .eventMask _ | .eventRoute _ | .plcSetLink _ | .plcSetNetwork _ => some 2
  | .plcSetSpectrum _ | .guardSetResponse _ | .tandemEnable _ => some 2
  | _ => none

end Sys2Proof

namespace Sys2Proof.Machine

/-- The largest result that a command may have (R352, R377); none where a count outside its range leaves it to the argument check. -/
def resultMax (c : Cmd) : Option Nat :=
  let counted (lo hi n size : Nat) : Option Nat := if within lo hi n then some size else none
  if c.staged then some (if c.multiUnit then 40 else 8)
  else match c with
    | .devInfo => some 36
    | .devIdentity => some devIdentityBytes.length
    | .devEcho d => some d.length
    | .powerStatus => some 16
    | .wheelStatus _ => some 232
    | .chainLoadBank _ => some 40
    | .chainStatus _ => some 32
    | .meterStatus _ => some 88
    | .pqSetCapture _ => some 68
    | .pqTrigger _ => some 12
    | .pqStatus _ => some 24
    | .pqStreamOpen _ | .pqStreamClose _ => some 8
    | .calStatus _ => some 120
    | .calRead _ => some 224
    | .tariffStatus => some 20
    | .ledgerReadSigned r => some (144 + ((Ledger.cleared 0).items r.select r.snapIndex).length)
    | .ledgerStatus _ => some 48
    | .polderRekey _ => some 8
    | .polderGetKey => some 152
    | .polderStatus _ => some 256
    | .polderReadAudit r => counted 1 64 r.count (16 + 32 * r.count)
    | .eventRead n => counted 1 64 n (16 + 16 * n)
    | .plcSend _ => some 4
    | .plcRecv => some 1516
    | .plcStatus => some 24
    | .timeStatus => some 20
    | .storeRead r => counted 1 4096 r.len r.len
    | .guardUnlock r => some (if r.step = 0 then 20 else 0)
    | .tandemStatus => some 32
    | .imageStatus => some 32
    | _ => some 0

/-- Bytes that a result of `n` bytes takes in a completion: itself, or its envelope (R380). -/
def Envelope.span (e : Envelope) (n : Nat) : Nat :=
  match e with
  | .clear => n
  | .sealed dry _ _ _ _ _ => n + (if dry then 52 else 36)

/-- The result of command `c` fits in the completion or at ROFF, and the region at ROFF lies in the bulk area (R352). -/
def resultFits (h : Held) (c : Cmd) : Bool :=
  match resultMax c with
  | none => true
  | some n => h.env.span n ≤ Nat.max 40 h.rmax

/-! ## The seal (R192, R285) -/

/-- A meter number names a sealed meter. -/
def State.sealedMeter (s : State) (m : Nat) : Bool := s.sealedMeters.contains m

/-- The command needs the seal to be open (R192, R285, R344). -/
def sealGated (c : Cmd) (s : State) : Bool :=
  let wheels (m : BitVec 16) : Bool := (bitsOf 16 m.toNat).any fun w => (wheelChannels w).any s.sealedChannel
  match c with
  | .calCommit p => (p.targets.take p.ntarget).any fun t => s.sealedChannel t.channel
  | .wheelServiceSpoke p => p.action == 1 && s.sealedChannel (8 * p.wheel + p.spoke)
  | .wheelSetGear p => (bitsOf 128 p.channels.toNat).any s.sealedChannel
  | .chainSetChannel p => p.what.toNat % 16 != 0 && s.sealedChannel p.channel
  | .chainLoadBank p => wheels p.wheels
  | .chainSwitchBank p => wheels p.wheels
  | .calSetReference _ => !s.sealedMeters.isEmpty
  | .calAnchor => !s.sealedMeters.isEmpty
  | .meterDefine p => s.sealedMeter p.meter || defSealed p
  | .meterUndefine p => s.sealedMeter p.meter
  | .meterMapCf p => (p.q != 0xFF && s.sealedMeter p.meter) || (s.cfOut p.cf).map.any fun x => s.sealedMeter x.meter
  | .imageStage p => p.kind == 1
  | .imageActivate k => k == 1
  | _ => false

/-! ## Captures and streams (R253 to R262, R388) -/

/-- `pq.set_capture` of polder `p`: a capture is defined, redefined or deleted, and its addresses are the result. -/
def putCapture (p : Nat) (x : PqSetCapture) (s : State) : List Byte × State :=
  let s' (k : Nat) (c : Option Capture) : State :=
    { s with pq := { s.pq with captures := match c with
      | some c => s.pq.captures.put k c
      | none => s.pq.captures.erase k } }
  if x.nseg = 0 then
    let s := s' x.capture none
    (captureBytes x.capture s, s)
  else
    let k := (s.captureNumber x.capture).getD 0
    let s := s' k (some {
      owner := p, cfg := { x with capture := k }, base := (s.capturePlace p k (captureSpan x)).getD 0, segSize := capSegSize x
      enabled := false, segs := [], missed := 0, frozen := 0, flagSeen := true })
    (captureBytes k s, s)

/-- `pq.arm`: a capture is enabled, or disabled with its ARMED segments FREE again (R255). -/
def armCapture (k arm : Nat) (s : State) : State :=
  s.modCapture k fun c =>
    if arm = 1 then { c with enabled := true }.rearm s.now
    else
      let c := (c.inState .armed).foldl (fun c i => c.modSeg i fun _ => Segment.free) c
      { c with enabled := false }

/-- The stamp of the first fine sample, of the channels of a capture, stamped at or after now (R254). -/
def State.nextFine (s : State) (channels : List Nat) : Nat :=
  let next (c : Nat) : Nat :=
    let k := ((s.wheel (wheelOf c)).server (spokeOf c)).getD (spokeOf c)
    fineStamp s.time.cad ((3 * s.time.off - 1024 * k + 9215) / 9216) k
  match channels with
  | [] => s.stamp
  | c :: rest => rest.foldl (fun t c => Nat.min t (next c)) (next c)

/-- `pq.trigger`: T, and whether a segment took the trigger (R254, R255). A capture that does not select the host's kind takes none, and counts none
as missed (DESIGN CHOICE, log 122). -/
def triggerCapture (k : Nat) (s : State) : List Byte × State :=
  let channels := ((s.pq.captures.find k).elim [] fun c => c.cfg.channels).filter (· < 128)
  let t := s.nextFine channels
  let (s, hit) := if (s.pq.captures.find k).any fun c => c.cfg.kinds.getLsbD 9 then trigger k t 9 0 s else (s, false)
  (leBytes 8 t ++ leBytes 1 (bit hit) ++ zeros 3, s)

/-- `pq.release`: the FROZEN segments named are FREE (R255). -/
def releaseSegments (r : PqRelease) (s : State) : State :=
  s.modCapture r.capture fun c =>
    let c := ((c.inState .frozen).filter fun i => r.segs.getLsbD i).foldl (fun c i => c.modSeg i fun _ => Segment.free) c
    c.rearm s.now

/-- `pq.stream_open` of polder `p`: the lowest free number, an empty ring and its descriptor (R260). -/
def openStream (p : Nat) (x : PqStreamOpen) (s : State) : List Byte × State :=
  let k := (firstFrom (fun k => (s.pq.streams.find k).isNone) 16 0).getD 0
  let base := (s.streamPlace p (streamSpan x)).getD 0
  let y : Stream := {
    owner := p, cfg := x, base, prod := 0, cons := 0, spilling := false, dropped := 0, spills := 0, staged := [], episode := none
    ended := false, next := firstRow x.format s.now }
  (leBytes 1 k ++ zeros 3 ++ leBytes 4 base, s.putStream k y (s.mem.clear base (streamSpan x)))

/-- `pq.stream_close`: the stream's number is free (R260). -/
def closeStream (k : Nat) (s : State) : List Byte × State :=
  (leBytes 8 ((s.pq.streams.find k).elim 0 (·.dropped)), { s with pq := { s.pq with streams := s.pq.streams.erase k } })

/-! ## Events (R421, R428) -/

/-- `event.mask`: the enables of the sources selected. -/
def maskEvents (r : EventMask) (s : State) : State :=
  let place (m : BitVec 32) : BitVec 1024 := (m.setWidth 1024) <<< (32 * r.group)
  let kept := s.evt.disabled &&& ~~~(place r.select)
  { s with evt := { s.evt with disabled := kept ||| place (r.select &&& ~~~r.enable) } }

/-- `event.route`. -/
def routeEvents (r : EventRoute) (s : State) : State := { s with evt := { s.evt with route := s.evt.route.put r.line r.polders } }

/-! ## The general store (R397, R483, R486) -/

/-- `store.program`: the granules take their bytes. -/
def programStore (p : Nat) (r : StoreProgram) (s : State) : State :=
  let g := (p * storeSize + r.addr) / 16
  { s with flash := { s.flash with
    store := overTo (r.len / 16) (fun t i => t.put (g + i) (slice r.data (16 * i) 16)) s.flash.store } }

/-- The counts with `n` sectors from number `k` on erased once more. -/
def wearUp (t : Tab Nat) (k n : Nat) : Tab Nat :=
  (t.filter fun e => e.1 < k) ++ ((List.range n).map fun i => (k + i, t.get 0 (k + i) + 1)) ++ t.filter fun e => k + n ≤ e.1

/-- `n` sectors from flash byte address `a` on are erased and counted; EV0649 tells of each erase beyond 100,000 (R483, R486). -/
def eraseFlash (a n : Nat) (s : State) : State :=
  let s := { s with flash := { s.flash with
    wear := wearUp s.flash.wear (a / 4096) n, bad := s.flash.bad.filter fun g => g < a || a + 4096 * n ≤ g } }
  overTo n (fun s i => if 100000 < s.flash.wear.get 0 (a / 4096 + i) then flashEvent 3 (a + 4096 * i) s else s) s

/-- `store.erase`. -/
def eraseStore (p : Nat) (r : StoreErase) (s : State) : State :=
  let n := 4 * p + r.addr / 4096
  eraseFlash (storeBase + 4096 * n) r.count
    { s with flash := { s.flash with store := s.flash.store.filter fun e => e.1 / 256 < n || n + r.count ≤ e.1 / 256 } }

/-! ## guard.unlock (R398, R507) -/

/-- Step 0 gives a new challenge, whose bytes are free; step 1 opens the floodgate. -/
def unlock (r : GuardUnlock) (s : State) : List Byte × State :=
  if r.step = 0 then
    let id := s.guard.challengeNo + 1
    let (v, s) := s.draw
    let c : Challenge := { id, bytes := BitVec.ofNat 128 v, issued := s.now }
    (leBytes 4 id.toNat ++ leBytes 16 c.bytes.toNat,
      { s with guard := { s.guard with challengeNo := id, challenge := some c } })
  else
    let id := BitVec.ofNat 32 r.challengeId
    ([], floodgateOpen id { s with guard := { s.guard with challenge := none } })

/-- An answer that names the current challenge uses it up although it is not valid (R398: one response). -/
def spendChallenge (c : Cmd) (s : State) : State :=
  match c with
  | .guardUnlock r =>
    if r.step = 1 && s.guard.challenge.any fun x => x.id == BitVec.ofNat 32 r.challengeId
    then { s with guard := { s.guard with challenge := none } } else s
  | _ => s

/-! ## Images (R340 to R344) -/

/-- The region that `image.stage` writes, replaced. -/
def putRegion (kind : Nat) (c : ImageCopy) (s : State) : State :=
  if kind = 1 then { s with flash := { s.flash with dryStaged := c } }
  else if s.idleWet then { s with flash := { s.flash with wetB := c } } else { s with flash := { s.flash with wetA := c } }

/-- `image.stage`: a block at offset 0 first erases the whole copy (R340). -/
def stageImage (r : ImageStage) (s : State) : State :=
  let base := stageBase r.kind s
  let size := (stageRegion r.kind s).2
  let s := if r.offset = 0 then eraseFlash base (size / 4096) (putRegion r.kind ⟨[]⟩ s) else s
  let c := (stageRegion r.kind s).1
  putRegion r.kind ⟨overTo (r.data.length / 16) (fun t i => t.put (r.offset / 16 + i) (slice r.data (16 * i) 16)) c.granules⟩ s

/-- The flash address of a granule once the dry image and its staging region have exchanged roles. -/
def swapDry (g : Nat) : Nat := if g < 0x100000 then g + 0x100000 else if g < 0x200000 then g - 0x100000 else g

/-- The dry activation of `image.activate` (R344): metering closes, the regions exchange roles, and the device restarts from step 3 of
R112; `wet`: a wet activation due at the same boundary is part of the restart (R345). `last`: the closing cadence's samples. -/
def activateDry (last : PubIn) (wet : Bool) (s : State) : State :=
  let s := closeMetering last s
  let was := s.flash
  let s := { s with flash := { was with
    dry := was.dryStaged, dryStaged := was.dry, dryVer := was.dryStaged.version, drySec := was.dryStaged.security
    dryHash := BitVec.ofNat 64 (ofLE (was.dryStaged.read 24 8)), bad := was.bad.map swapDry
    wear := (was.wear.filter fun e => 256 ≤ e.1 && e.1 < 512).map (fun e => (e.1 - 256, e.2))
      ++ (was.wear.filter fun e => e.1 < 256).map (fun e => (e.1 + 256, e.2)) ++ was.wear.filter fun e => 512 ≤ e.1 } }
  let idle := s.idleWet
  let s := tandemRestart (plcRestart (dryRestart (kickAll s)))
  let s := if wet then runWet idle s else trialBack s
  let s := { s with flash := { s.flash with trial := if wet then some (s.now, !idle) else none, restarting := none } }
  let s := (s.modPort 0 fun q => { q with perm := 0 }).modPort 1 fun q => { q with perm := 0 }
  let s := fuseCheck s
  { s with pwr := { s.pwr with
    startCount := s.pwr.startCount + 1, startAt := s.now, firstPub := false, portsReady := false, startBoundary := true, warm := false
    lastComplete := true, dryOk := true, outageOpen := true } }

/-! ## At completion -/

/-- The effect of a command of polder `p` whose commit point is completion, and its result. -/
def applyNow (p : Nat) (c : Cmd) (s : State) : List Byte × State :=
  match c with
  | .devInfo => (devInfoBytes s, s)
  | .devIdentity => (devIdentityBytes, s)
  | .devEcho d => (d, s)
  | .powerStatus => (powerStatusBytes p s, s)
  | .wheelStatus w => wheelStatusBytes w s
  | .chainLoadBank r => ([], match parseBank r.set with
      | some b => (bitsOf 16 r.wheels.toNat).foldl (loadBank b) s
      | none => s)
  | .chainClearTrip m => ([], (bitsOf 128 m.toNat).foldl clearLatch s)
  | .chainStatus n => (chainStatusBytes n s, s)
  | .meterStatus m => meterStatusBytes m s
  | .pqSetCapture r => let x := putCapture p r s; (x.1, ownersPass s x.2)
  | .pqArm k a => ([], armCapture k a s)
  | .pqTrigger k => triggerCapture k s
  | .pqRelease r => ([], releaseSegments r s)
  | .pqStatus k => (pqStatusBytes k s, s)
  | .pqStreamOpen r => let x := openStream p r s; (x.1, ownersPass s x.2)
  | .pqStreamClose k => let x := closeStream k s; (x.1, ownersPass s x.2)
  | .calDiscard t => ([], discardCand t s)
  | .calStatus t => calStatusBytes t s
  | .calRead r => (calSetBytes r s, s)
  | .tariffStageCalendar b => ([], stageCalendar p b s)
  | .tariffActivateAt t => ([], activateAt p t.toNat s)
  | .tariffStatus => (tariffStatusBytes p s, s)
  | .ledgerStatus m => ((s.ledger m).header m, s)
  | .polderRekey r => match rekeyKeys p r with
      | some k =>
        let s := polderRekey p r k s
        (leBytes 4 (s.polder p).keyGen.toNat ++ leBytes 4 (s.polder p).keyId.toNat, s)
      | none => ([], s)
  | .polderGetKey => getKeyBytes p s
  | .polderStatus n => (recordBytes n s, s)
  | .polderReadAudit r => (readAuditBytes p r s, s)
  | .eventRead n => eventRead p n s
  | .eventMask r => ([], maskEvents r s)
  | .eventRoute r => ([], routeEvents r s)
  | .plcSetLink r => ([], plcSetLink r s)
  | .plcSetNetwork r => ([], plcSetNetwork r s)
  | .plcSetSpectrum r => ([], plcSetSpectrum r s)
  | .plcRecv => plcRecv p s
  | .plcStatus => (plcStatusBytes s, s)
  | .timeSetAlarm r => ([], setAlarm r s)
  | .timeSetPeriodic r => ([], setPeriodic r s)
  | .timeStatus => (timeStatusBytes s, s)
  | .storeRead r => (storeBytes p r.addr r.len s, s)
  | .storeProgram r => ([], programStore p r s)
  | .storeErase r => ([], eraseStore p r s)
  | .guardUnlock r => unlock r s
  | .guardSetKey k => ([], { s with guard := { s.guard with key := some k } })
  | .tandemStatus => (tandemStatusBytes s, s)
  | .imageStage r => ([], stageImage r s)
  | .imageConfirm => ([], { s with flash := { s.flash with trial := none } })
  | .imageStatus => (imageStatusBytes s, s)
  | _ => ([], s)

/-- What a command has changed in a region that is held twice will be written there (R485). -/
def State.stored (s : State) (c : Cmd) : State := (c.storedIn.map s.touch).getD s

/-- A command is `polder.rekey`: its completion lets no port carry its polder (R408). -/
def isRekey (c : Cmd) : Bool :=
  match c with
  | .polderRekey _ => true
  | _ => false

/-- A command whose commit point is completion runs: its effect and its journal entry in one step (R360), then its completion. The
completion of `plc.send` waits for its outcome (R395), that of `ledger.read_signed` for the signer (R312), and the nonce of
`tariff.activate_at` is journaled when the time is recorded, which is now (R302). -/
def runNow (h : Held) (c : Cmd) (s : State) : State :=
  match c with
  | .plcSend r => plcSend h.order h.polder r s
  | .ledgerReadSigned r => { s with sign := { s.sign with queue := s.sign.queue ++ [{ held := h, req := r }] } }
  | c =>
    let x := applyNow h.polder c s
    ((x.2.stored c).journal h.polder h.nonce).finish h stOk x.1 (isRekey c)

/-! ## At a boundary -/

/-- The effect of a staged command of polder `p` at its boundary (R27, R364); `wet`: a wet activation that passes its checks is due at the
boundary of a dry one (R345). -/
def commitEffect (b : BoundaryIn) (wet : Bool) (p : Nat) (c : Cmd) (s : State) : State :=
  match c with
  | .powerSetDomains r => setDomains p r s
  | .powerSetState r => setPower r s
  | .wheelSetGear r => (bitsOf 128 r.channels.toNat).foldl (setGear r.policy) s
  | .wheelSetJockey r => (bitsOf 16 r.wheels.toNat).foldl (setJockey r) s
  | .wheelServiceSpoke r => decideTakeover r.wheel r.spoke r.action (s.b + 1) false s
  | .wheelReturnSpoke r => returnSpoke r.wheel r.spoke s
  | .wheelUseRelief w m => useRelief w m s
  | .chainSwitchBank r => (bitsOf 16 r.wheels.toNat).foldl (switchBank r.fade) s
  | .chainSetChannel r => setChannel r s
  | .chainSetTrip r => setTrip r s
  | .meterDefine d => ownersPass s (defineMeter d s)
  | .meterUndefine r => ownersPass s (undefineMeter r.meter s)
  | .meterMapCf r => mapCf r s
  | .pqSetChannel r => pqSetChannel r s
  | .pqSetMeter r => pqSetMeter r s
  | .calRun r => (r.targets.take r.ntarget).foldl (startRun r) s
  | .calCommit r => (r.targets.take r.ntarget).foldl commitCand s
  | .calAnchor => anchorNow s
  | .calSetReference r => setReference r s
  | .tariffSetMeter r => setTariff r s
  | .ledgerSetDemand r => setDemand r s
  | .ledgerSetTamper r => setTamper r s
  | .ledgerClosePeriod m => (bitsOf 256 m.toNat).foldl closePeriod s
  | .polderCreate r => ownersPass s (polderCreate r s)
  | .polderAssign _ l => ownersPass s (polderAssign l s)
  | .polderRelease r => ownersPass s (polderRelease p r s)
  | .polderClose => polderClose p s
  | .polderDissolve n => ownersPass s (polderDissolve n s)
  | .timeSet r => (timeSet r.mode r.offset s).getD s
  | .timeTrust a => timeTrust a s
  | .guardSetResponse r => r.entries.foldl setResponse s
  | .tandemEnable r => if r.enable = 1 then tandemOn r.partnerId s else tandemOff s
  | .tandemHandover => tandemHandover s
  | .imageActivate k => if k = 1 then activateDry b.last wet s else wetRestart p s.idleWet true s
  | _ => s

end Sys2Proof.Machine
end

