-- ==== Sys2Proof/Machine/Commands.lean ====
section
/-! DEFINITION. The course of a command entry: taking it, refusing it, the checks of acceptance, staging, and the commit of staged
commands at a boundary (11, 12). -/
namespace Sys2Proof.Machine

/-! ## Entries (R351, R352) -/

/-- A command entry as the device finds it at the doorbell. -/
structure Entry where
  sluice : Nat
  port : Nat
  nonce : BitVec 32
  tag : BitVec 32
  roff : Nat
  rmax : Nat
  sealed : Bool
  /-- The first of reasons 0x01 to 0x04 that holds (R335), judged with the keys in force at the doorbell (R331, R345). -/
  early : Option Nat
  /-- The side of the envelope is not that of the opcode (reason 0x06). -/
  wrongSide : Bool
  /-- The opcode is dry (R329). -/
  dry : Bool
  /-- The inner opcode; 0xFFFF where the envelope was not opened (R337). -/
  opcode : Nat
  /-- The command, where the opcode exists. -/
  cmd : Option Cmd
  /-- The payload contains its target fields (R335); lengths (R352); reserved fields and alignments (R11, R351). -/
  spanOk : Bool
  lengthOk : Bool
  fieldsOk : Bool
  env : Envelope
deriving DecidableEq, Repr

/-- P00 holds no keys (R322): SL00 takes nothing but its `polder.rekey`, unsealed. -/
def State.keyless (s : State) : Bool := !(s.polder 0).hasKeys

/-- An unsealed entry is refused for want of an envelope (0x01). -/
def needsEnvelope (q : Polder) (dry : Bool) (claims : Bool) : Bool := !claims && (q.options.getLsbD 0 || dry)

/-- The entry that a row's submission stands for. -/
def entryOf (x : Submit) (c : Cmd) (s : State) : Entry :=
  let p := s.sluiceHolder x.sluice
  let q := s.polder p
  let base : Entry := {
    sluice := x.sluice, port := x.port, nonce := x.nonce, tag := x.tag, roff := x.roff, rmax := x.rmax, sealed := false, early := none
    wrongSide := false, dry := c.dry, opcode := c.opcode, cmd := some c, spanOk := true, lengthOk := c.sizeOk
    fieldsOk := x.roff % 8 == 0, env := .clear }
  match x.sealing with
  | .clear =>
    let claims := s.keyless && x.sluice == 0 && isRekey c
    { base with early := if needsEnvelope q c.dry claims then some 1 else none }
  | .envelope dry key256 polder keyGen ccmOk authOk =>
    let early :=
      if !ccmOk || polder ≠ p || key256 != q.options.getLsbD 1 || !q.hasKeys then some 2
      else if dry && !authOk then some 3
      else if BitVec.ofNat 32 keyGen != q.keyGen then some 4 else none
    { base with
      sealed := true, early, wrongSide := dry != c.dry, opcode := if early == some 2 then 0xFFFF else c.opcode
      env := .sealed dry key256 p q.keyGen q.sessKey q.authKey }

/-- `n` bytes of sluice `sl`'s window from an offset. -/
def State.window (s : State) (sl off n : Nat) : List Byte := s.mem.readAll (windowBase sl + off) n

/-- The envelope of an entry, opened with the polder's keys (R332): the first of reasons 0x02 to 0x04, and the inner opcode and
payload. `sealedOp`: the entry names an opcode although it is sealed. -/
def openEnvelope (q : Polder) (p : Nat) (nonce : BitVec 32) (body : List Byte) (sealedOp : Bool) : Option Nat × Option (List Byte) × Bool × Bool :=
  let flags := field body 1 1
  let dry := flags % 2 == 1
  let key256 := flags / 2 % 2 == 1
  let ct := field body 12 2
  let head := slice body 0 16
  let form := field body 0 1 = 1 && flags < 4 && field body 2 1 = p && field body 3 1 = 0 && field body 14 2 = 0
    && BitVec.ofNat 32 (field body 8 4) == nonce && 4 ≤ ct && body.length = (if dry then 48 else 32) + ct
    && key256 == q.options.getLsbD 1 && q.hasKeys && !sealedOp
  let iv := [BitVec.ofNat 8 p, 0] ++ slice body 4 4 ++ slice body 8 4 ++ zeros 3
  let inner := if form then Config.ccmOpen q.sessKey key256 iv head (slice body 16 (ct + 16)) else none
  let auth := slice body (32 + ct) 16 == slice (Config.cmac q.authKey (slice body 0 (32 + ct))) 0 16
  let early := if inner.isNone then some 2 else if dry && !auth then some 3
    else if BitVec.ofNat 32 (field body 4 4) != q.keyGen then some 4 else none
  (early, inner, dry, key256)

/-- The entry in slot `k` of sluice `sl`'s command ring. -/
def readEntry (port sl k : Nat) (s : State) : Entry :=
  let p := s.sluiceHolder sl
  let q := s.polder p
  let e := s.window sl (64 * (k % 256)) 64
  let flags := field e 2 2
  let sealed := flags % 2 == 1
  let bulk := flags / 2 % 2 == 1
  let len := field e 12 2
  let poff := field e 14 2
  let roff := field e 16 2
  let rmax := field e 18 2
  let inside := if bulk then decide (poff + len ≤ 0x8000) else decide (len ≤ 40)
  let body := if bulk then s.window sl (0x8000 + poff) (if inside then len else 0x8000 - poff) else (e.drop 24).take len
  let nonce := BitVec.ofNat 32 (field e 4 4)
  let plain := flags < 4 && field e 20 4 = 0 && roff % 8 = 0 && (!bulk || poff % 8 = 0)
  let op := field e 0 2
  let base : Entry := {
    sluice := sl, port, nonce, tag := BitVec.ofNat 32 (field e 8 4), roff, rmax, sealed, early := none, wrongSide := false, dry := false
    opcode := op, cmd := none, spanOk := true, lengthOk := inside, fieldsOk := plain, env := .clear }
  let found (op : Nat) (raw : List Byte) (b : Entry) : Entry :=
    let c := parseCmd op raw
    { b with
      opcode := op, cmd := c, dry := dryOpcode op (field raw 0 1), spanOk := c.isNone || decide (targetSpan op ≤ raw.length)
      lengthOk := b.lengthOk && lengthOk op raw, fieldsOk := b.fieldsOk && reservedOk op raw }
  if !sealed then
    let x := found op body base
    let claims := s.keyless && sl == 0 && x.cmd.any isRekey
    { x with early := if needsEnvelope q x.dry claims then some 1 else none }
  else
    let (early, inner, dry, key256) := openEnvelope q p nonce body (op != 0)
    let env := Envelope.sealed dry key256 p q.keyGen q.sessKey q.authKey
    match inner with
    | none => { base with early := some 2, opcode := 0xFFFF, env }
    | some raw =>
      let x := found (field raw 0 2) (raw.drop 4) base
      { x with early, wrongSide := dry != x.dry, fieldsOk := x.fieldsOk && field raw 2 2 = 0, env }

/-! ## Refusal (R322, R335) -/

/-- A nonce is in polder `p`'s journal (R360, R488). -/
def State.journaled (s : State) (p : Nat) (nonce : BitVec 32) : Bool :=
  nonce != 0 && ((s.polder p).journalAll || (s.polder p).journal.contains nonce)

/-- The nonce of a sealed command is 0 or below the journal's floor once it holds 1,024 entries (R334). -/
def State.belowFloor (s : State) (p : Nat) (nonce : BitVec 32) : Bool :=
  let j := (s.polder p).journal.map (·.toNat)
  let floor := if (s.polder p).journalAll then j.foldl Nat.max 0 else j.foldl Nat.min (2 ^ 32)
  nonce == 0 || (1024 ≤ j.length && nonce.toNat < floor)

/-- The first refusal reason that holds for an entry of polder `p` (R335). -/
def refusalOf (p : Nat) (e : Entry) (s : State) : Option Nat :=
  let barred := s.keyless && !(e.sluice == 0 && !e.sealed && e.cmd.any isRekey)
  if e.early.isSome then e.early
  else if e.sealed && s.belowFloor p e.nonce then some 0x05
  else if e.wrongSide then some 0x06
  else match e.cmd with
    | some c =>
      if privilegeMissing p c s then some 0x07
      else if !e.spanOk then some 0x08
      else match commandRefusal p c true s with
        | some r => if r < 0x0A || !barred then some r else some 0x0A
        | none => if barred then some 0x0A else none
    | none =>
      if barred || (s.pwr.recovery && !e.dry) then some 0x0A
      else if !s.pwr.dryOk && e.dry then some 0x0B else none

/-! ## Acceptance (R358) -/

/-- The floodgate keeps a dry command back (R505). -/
def floodgated (c : Cmd) (s : State) : Bool :=
  s.guard.closed && c.dry && (match c with
    | .guardUnlock _ => false
    | .ledgerReadSigned _ => false
    | _ => true)

/-- The boundary at which a command staged now commits: the first at least 1 ms after its doorbell (R362). -/
def State.commitBoundary (s : State) : Nat := if s.time.off + 49152 ≤ cadenceClocks then s.b + 1 else s.b + 2

/-- The interim completion of a staged command: the cadence number of its commit boundary (R363). -/
def State.postStaged (s : State) (g : Staged) : State :=
  s.postCompletion (completionOf g.held stStaged false (leBytes 8 (s.time.cad + (g.due - s.b))))

/-- A command that has passed every check takes effect, or is staged; a captain mirrors an authority command first (R521). -/
def stageOrRun (h : Held) (batch : Nat) (c : Cmd) (s : State) : State :=
  let mirrored := c.authority && s.tdm.role == .captain
  if c.staged then
    let g : Staged := { held := h, cmd := c, due := s.commitBoundary, at_ := s.now, batch, unacked := mirrored }
    let s := { s with out := { s.out with staged := s.out.staged ++ [g] } }
    if mirrored then sendFrame h.order true s else s.postStaged g
  else match c with
    | .ledgerReadSigned _ => runNow h c s
    | _ => if mirrored then sendFrame h.order false (s.modTdm fun t => { t with waiting := t.waiting ++ [(h, c, batch)] }) else runNow h c s

/-- Checks 3 to 8 of R358, the first failure of which completes the command. -/
def accept (h : Held) (batch : Nat) (e : Entry) (s : State) : State :=
  let p := h.polder
  let fail (s : State) (status : Nat) (result : List Byte) : State := s.finish h status result false
  let others := s.out.held.filter fun x => x.polder == p && x.order != h.order
  if (e.cmd.any Cmd.authority) && !s.acceptsAuthority then fail s stBusyRetry []
  else if s.journaled p h.nonce then fail s stAlreadyDone []
  else if h.nonce != 0 && others.any fun x => x.nonce == h.nonce then fail s stBusyRetry []
  else match e.cmd with
    | none => fail s stBadOpcode []
    | some c =>
      if !e.lengthOk || 0x8000 < h.roff + h.rmax || !resultFits h c then fail s stBadLength []
      else if !e.fieldsOk then fail s stBadArgument []
      else match judge p c false [] others.isEmpty s with
        | .status n => fail (spendChallenge c s) n []
        | .group f n l => fail s stGroupAborted (abortResult f n l)
        | .ok =>
          if floodgated c s then fail s stFloodgate []
          else if sealGated c s && !s.seals.open_ then fail s stSealClosed []
          else stageOrRun h batch c s

/-- One entry of a batch is taken (R349, R357, R358): it gets a ticket, or completes ST_BUSY_RETRY without one; a refusal is posted
256 us after the doorbell (R336). -/
def takeEntry (batch : Nat) (e : Entry) (s : State) : State :=
  let p := s.sluiceHolder e.sluice
  let handle := s.allocate e.sluice
  let h : Held := {
    sluice := e.sluice, polder := p, port := e.port, handle := handle.getD 0xFFFF, cindex := (s.sluice e.sluice).taken.toNat
    nonce := e.nonce, tag := e.tag, roff := e.roff, rmax := e.rmax, env := e.env, order := s.out.count }
  let s := s.modSluice e.sluice fun x => { x with taken := x.taken + 1 }
  let s := { s with out := { s.out with count := s.out.count + 1 } }
  if handle.isNone then s.postCompletion (completionOf { h with env := .clear } stBusyRetry true [])
  else
    let s := { s with out := { s.out with held := s.out.held ++ [h] } }
    match refusalOf p e s with
    | some r =>
      let s := s.auditRefusal h r e.opcode
      { s with out := { s.out with refusals := s.out.refusals ++ [{ held := h, due := s.now + refusalClocks }] } }
    | none => accept h batch e s

/-- A polder holds sluice `n`. -/
def State.sluiceHeld (s : State) (n : Nat) : Bool := n < 32 && (List.range 16).any fun p => (s.polder p).sluices.getLsbD n

/-- A doorbell of sluice `n` on a port is observed (R105, R107, R121, R349). -/
def State.observes (s : State) (port n : Nat) : Bool := s.portsUp && port < 2 && !s.pwr.pfail && s.sluiceHeld n

/-- A mailbox row: one entry with command `c`, its doorbell observed at the row's instant. -/
def runMailbox (x : Submit) (c : Cmd) (s : State) : State :=
  let s := s.advance x.t
  if s.observes x.port x.sluice then takeEntry 0 (entryOf x c s) s else s

/-! ## Doorbells (R349) -/

/-- A write to HPT_DBn (R349): stale, overrun, nothing new, or a batch, whose entries are read at the doorbell. -/
def doorbell (port n : Nat) (v : BitVec 32) (s : State) : State :=
  if !s.observes port n then s
  else
    let x := s.sluice n
    if v.toNat / 2 ^ 16 ≠ x.epoch.toNat then
      (s.modSluice n fun x => { x with staleDb := true }).signal (544 + n) 2 v s.stamp
    else
      let count := (v.setWidth 16 - x.taken).toNat
      if 256 < count then (s.modSluice n fun x => { x with overrun := true }).signal (544 + n) 3 v s.stamp
      else
        let entries := (List.range count).map fun i => readEntry port n (x.taken.toNat + i) s
        entries.zipIdx.foldl (fun s (e, i) => takeEntry i e s) s

/-- DOORBELL (R349). -/
def execDoorbell (t port sluice : Nat) (value : BitVec 32) (s : State) : Host.Outcome State Fault Refusal :=
  .next (doorbell port sluice value (s.advance t))

/-! ## Refusals that fall due (R336) -/

/-- The completion of a refusal is posted, where its ticket is still held. -/
def postRefusal (s : State) (r : RefusalDue) : State :=
  if s.out.held.any fun h => h.order == r.held.order then s.finish r.held stRefused [] false else s

/-- The refusals due by now are posted, in the order they were taken. -/
def refusalPass (s : State) : State :=
  let due := s.out.refusals.filter fun r => decide (r.due ≤ s.now)
  let s := { s with out := { s.out with refusals := s.out.refusals.filter fun r => !decide (r.due ≤ s.now) } }
  due.foldl postRefusal s

/-- REFUSAL_COMPLETION (R336). -/
def execRefusalCompletion (t : Nat) (s : State) : Host.Outcome State Fault Refusal := .next (refusalPass (s.advance t))

/-! ## Commit at a boundary (R364 to R367) -/

/-- What the checks of R364 find of a staged command: none where it passes, else its status, result and refusal reason; `done`: wheels
whose bank this boundary has switched. -/
def recheck (g : Staged) (done : List Nat) (s : State) : Option (Nat × List Byte × Nat) :=
  let p := g.held.polder
  match commandRefusal p g.cmd false s with
  | some r => some (stRefused, [], r)
  | none =>
    if g.unacked then some (stBusyRetry, [], 0)
    else if s.journaled p g.held.nonce then some (stAlreadyDone, [], 0)
    else match judge p g.cmd true done true s with
      | .status n => some (n, [], 0)
      | .group f n l => some (stGroupAborted, abortResult f n l, 0)
      | .ok =>
        if floodgated g.cmd s then some (stFloodgate, [], 0)
        else if sealGated g.cmd s && !s.seals.open_ then some (stSealClosed, [], 0)
        else none

/-- A command that ends with the ticket still held completes; one whose ticket its own effect discarded does not. -/
def State.finishHeld (s : State) (h : Held) (status : Nat) (result : List Byte) : State :=
  if s.out.held.any fun x => x.order == h.order then s.finish h status result false else s

/-- The command is `image.activate`: its commit discards its own ticket (R341, R344). -/
def activates (kind : Nat) (c : Cmd) : Bool :=
  match c with
  | .imageActivate k => k == kind
  | _ => false

/-- The staged commands due at this boundary. -/
def State.dueNow (s : State) : List Staged := s.out.staged.filter fun g => decide (g.due ≤ s.b)

/-- The nonce of every wet activation due at this boundary enters its journal; it is committed with the dry one (R345). -/
def journalWet (l : List Staged) (s : State) : State :=
  (l.filter fun g => activates 0 g.cmd).foldl (fun s g => s.journal g.held.polder g.held.nonce) s

/-- One staged command commits, together with its journal entry (R364). -/
def commitOne (b : BoundaryIn) (done : List Nat) (g : Staged) (s : State) : State × Bool :=
  let others := s.dueNow
  let s := { s with out := { s.out with staged := s.out.staged.filter fun x => x.held.order != g.held.order } }
  let h := g.held
  match recheck g done s with
  | some (status, result, reason) =>
    let s := if status = stRefused then s.auditRefusal h reason g.cmd.opcode else s
    (s.finishHeld h status result, false)
  | none =>
    let wets := others.filter fun x => activates 0 x.cmd && (recheck x done s).isNone
    let dry := activates 1 g.cmd
    let s := (commitEffect b (dry && !wets.isEmpty) h.polder g.cmd (s.journal h.polder h.nonce)).stored g.cmd
    let s := if dry then journalWet wets s else s
    (if activates 0 g.cmd then s else s.finishHeld h stOk [], true)

/-- The commit order (R364): staging instant, sluice, position in the batch. -/
def Staged.before (a b : Staged) : Bool :=
  decide (a.at_ < b.at_) || (a.at_ == b.at_ && (decide (a.held.sluice < b.held.sluice)
    || (a.held.sluice == b.held.sluice && decide (a.batch ≤ b.batch))))

/-- A staged command in its place in a list in commit order. -/
def insertStaged (g : Staged) : List Staged → List Staged
  | [] => [g]
  | x :: l => if g.before x then g :: x :: l else x :: insertStaged g l

/-- Staged commands in commit order; a wet activation before a dry one comes just after it (R345). -/
def commitOrder (l : List Staged) : List Staged :=
  let sorted := l.foldr insertStaged []
  let ahead := sorted.takeWhile fun g => !activates 1 g.cmd
  match sorted.drop ahead.length with
  | [] => sorted
  | dry :: rest => (ahead.filter fun g => !activates 0 g.cmd) ++ dry :: (ahead.filter fun g => activates 0 g.cmd) ++ rest

/-- The wheels that a `chain.switch_bank` names; it commits at step 2 of R27. -/
def switches (c : Cmd) : List Nat :=
  match c with
  | .chainSwitchBank r => bitsOf 16 r.wheels.toNat
  | _ => []

/-- The commands of a list that are still staged commit in turn; the commit records of those that do are kept (R519). -/
def commitAll (b : BoundaryIn) (l : List Staged) (done : List Nat) (s : State) : State × List Nat × List Staged :=
  l.foldl (fun (s, done, recs) g =>
    if s.out.staged.any fun x => x.held.order == g.held.order then
      let (s, ok) := commitOne b done g s
      if ok then (s, done ++ switches g.cmd, recs ++ [g]) else (s, done, recs)
    else (s, done, recs)) (s, done, [])

/-- The staged commands of one kind that are due: bank switches at step 2 of R27, every other at step 3. -/
def State.dueIn (s : State) (bank : Bool) : List Staged :=
  commitOrder (s.dueNow.filter fun g => (switches g.cmd).isEmpty != bank)

end Sys2Proof.Machine
end

