-- ==== Sys2Proof/Machine/TandemApply.lean ====
section
/-! DEFINITION. What the devices of a pair do with each other's commands: frames that a stoker applies, acknowledgements that let a captain
go on, and the adoption of a complete checkpoint (18). -/
namespace Sys2Proof.Machine

/-- A mirrored command as a staged one, for the re-check of R364 (R522): it holds no ticket here. -/
def Mirror.staged (m : Mirror) : Staged where
  held := { sluice := m.sluice, polder := m.polder, port := 2, handle := 0xFFFF, cindex := 0, nonce := m.nonce, tag := 0, roff := 0
            rmax := 0, env := .clear, order := 0 }
  cmd := m.cmd
  due := m.due.getD 0
  at_ := m.at_
  batch := 0
  unacked := false

/-- A prepare frame applies at its boundary, with the re-check of R364 and its nonce (R522). -/
def applyPrepare (b : BoundaryIn) (m : Mirror) (s : State) : State × Bool :=
  match recheck m.staged [] s with
  | some _ => (s, false)
  | none => ((commitEffect b false m.polder m.cmd (s.journal m.polder m.nonce)).stored m.cmd, true)

/-- A journal entry applies: a rekey with the keys that came with it, a reading by its READ_SEQ, any other command by its effect
(R521, R522). One whose nonce is journaled has been applied. -/
def applyJournal (m : Mirror) (s : State) : State :=
  if s.journaled m.polder m.nonce then s
  else
    let s := match m.cmd, m.keys with
      | .polderRekey r, some k => polderRekey m.polder r k s
      | .ledgerReadSigned r, _ => s.modLedger r.meter fun l => { l with readSeq := m.readSeq.getD l.readSeq, stickyRead := 0 }
      | c, _ => (applyNow m.polder c s).2
    s.journal m.polder m.nonce

/-- The prepare frames due at this boundary apply in the order received, which is the captain's commit order; they are kept for
re-application (R522, R525). The commands that applied are the result. -/
def mirrorPass (b : BoundaryIn) (s : State) : State × List Mirror :=
  let due := s.tdm.mirrors.filter fun m => m.due.any fun d => decide (d ≤ s.b)
  let s' := s.modTdm fun t => { t with mirrors := t.mirrors.map fun m =>
    match m.due with
    | some d => if d ≤ s.b then { m with due := none, at_ := s.b } else m
    | none => m }
  due.foldl (fun (s, l) m =>
    let (s, ok) := applyPrepare b m s
    (s, if ok then l ++ [m] else l)) (s', [])

/-- COMMITS and DIGEST of a boundary (R519): the authority commands that committed, those mirrored included. -/
def commitRecord (mine : List Staged) (mirrored : List Mirror) (s : State) : State :=
  if !s.tdm.enabled then s
  else
    let recs := (mirrored.map fun m => (m.cmd, m.polder, m.nonce))
      ++ (mine.filter fun g => g.cmd.authority).map fun g => (g.cmd, g.held.polder, g.held.nonce)
    s.modTdm fun t => { t with commits := recs.length, digest := Config.commitDigest recs }

/-- A prepare or journal frame of the partner is received and acknowledged, once (R518, R522). -/
def frameHeard (m : MirrorIn) (due : Option Nat) (s : State) : State :=
  if !s.tdmUp || s.tdm.role == .captain || m.seq ≤ s.tdm.rxSeq then s
  else
    let x : Mirror := {
      cmd := m.cmd, polder := m.polder, sluice := m.sluice, nonce := m.nonce, keys := m.keys, readSeq := m.readSeq, due, at_ := due.getD s.b }
    s.modTdm fun t => { t.see m.term with rxSeq := m.seq, mirrors := t.mirrors ++ [x] }

/-- PREPARE_FRAME (R522): kept until the boundary that opens the cadence it names. -/
def execPrepareFrame (t : Nat) (m : MirrorIn) (s : State) : Host.Outcome State Fault Refusal :=
  let s := s.advance t
  .next (frameHeard m (some (s.b + (m.due - s.time.cad))) s)

/-- A journal entry is applied on receipt (R522). -/
def journalHeard (m : MirrorIn) (s : State) : State :=
  let t := frameHeard m none s
  if t.tdm.rxSeq = s.tdm.rxSeq then s
  else match t.tdm.mirrors.getLast? with
    | some x => applyJournal x t
    | none => t

/-- JOURNAL_FRAME (R522). -/
def execJournalFrame (t : Nat) (m : MirrorIn) (s : State) : Host.Outcome State Fault Refusal := .next (journalHeard m (s.advance t))

/-- A frame of the captain is acknowledged (R521): ST_STAGED is posted for a prepare; the command of a journal entry takes effect. -/
def frameAcked (s : State) (f : TdmFrame) : State :=
  if f.prepare then
    match s.out.staged.find? fun g => g.held.order == f.order with
    | some g =>
      let s := { s with out := { s.out with staged := s.out.staged.map fun (g : Staged) => if g.held.order == f.order then { g with unacked := false } else g } }
      s.postStaged g
    | none => s
  else
    match s.tdm.waiting.find? fun w => w.1.order == f.order with
    | some (h, c, _) => runNow h c (s.modTdm fun t => { t with waiting := t.waiting.filter fun w => w.1.order != f.order })
    | none => s

/-- Frames up to the acknowledged number leave the list, in order (R518, R521). -/
def acknowledged (ack : BitVec 32) (s : State) : State :=
  let got := s.tdm.unacked.filter fun f => f.seq ≤ ack
  got.foldl frameAcked (s.modTdm fun t => { t with unacked := t.unacked.filter fun f => !(f.seq ≤ ack) })

/-- JOURNAL_ACKNOWLEDGEMENT (R521). -/
def execJournalAcknowledgement (t : Nat) (ack : BitVec 32) (s : State) : Host.Outcome State Fault Refusal :=
  let s := s.advance t
  .next (if s.tdmUp then acknowledged ack s else s)

/-! ## A complete checkpoint (R525) -/

/-- A polder of a checkpoint, with this device's own signing key where both hold one (R522, R330). -/
def adoptPolder (own p : Polder) : Polder := { p with signKey := own.signKey, queue := own.queue, rxq := own.rxq }

/-- Nothing measured for a boundary. -/
def BoundaryIn.none : BoundaryIn where
  work := []
  visit := 0
  cap := []
  temps := []
  katFailed := []
  mainOk := false
  retireCore := Option.none
  devWake := false
  witness := false
  last := ⟨[]⟩

/-- The state that the checkpoint and what came after it leave: what is mirrored is read off it (R525). -/
def restored (a : Authority) (s : State) : State :=
  let s' := { s with
    mtr := a.meters, led := a.ledgers, tar := a.tariffs
    pol := a.polders.map fun (n, p) => (n, adoptPolder (s.polder n) p)
    guard := { s.guard with resp := a.guardResp, key := a.guardKey }
    time := { s.time with causes := (s.time.causes &&& 3) ||| (if a.mark then 4 else 0) } }
  (s.tdm.mirrors.filter fun m => m.due.isNone && decide (s.tdm.refsAt ≤ m.at_)).foldl
    (fun s m => if m.cmd.staged then (applyPrepare BoundaryIn.none m s).1 else applyJournal m s) s'

/-- A meter as the restored state defines it: this device's own where its definition is the same, else PENDING here (R523, R526). -/
def adoptMeter (own x : Meter) : Meter :=
  if x.state == .undefined then (if own.state == .undefined then own else { x with defGen := own.defGen, former := some own.def_.owner })
  else if own.state != .undefined && own.defGen = x.defGen && own.def_ = x.def_ then own
  else { x with state := .pending, fresh := true }

/-- The ledger of meter `m` at a device that adopts a checkpoint, and its reference values (R525, R527): a stoker keeps its shadow; a
device without one starts from the checkpoint's, corrected by what it has measured since. -/
def adoptLedger (a : Authority) (r was : State) (m : Nat) : Ledger × RefVal :=
  let own := was.ledger m
  let x := r.ledger m
  match was.tdm.refsNext.find m with
  | some ref =>
    if was.tdm.role == .stoker && own.exists_ && own.defGen = x.defGen then (own, ref)
    else match a.ledgers.find m with
      | some c =>
        let y := { own with
          exists_ := x.exists_, owner := x.owner, sealed := x.sealed, defGen := x.defGen, rateQ0 := x.rateQ0, rateQ1 := x.rateQ1
          mode := x.mode, fixedRate := x.fixedRate, readSeq := x.readSeq, period := x.period, periodOpen := x.periodOpen
          cfg := x.cfg, demand := x.demand, activeRate := x.activeRate }
        (reconcile c ref y, refOf c)
      | none => (x, refOf x)
  | none => (x, refOf x)

/-- Epoch e is complete (R525), in one step, and EV0644 CODE 7 tells of it (R537). -/
def checkpointDone (k : CkptIn) (s : State) : State :=
  if !s.tdmUp || s.tdm.role == .captain || s.tdm.role == .single || !k.hashOk then s
  else
    let a := k.content
    let r := restored a s
    let numbers := ((s.mtr.map (·.1)) ++ (r.mtr.map (·.1))).eraseDups
    let ledgers := ((r.led.map (·.1)) ++ (s.led.map (·.1))).eraseDups
    let book : List (Nat × Ledger × RefVal) := ledgers.map fun m => (m, adoptLedger a r s m)
    let t : State := { s with
      pol := r.pol, tar := r.tar, guard := { s.guard with resp := r.guard.resp, key := r.guard.key }
      time := { s.time with causes := (s.time.causes &&& 3) ||| (r.time.causes &&& 4) }
      mtr := numbers.foldl (fun (t : Tab Meter) m => t.put m (adoptMeter (s.meter m) (r.meter m))) []
      led := book.foldl (fun (t : Tab Ledger) e => t.put e.1 e.2.1) []
      book := { s.book with count := s.book.count - s.tdm.countAt + a.count }
      log := { s.log with
        entries := keepLast 8192 (s.log.entries ++ a.log), seq := s.log.seq + BitVec.ofNat 32 a.log.length } }
    let t := t.modTdm fun x => { x.see a.term with
      ckpt := some { epoch := k.epoch, content := a, refs := book.foldl (fun (t : Tab RefVal) e => t.put e.1 e.2.2) [], at_ := x.refsAt }
      incoming := none, countAt := a.count
      mirrors := x.mirrors.filter fun m => m.due.isSome || decide (x.refsAt ≤ m.at_)
      stokerDue := x.stokerDue || x.role == .neither }
    (ownersPass s (holdersPass s t)).tdmEvent 7 k.epoch

/-- CHECKPOINT_COMPLETE (R525, R537): one whose hash fails is never used. -/
def execCheckpointComplete (t : Nat) (c : CkptIn) (s : State) : Host.Outcome State Fault Refusal :=
  .next (checkpointDone c (s.advance t))

end Sys2Proof.Machine
end

