-- ==== Sys2Proof/Machine/Registers.lean ====
section
/-! DEFINITION. The host map: the word that each register reads as, and what host writes to registers, sluice windows and the aperture do
(12, 14). -/
namespace Sys2Proof.Machine

/-! ## Register reads (R48, R124, R407, R411 to R419, R425) -/

/-- Codes of R99. -/
def DomState.code : DomState → Nat
  | .off => 0
  | .rising => 1
  | .on => 2
  | .draining => 3
  | .drainThenOn => 4

/-- Codes of R124. -/
def DevState.code : DevState → Nat
  | .run => 0
  | .trim => 1
  | .hush => 2
  | .nap => 3

/-- The state staged by the last `power.set_state` that still waits for its boundary (R124). -/
def State.stagedState (s : State) : Option Nat :=
  s.out.staged.foldl (fun r g => match g.cmd with
    | .powerSetState p => some p.state
    | _ => r) none

/-- Word `i` of bytes spread over consecutive words (R411). -/
def wordOf (b : List Byte) (i : Nat) : Nat := field b (4 * i) 4

/-- A wet image runs: it has been copied to SRAM at a start (R112), no restart is in progress (R341), and a copy is good (R113). -/
def State.wetUp (s : State) : Bool := s.domOn 11 && !s.pwr.recovery && s.flash.restarting.isNone

/-- The dry image runs: it has been verified on the supervisor cores (R112). -/
def State.dryUp (s : State) : Bool := s.domOn 1 && s.pwr.dryOk

/-- The SYS block (R48, R411). The versions are those of the images that run, and 0 while none does (DEDUCED, log 127). -/
def sysWord (o : Nat) (s : State) : Nat :=
  let f := s.fab
  if o = 0x000 then 0x00010144
  else if o = 0x004 then (if s.pwr.portsReady then 3 else 0)
  else if o = 0x008 then (if s.wetUp then s.flash.wetVer.toNat else 0)
  else if o = 0x00C then (if s.dryUp then s.flash.dryVer.toNat else 0)
  else if 0x010 ≤ o && o < 0x020 then wordOf (leBytes 16 Config.deviceId.toNat) ((o - 0x010) / 4)
  else if o = 0x020 then
    bit s.guard.closed + 2 * bit (s.refs.state == .unassured) + 4 * bit (!s.trusted) + 8 * bit s.log.compromised
      + 16 * (match s.tdm.role with
        | .single => 0
        | .captain => 1
        | .stoker => 2
        | .neither => 3)
  else if 0x040 ≤ o && o < 0x080 then wordOf Config.kaPub ((o - 0x040) / 4)
  else if o = 0x100 then
    f.last % 2048 + 2 ^ 16 * f.resource + 2 ^ 20 * f.shed + 2 ^ 24 * f.vreq + 2 ^ 27 * bit (f.settleLeft != 0) + 2 ^ 28 * bit f.atMax
  else if o = 0x104 then f.avg % 2048 + 2 ^ 16 * f.peak
  else if o = 0x108 then f.cap % 4096
  else if o = 0x10C then f.ovrCnt.toNat
  else if o = 0x110 then f.ovrLate.toNat
  else if o = 0x114 then bit f.fixed + 16 * f.fixedCode + 256 * f.settle
  else 0

/-- The PWR block (R124); domain states, claims and epochs read as zero on a port that does not carry P00. -/
def pwrWord (n o : Nat) (s : State) : Nat :=
  let p := s.pwr
  if o = 0x00 then
    p.state.code + 4 * (s.stagedState.getD 0) + 16 * bit s.stagedState.isSome + 32 * bit p.hushDefer + 256 * bit p.aonVbat
      + 512 * bit p.mainWarn + 1024 * bit p.pfail
  else if o = 0x04 then
    bit p.dryOk + 2 * bit p.wetAOk + 4 * bit p.wetBOk + 8 * bit p.wetActive + 16 * bit p.recovery + 32 * bit p.coldAon + 64 * bit p.firstPub
      + 128 * bit p.portsReady + 256 * bit p.warm + 2 ^ 16 * p.startCount.toNat
  else if o = 0x08 then p.firstPubMs + 2 ^ 16 * p.portsMs
  else if o = 0x0C then
    p.wakeCause.toNat + 128 * bit p.collided + 256 * bit p.hold + 512 * bit p.vbatLatched + 2 ^ 16 * p.episode.toNat
  else if o = 0x10 then p.wakeCfg.toNat
  else if o = 0x14 then p.pfailCount.toNat + 2 ^ 16 * bit p.lastComplete
  else if !s.carries n 0 then 0
  else if 0x20 ≤ o && o < 0x34 then
    let m := (o - 0x20) / 4
    (((List.range 8).filter fun k => 8 * m + k < 33).map fun k =>
      16 ^ k * ((s.dom (8 * m + k)).state.code + 8 * bit (s.claimed (8 * m + k)))).sum
  else if 0x100 ≤ o && o < 0x184 then (s.dom ((o - 0x100) / 4)).epoch.toNat
  else 0

/-- The EVT block (R425 to R427); a read of EVT_STATg has its own effects. -/
def evtWord (n o : Nat) (s : State) : Nat :=
  let e := s.evt
  if o = 0x00 then bit e.enable + 256 * bit e.whileOn
  else if o = 0x04 then e.mode.toNat
  else if o = 0x08 then maskOf ((List.range 4).filter s.irqLine)
  else if 0x10 ≤ o && o < 0x20 then (Tab.get e.route 0 ((o - 0x10) / 4)).toNat
  else if 0x100 ≤ o && o < 0x200 then
    let g := (o - 0x100) / 8
    if o % 8 = 0 then (s.visible n g).toNat else (((s.port n).lastRead.find g).elim 0 fun r => r.seq.toNat)
  else if 0x200 ≤ o && o < 0x280 then
    maskOf ((List.range 32).filter fun i => sourceExists (8 * (o - 0x200) + i) && !e.disabled.getLsbD (8 * (o - 0x200) + i))
  else 0

/-- The copy of the tamper block (R415); `age`: of the copy (R413). -/
def tmpWord (o age : Nat) (s : State) : Nat :=
  let t := s.tmp
  if o = 0x0 then t.level.toNat + 256 * bit (!s.seals.open_)
  else if o = 0x4 then t.latch.toNat + 256 * t.glitch.toNat + 4096 * t.slow.toNat
  else if o = 0x8 then
    bit s.guard.closed + 2 * bit (!t.vbat.isEmpty || !s.seals.latched.isEmpty || s.pwr.vbatNew) + 2 ^ 16 * Nat.min age 511
  else 0

/-- The PAR block (R416). -/
def parWord (o : Nat) (s : State) : Nat :=
  let p := s.par
  if o = 0x00 then bit p.enable + 2 * p.bank.toNat
  else if o = 0x04 then p.word.toNat
  else if o = 0x08 then p.data.toNat
  else if o = 0x0C then p.chk.toNat
  else if o = 0x14 then
    bit p.op.isSome + 2 * bit p.err + 4 * p.errBytes.toNat + 64 * bit p.overlap + 256 * bit p.whileOn + 2 ^ 16 * p.scrubErr
  else if 0x20 ≤ o && o < 0x30 then
    let b := (o - 0x20) / 4
    p.liveErrors.get 0 b + 2 ^ 16 * p.spares.get 0 b
  else 0

/-- The HPT block (R348, R407). -/
def hptWord (o : Nat) (s : State) : Nat :=
  if o < 0x20 then
    let p := s.port (o / 16)
    if o % 16 = 0 then bit p.qpi + 256 * p.dummy.toNat
    else if o % 16 = 4 then bit p.badInstr + 2 * bit p.unaligned + 4 * bit p.cross + 8 * bit p.partialWord + 16 * bit p.blocked
    else if o % 16 = 8 then p.perm.toNat
    else p.blockCount.toNat
  else if 0x400 ≤ o && o < 0x600 then
    let x := s.sluice ((o - 0x400) / 16)
    if o % 16 = 4 then x.cons.toNat
    else if o % 16 = 8 then
      x.epoch.toNat + 2 ^ 16 * (s.heldBy ((o - 0x400) / 16)).length + 2 ^ 25 * bit x.staleDb + 2 ^ 26 * bit x.overrun
        + 2 ^ 27 * bit (!x.waiting.isEmpty)
    else if o % 16 = 12 then x.taken.toNat + 2 ^ 16 * x.posted.toNat
    else 0
  else 0

/-- The unicast block of wheel `w` (R417). -/
def whlWord (w o : Nat) (s : State) : Nat :=
  let x := s.wheel w
  if o = 0x000 then ((List.range 8).map fun k => 16 ^ k * (x.slice k).state.code).sum
  else if o = 0x004 then
    x.jockey.state.code + 16 * (x.jockeyAt.getD 0xF) + 2 ^ 8 * x.engine + 2 ^ 10 * bit x.jockey.suspect
      + 2 ^ 12 * maskOf ((List.range 8).filter fun k => (x.slice k).suspect) + 2 ^ 20 * x.policy
  else if o = 0x008 then (x.temp % 65536).toNat + 2 ^ 16 * bit x.tstale
  else if o = 0x040 then x.test.cfg.toNat
  else if o = 0x044 then bit x.test.enable + 2 * bit x.test.done + 4 * bit x.test.aborted + 256 * bit x.test.whileOn
  else if o = 0x048 then x.test.pass.toNat + 512 * bit x.test.refcapOk + 2 ^ 16 * x.test.openFound.toNat
  else 0

/-- The word that a read of a host address returns on port `n`, before what the read itself changes (R402, R409, R410); `age`: of the
always-on copy, in 2^-24 s. -/
def State.readWord (s : State) (n a age : Nat) : Nat :=
  if a < 0x1000 then sysWord a s
  else if a < 0x2000 then pwrWord n (a - 0x1000) s
  else if a < 0x3000 then evtWord n (a - 0x2000) s
  else if a < 0x4000 then
    let p := s.port n
    let live := s.rtcCopy age p.frozen
    let i := (a - 0x3000) / 4
    ((if p.frozen && i != 0 then p.shadow.getD i 0 else live.getD i 0)).toNat
  else if a < 0x5000 then tmpWord (a - 0x4000) age s
  else if a < 0x6000 then parWord (a - 0x5000) s
  else if a < 0x8000 then hptWord (a - 0x6000) s
  else if a < 0xC000 then whlWord ((a - 0x8000) / 0x400) ((a - 0x8000) % 0x400) s
  else if a = 0xC400 then s.bc.mask.toNat
  else if a = 0xC404 then bit s.bc.bcastRead
  else if 0x100000 ≤ a && a < 0x300000 then ofLE (s.mem.readAll (a + 0x00F00000) 4)
  else if inAperture a then (if s.permitted n a false then ofLE (s.mem.readAll a 4) else 0)
  else 0

/-! ## Register writes (R12, R348, R407, R412, R416 to R419) -/

/-- A write to SYS_VREQ_CFG (R48). -/
def vreqCfgWrite (v : BitVec 32) (s : State) : State :=
  { s with fab := { s.fab with fixed := v.getLsbD 0, fixedCode := v.toNat / 16 % 8, settle := v.toNat / 256 % 16 } }

/-- A write to HPT_CACKn (R355, R376): a CONS that exceeds POSTED is ignored. -/
def cackWrite (n : Nat) (v : BitVec 32) (s : State) : State :=
  let x := s.sluice n
  let cons := v.setWidth 16
  if n < 32 && (cons - x.cons).toNat ≤ (x.posted - x.cons).toNat then s.modSluice n fun x => { x with cons } else s

/-- A host write of one word to a foundation register on port `p`; a doorbell waits for the end of the transaction (R405). -/
def registerWord (p a : Nat) (v : BitVec 32) (s : State) : State :=
  if a = 0x0114 then vreqCfgWrite v s
  else if a = 0x2000 then evtCtrlWrite v s
  else if a = 0x2004 then evtModeWrite v s
  else if 0x2100 ≤ a && a < 0x2200 && a % 8 = 4 then evtSeqWrite p ((a - 0x2100) / 8) v s
  else if a = 0x5000 then parCtrlWrite v s
  else if a = 0x5004 then { s with par := { s.par with word := v.setWidth 8 } }
  else if a = 0x5008 then { s with par := { s.par with data := v } }
  else if a = 0x500C then { s with par := { s.par with chk := v.setWidth 4 } }
  else if a = 0x5010 then parOpWrite v s
  else if a = 0x6000 || a = 0x6010 then
    s.modPort ((a - 0x6000) / 16) fun q => { q with qpi := v.getLsbD 0, dummy := BitVec.extractLsb' 8 6 v }
  else if 0x6400 ≤ a && a < 0x6600 && a % 16 = 4 then cackWrite ((a - 0x6400) / 16) v s
  else if 0x8000 ≤ a && a < 0xC000 then
    let w := (a - 0x8000) / 0x400
    if a % 0x400 = 0x40 then testCfgWrite w v s else if a % 0x400 = 0x44 then testCtrlWrite w v s else s
  else if 0xC000 ≤ a && a < 0xC400 then broadcastWrite (a - 0xC000) v s
  else if a = 0xC400 then { s with bc := { s.bc with mask := v.setWidth 16 } }
  else s

/-- The end of the region in which a transaction at an address must stay (R405, R410). -/
def regionEnd (a : Nat) : Nat :=
  if a < 0x6000 then (a / 0x1000 + 1) * 0x1000
  else if a < 0x8000 then 0x8000
  else if a < 0xC000 then (a / 0x400 + 1) * 0x400
  else if a < 0x100000 then 0x100000
  else if a < 0x300000 then (a / 0x10000 + 1) * 0x10000
  else if a < 0x01000000 then 0x01000000
  else 0x02000000

/-- A word in a sluice window (R346): the completion ring takes no write. -/
def windowWord (n o : Nat) (v : BitVec 32) (s : State) : State :=
  if 0x4000 ≤ o && o < 0x8000 then s else { s with mem := s.mem.writeAll (windowBase n + o) (leBytes 4 v.toNat) }

/-- A host write of CONS on a port (R261, R409); a port that does not carry the stream's owner is blocked. -/
def consWord (p k : Nat) (v : BitVec 32) (s : State) : State :=
  match s.pq.streams.find k with
  | some x => if x.ended then s else if s.carries p x.owner then consWrite k v s else blockAccess p (x.base + 4) true s
  | none => s

/-- A host write of one word at any address. -/
def hostWord (p a : Nat) (v : BitVec 32) (s : State) : State :=
  if a < 0x10000 then registerWord p a v s
  else if 0x100000 ≤ a && a < 0x300000 then firstAccess (windowWord ((a - 0x100000) / 0x10000) (a % 0x10000) v s)
  else if inAperture a then
    match s.consWord a with
    | some k => consWord p k v s
    | none => blockAccess p a true s
  else s

/-- Whole words of a transfer. -/
def wordsOf (data : List Byte) : List (BitVec 32) := (List.range (data.length / 4)).map fun i => BitVec.ofNat 32 (field data (4 * i) 4)

/-- A write transaction on port `p` (R404, R405): word by word to the end of its region, doorbells at the end. -/
def hostWrite (p a : Nat) (data : List Byte) (s : State) : State :=
  if a % 4 ≠ 0 then s.portError p fun q => { q with unaligned := true }
  else
    let words := (wordsOf data).zipIdx.map fun (v, i) => (a + 4 * i, v)
    let inside := words.filter fun w => w.1 < regionEnd a
    let s := inside.foldl (fun s w => hostWord p w.1 w.2 s) s
    let s := if inside.length < words.length then s.portError p fun q => { q with cross := true } else s
    let s := if data.length % 4 ≠ 0 then s.portError p fun q => { q with partialWord := true } else s
    (inside.filter fun w => 0x6400 ≤ w.1 && w.1 < 0x6600 && w.1 % 16 == 0).foldl
      (fun s w => doorbell p ((w.1 - 0x6400) / 16) w.2 s) s

/-- REGISTER_WRITE (R12). -/
def execRegisterWrite (t port address : Nat) (data : List Byte) (s : State) : Host.Outcome State Fault Refusal :=
  .next (s.onPort t port (hostWrite port address data))

/-- SLUICE_WINDOW_WRITE (R346, R350). -/
def execSluiceWindowWrite (t port sluice offset : Nat) (data : List Byte) (s : State) : Host.Outcome State Fault Refusal :=
  .next (s.onPort t port fun s =>
    if sluice < 32 && offset < 0x10000 then hostWrite port (0x100000 + 0x10000 * sluice + offset) data s else s)

/-- COMPLETION_ACKNOWLEDGE (R355). -/
def execCompletionAcknowledge (t port sluice : Nat) (value : BitVec 32) (s : State) : Host.Outcome State Fault Refusal :=
  .next (s.onPort t port (cackWrite sluice value))

/-- DEFERRED_COMPLETION_POST (R355). -/
def execDeferredCompletionPost (t sluice : Nat) (s : State) : Host.Outcome State Fault Refusal := .next ((s.advance t).postWaiting sluice)

/-- STREAM_CONS_WRITE (R261). -/
def execStreamConsWrite (t port stream : Nat) (value : BitVec 32) (s : State) : Host.Outcome State Fault Refusal :=
  .next (s.onPort t port (consWord port stream value))

end Sys2Proof.Machine
end

