-- ==== Sys2Proof/Machine/Boundary.lean ====
section
/-! DEFINITION. The cadence boundary in its fixed order, and the releases of published cadences (01, 02, R26 to R28, R46). -/
namespace Sys2Proof.Machine

/-! ## The cadence that closes (R20, R21, R26, R28) -/

/-- The boundary count and the cadence number advance: the next cadence opens (R21). -/
def State.turn (s : State) : State :=
  { s with
    time := { s.time with cad := s.time.cad + 1, bnd := s.time.bnd + 1, off := 0, stepped := false }
    pwr := { s.pwr with advanced := [] } }

/-- Domains that have been ON since the boundary `opened`. -/
def State.domsSince (s : State) (opened : Nat) : BitVec 33 :=
  BitVec.ofNat 33 (maskOf ((List.range 33).filter fun n => s.domOn n && match (s.dom n).onAt with
    | some t => decide (t ≤ opened)
    | none => n == 0))

/-- What was in force in the cadence that closes at the present boundary, for its publication (R26, R28); `measured`: the dry side
has measured it. -/
def State.closingNow (s : State) (measured : Bool) : Closing where
  cad := s.time.cad - 1
  bnd := s.b
  stamp := stampOf ((s.time.cad - 1) * cadenceClocks)
  open_ := measured
  chan := s.chan
  whl := s.cut.foldl (fun l (w, x) => l.put w x) s.whl
  mtr := s.mtr
  cf := s.cf
  refs := s.refs
  domsOn := s.domsSince ((s.b - 1) * cadenceClocks)
  rates := s.definedMeters.map fun m => (m, (s.ledger m).activeRate, (s.ledger m).nowDefault)

/-- A cadence closes; one that closed before and is not published yet will be late (R46). Marks of the closed cadence end with it. -/
def closeCadence (measured : Bool) (s : State) : State :=
  let older := if s.closing.open_ then s.older ++ [s.closing] else s.older
  let s : State := { s with closing := s.closingNow measured, older, cut := [] }
  { s with
    cf := s.cf.map fun (n, x) => (n, { x with sat := false })
    mtr := s.mtr.map fun (m, x) => (m, { x with redefined := false }) }

/-! ## The steps of R27 -/

/-- Handovers: references, calibration runs, wheels, engines, the relief engine (step 1). -/
def handoverStep (b : BoundaryIn) (s : State) : State :=
  let s := overTo 16 calPass (refPass s)
  let s := overTo 16 (fun s w => fadeDone w s) s
  let s := overTo 16 (wheelPass (fun w => (b.temps.find w).getD (s.wheel w).temp) b.katFailed) s
  reliefPass (b.katFailed.foldl (fun s w => engineFail w false s) s)

/-- Bank switches, then every other staged command and what the captain has prepared, in commit order (steps 2 and 3). -/
def commitStep (b : BoundaryIn) (s : State) : State :=
  let (s, done, mine) := commitAll b (s.dueIn true) [] s
  let (s, mirrored) := mirrorPass b s
  let (s, _, more) := commitAll b (s.dueIn false) done s
  commitRecord (mine ++ more) mirrored s

/-- What a step of the timebase brings with it; `before`: the second it left (R306, R459, R474, R234). -/
def afterStep (before : Nat) (s : State) : State :=
  let s := alarmStep before (demandStep s)
  { s with
    plc := { s.plc with neigh := s.plc.neigh.map fun (n, x) => (n, { x with stamps := [] }) } }

/-- A step that discipline has decided takes place (R466, R468). -/
def disciplineStep (s : State) : State :=
  match s.time.stepDue with
  | some (k, rest) => if s.time.off = 0 && !s.time.stepped && s.rtcHolds ((k : Rat) * ((2 ^ 24 : Nat) : Rat) / 125 + rest) then
      stepTime k rest s else { s with time := { s.time with stepDue := none } }
  | none => s

/-- The steps of the timebase at a boundary, commanded or decided, and what they bring with them; `before`: the second that the
closed cadence was in. -/
def stepOfTime (before : Nat) (s : State) : State :=
  let s := disciplineStep s
  if s.time.stepped then afterStep before s else s

/-- A PENDING meter is defined from the first cadence at whose opening every used channel is served and settled and the metering
domain is ON (R194). -/
def meterStarts (s : State) : State :=
  let ready (x : Meter) : Bool := s.domOn 5 && (defChannels x.def_).all fun c =>
    let w := s.wheel (wheelOf c)
    s.domOn (wheelDom (wheelOf c)) && w.settled && (w.server (spokeOf c)).isSome
  { s with mtr := s.mtr.map fun (m, x) => (m, if x.state == .pending && ready x then { x with state := .defined, fresh := true } else x) }

/-- Device states that the boundary's commits have decided, and the decision of the domains (R96, R104). -/
def stateStep (s : State) : State :=
  let s := testAbortPass (decidePass (hushPass (afterStartPass (tripKickPass (cfLeave s)))))
  if s.pwr.pending == some DevState.nap then enterNap s else s

/-- What happens at a boundary ahead of step 1: what fell due, the closes of the second, tandem roles, trust and sources. -/
def openingStep (b : BoundaryIn) (s : State) : State :=
  let s := plcTick (slewPass s)
  let s := refusalPass { s with pwr := { s.pwr with
    devWakeHigh := b.devWake, mainWarn := s.pwr.mainWarn && !b.mainOk, cores := s.pwr.cores.retire b.retireCore } }
  let s := workPass b.work b.visit b.cap s.beginsSecond s
  let s := if s.beginsSecond then
      discardSecond { s with pol := s.pol.map fun (p, q) => (p, q.blockFlush s.stamp) } else s
  floodgatePass (compromisedPass (sourcePass true (trustPass (tandemPass b.witness (storePass s)))))

/-- A boundary at which the device runs (R27). -/
def runBoundary (b : BoundaryIn) (s : State) : State :=
  let before := (s.time.cad - 1) / 125
  let s := freezePass (closeCadence s.dryRuns s)
  let s := stepOfTime before (overTo 16 (fun s w => gearPass w s) (commitStep b (handoverStep b (openingStep b s))))
  let s := if s.dryRuns then checkpointPass (tariffPass (meterStarts s)) else s
  let s := floodgatePass (startBoundaryPass s)
  let s := trialPass (lossPass (stateStep s))
  alarmPass (if s.pwr.pfail then { s with pwr := { s.pwr with pfailClosed := true } } else s)

/-- The device runs its boundaries: powered, out of reset and of NAP, and not past the last cadence of a power-fail sequence. -/
def State.runs (s : State) : Bool :=
  s.pwr.porstHigh && !s.pwr.aonLost && !s.pwr.halted && s.pwr.state != .nap && !s.pwr.pfailClosed

/-- CADENCE_BOUNDARY (R27): otherwise only the timebase goes on, and the alarm with it. -/
def execCadenceBoundary (b : BoundaryIn) (s : State) : Host.Outcome State Fault Refusal :=
  let t := s.turn
  .next (if s.runs then runBoundary b t else alarmPass t)

/-! ## Rows of their own -/

/-- STEP (R468): a decided step, and the rates of the cadence that opens (R300). -/
def execStep (s : State) : Host.Outcome State Fault Refusal :=
  .next (if s.time.off = 0 && s.time.stepDue.isSome && s.dryRuns then ratePass (stepOfTime s.second s) else s)

/-- SPOKE_RETURN (R150). -/
def execSpokeReturn (wheel : Nat) (s : State) : Host.Outcome State Fault Refusal := .next (returnSettlePass wheel s)

/-- Step 8 of R112 had ended when the cadence `c` opened: every wheel that is to be ON was ON and settled. -/
def State.wheelsUp (s : State) (c : Closing) : Bool :=
  (List.range 16).all fun w => !s.decides (w + 17) || (c.domsOn.getLsbD (w + 17) && (c.whl.get Wheel.reset w).settled)

/-- A cadence is released at the present instant; the first since a start whose opening finds the wheels settled ends step 9 of R112. -/
def release (late : Bool) (p : PubIn) (s : State) : State :=
  let r := pubRun p s
  let c := s.toPublish
  let s' := copyCadence r.o c.cad (calPublish r (publish late r s))
  if s'.pwr.firstPub || !s'.wheelsUp c then s' else { s' with pwr := { s'.pwr with firstPub := true, firstPubMs := s'.startMs } }

/-- The release instant of R23, in master clocks after the boundary. -/
def releaseClocks : Nat := 196608

/-- PUBLICATION (R23): 4.000 ms after the boundary, whatever the occupancy. -/
def execPublication (p : PubIn) (s : State) : Host.Outcome State Fault Refusal :=
  let s := s.advance releaseClocks
  .next (if s.closing.open_ && s.older.isEmpty && s.dryRuns then release false p s else s)

/-- LATE_PUBLICATION (R46): once the last meter's close-out is complete, after the release instant has passed. -/
def execLatePublication (t : Nat) (p : PubIn) (s : State) : Host.Outcome State Fault Refusal :=
  let s := s.advance t
  .next (if s.dryRuns && (!s.older.isEmpty || (s.closing.open_ && releaseClocks < s.time.off)) then release true p s else s)

end Sys2Proof.Machine
end

