-- ==== Sys2Proof/Machine/Mailbox.lean ====
section
/-! DEFINITION. The meanings of the mailbox rows: each runs its command through the shared course of a taken entry. -/
namespace Sys2Proof.Machine

/-- DEV_INFO (R383). -/
def execDevInfo (sub : Submit) (s : State) : Host.Outcome State Fault Refusal :=
  .next (runMailbox sub (.devInfo) s)

/-- DEV_IDENTITY (R383). -/
def execDevIdentity (sub : Submit) (s : State) : Host.Outcome State Fault Refusal :=
  .next (runMailbox sub (.devIdentity) s)

/-- DEV_ECHO (R383). -/
def execDevEcho (sub : Submit) (data : List Byte) (s : State) : Host.Outcome State Fault Refusal :=
  .next (runMailbox sub (.devEcho data) s)

/-- POWER_SET_DOMAINS (R97). -/
def execPowerSetDomains (sub : Submit) (p : PowerSetDomains) (s : State) : Host.Outcome State Fault Refusal :=
  .next (runMailbox sub (.powerSetDomains p) s)

/-- POWER_SET_STATE (R104). -/
def execPowerSetState (sub : Submit) (p : PowerSetState) (s : State) : Host.Outcome State Fault Refusal :=
  .next (runMailbox sub (.powerSetState p) s)

/-- POWER_STATUS (R384). -/
def execPowerStatus (sub : Submit) (s : State) : Host.Outcome State Fault Refusal :=
  .next (runMailbox sub (.powerStatus) s)

/-- WHEEL_SET_GEAR (R132). -/
def execWheelSetGear (sub : Submit) (p : WheelSetGear) (s : State) : Host.Outcome State Fault Refusal :=
  .next (runMailbox sub (.wheelSetGear p) s)

/-- WHEEL_SET_JOCKEY (R138). -/
def execWheelSetJockey (sub : Submit) (p : WheelSetJockey) (s : State) : Host.Outcome State Fault Refusal :=
  .next (runMailbox sub (.wheelSetJockey p) s)

/-- WHEEL_SERVICE_SPOKE (R147). -/
def execWheelServiceSpoke (sub : Submit) (p : WheelServiceSpoke) (s : State) : Host.Outcome State Fault Refusal :=
  .next (runMailbox sub (.wheelServiceSpoke p) s)

/-- WHEEL_RETURN_SPOKE (R150). -/
def execWheelReturnSpoke (sub : Submit) (p : WheelReturnSpoke) (s : State) : Host.Outcome State Fault Refusal :=
  .next (runMailbox sub (.wheelReturnSpoke p) s)

/-- WHEEL_USE_RELIEF_SUBSTITUTE (R158). -/
def execWheelUseReliefSubstitute (sub : Submit) (wheel : Nat) (s : State) : Host.Outcome State Fault Refusal :=
  .next (runMailbox sub (.wheelUseRelief wheel 1) s)

/-- WHEEL_USE_RELIEF_RETURN (R158). -/
def execWheelUseReliefReturn (sub : Submit) (wheel : Nat) (s : State) : Host.Outcome State Fault Refusal :=
  .next (runMailbox sub (.wheelUseRelief wheel 0) s)

/-- WHEEL_STATUS (R385). -/
def execWheelStatus (sub : Submit) (wheel : Nat) (s : State) : Host.Outcome State Fault Refusal :=
  .next (runMailbox sub (.wheelStatus wheel) s)

/-- CHAIN_LOAD_BANK (R183). -/
def execChainLoadBank (sub : Submit) (p : ChainLoadBank) (s : State) : Host.Outcome State Fault Refusal :=
  .next (runMailbox sub (.chainLoadBank p) s)

/-- CHAIN_SWITCH_BANK (R185). -/
def execChainSwitchBank (sub : Submit) (p : ChainSwitchBank) (s : State) : Host.Outcome State Fault Refusal :=
  .next (runMailbox sub (.chainSwitchBank p) s)

/-- CHAIN_SET_CHANNEL (R386). -/
def execChainSetChannel (sub : Submit) (p : ChainSetChannel) (s : State) : Host.Outcome State Fault Refusal :=
  .next (runMailbox sub (.chainSetChannel p) s)

/-- CHAIN_SET_TRIP (R223). -/
def execChainSetTrip (sub : Submit) (p : ChainSetTrip) (s : State) : Host.Outcome State Fault Refusal :=
  .next (runMailbox sub (.chainSetTrip p) s)

/-- CHAIN_CLEAR_TRIP (R225). -/
def execChainClearTrip (sub : Submit) (channels : BitVec 128) (s : State) : Host.Outcome State Fault Refusal :=
  .next (runMailbox sub (.chainClearTrip channels) s)

/-- CHAIN_STATUS (R386). -/
def execChainStatus (sub : Submit) (channel : Nat) (s : State) : Host.Outcome State Fault Refusal :=
  .next (runMailbox sub (.chainStatus channel) s)

/-- METER_DEFINE (R194). -/
def execMeterDefine (sub : Submit) (p : MeterDefine) (s : State) : Host.Outcome State Fault Refusal :=
  .next (runMailbox sub (.meterDefine p) s)

/-- METER_UNDEFINE (R194). -/
def execMeterUndefine (sub : Submit) (p : MeterUndefine) (s : State) : Host.Outcome State Fault Refusal :=
  .next (runMailbox sub (.meterUndefine p) s)

/-- METER_MAP_CF (R217). -/
def execMeterMapCf (sub : Submit) (p : MeterMapCf) (s : State) : Host.Outcome State Fault Refusal :=
  .next (runMailbox sub (.meterMapCf p) s)

/-- METER_MAP_CF_CLEAR (R387). -/
def execMeterMapCfClear (sub : Submit) (cf : Nat) (expGen : BitVec 32) (s : State) : Host.Outcome State Fault Refusal :=
  .next (runMailbox sub (.meterMapCf ⟨cf, 0, 0xFF, 0, 0, expGen⟩) s)

/-- METER_STATUS (R387). -/
def execMeterStatus (sub : Submit) (meter : Nat) (s : State) : Host.Outcome State Fault Refusal :=
  .next (runMailbox sub (.meterStatus meter) s)

/-- PQ_SET_CHANNEL (R230). -/
def execPqSetChannel (sub : Submit) (p : PqSetChannel) (s : State) : Host.Outcome State Fault Refusal :=
  .next (runMailbox sub (.pqSetChannel p) s)

/-- PQ_SET_METER (R230). -/
def execPqSetMeter (sub : Submit) (p : PqSetMeter) (s : State) : Host.Outcome State Fault Refusal :=
  .next (runMailbox sub (.pqSetMeter p) s)

/-- PQ_SET_CAPTURE (R253). -/
def execPqSetCapture (sub : Submit) (p : PqSetCapture) (s : State) : Host.Outcome State Fault Refusal :=
  .next (runMailbox sub (.pqSetCapture p) s)

/-- PQ_ARM (R255). -/
def execPqArm (sub : Submit) (capture : Nat) (s : State) : Host.Outcome State Fault Refusal :=
  .next (runMailbox sub (.pqArm capture 1) s)

/-- PQ_DISARM (R255). -/
def execPqDisarm (sub : Submit) (capture : Nat) (s : State) : Host.Outcome State Fault Refusal :=
  .next (runMailbox sub (.pqArm capture 0) s)

/-- PQ_TRIGGER (R254). -/
def execPqTrigger (sub : Submit) (capture : Nat) (s : State) : Host.Outcome State Fault Refusal :=
  .next (runMailbox sub (.pqTrigger capture) s)

/-- PQ_RELEASE (R255). -/
def execPqRelease (sub : Submit) (p : PqRelease) (s : State) : Host.Outcome State Fault Refusal :=
  .next (runMailbox sub (.pqRelease p) s)

/-- PQ_STATUS (R388). -/
def execPqStatus (sub : Submit) (capture : Nat) (s : State) : Host.Outcome State Fault Refusal :=
  .next (runMailbox sub (.pqStatus capture) s)

/-- PQ_STREAM_OPEN (R260). -/
def execPqStreamOpen (sub : Submit) (p : PqStreamOpen) (s : State) : Host.Outcome State Fault Refusal :=
  .next (runMailbox sub (.pqStreamOpen p) s)

/-- PQ_STREAM_CLOSE (R260). -/
def execPqStreamClose (sub : Submit) (stream : Nat) (s : State) : Host.Outcome State Fault Refusal :=
  .next (runMailbox sub (.pqStreamClose stream) s)

/-- CAL_RUN (R270). -/
def execCalRun (sub : Submit) (p : CalRun) (s : State) : Host.Outcome State Fault Refusal :=
  .next (runMailbox sub (.calRun p) s)

/-- CAL_COMMIT (R276). -/
def execCalCommit (sub : Submit) (p : CalCommit) (s : State) : Host.Outcome State Fault Refusal :=
  .next (runMailbox sub (.calCommit p) s)

/-- CAL_DISCARD (R275). -/
def execCalDiscard (sub : Submit) (target : CalTarget) (s : State) : Host.Outcome State Fault Refusal :=
  .next (runMailbox sub (.calDiscard target) s)

/-- CAL_STATUS (R389). -/
def execCalStatus (sub : Submit) (target : CalTarget) (s : State) : Host.Outcome State Fault Refusal :=
  .next (runMailbox sub (.calStatus target) s)

/-- CAL_READ (R266). -/
def execCalRead (sub : Submit) (p : CalRead) (s : State) : Host.Outcome State Fault Refusal :=
  .next (runMailbox sub (.calRead p) s)

/-- CAL_ANCHOR (R280). -/
def execCalAnchor (sub : Submit) (s : State) : Host.Outcome State Fault Refusal :=
  .next (runMailbox sub (.calAnchor) s)

/-- CAL_SET_REFERENCE (R284). -/
def execCalSetReference (sub : Submit) (p : CalSetReference) (s : State) : Host.Outcome State Fault Refusal :=
  .next (runMailbox sub (.calSetReference p) s)

/-- TARIFF_STAGE_CALENDAR (R297). -/
def execTariffStageCalendar (sub : Submit) (calendar : List Byte) (s : State) : Host.Outcome State Fault Refusal :=
  .next (runMailbox sub (.tariffStageCalendar calendar) s)

/-- TARIFF_ACTIVATE_AT (R302). -/
def execTariffActivateAt (sub : Submit) (at_ : BitVec 64) (s : State) : Host.Outcome State Fault Refusal :=
  .next (runMailbox sub (.tariffActivateAt at_) s)

/-- TARIFF_CANCEL_ACTIVATION (R390). -/
def execTariffCancelActivation (sub : Submit) (s : State) : Host.Outcome State Fault Refusal :=
  .next (runMailbox sub (.tariffActivateAt 0) s)

/-- TARIFF_SET_METER (R296). -/
def execTariffSetMeter (sub : Submit) (p : TariffSetMeter) (s : State) : Host.Outcome State Fault Refusal :=
  .next (runMailbox sub (.tariffSetMeter p) s)

/-- TARIFF_STATUS (R390). -/
def execTariffStatus (sub : Submit) (s : State) : Host.Outcome State Fault Refusal :=
  .next (runMailbox sub (.tariffStatus) s)

/-- LEDGER_READ_SIGNED (R312). -/
def execLedgerReadSigned (sub : Submit) (p : LedgerReadSigned) (s : State) : Host.Outcome State Fault Refusal :=
  .next (runMailbox sub (.ledgerReadSigned p) s)

/-- LEDGER_SET_DEMAND (R304). -/
def execLedgerSetDemand (sub : Submit) (p : LedgerSetDemand) (s : State) : Host.Outcome State Fault Refusal :=
  .next (runMailbox sub (.ledgerSetDemand p) s)

/-- LEDGER_SET_TAMPER (R309). -/
def execLedgerSetTamper (sub : Submit) (p : LedgerSetTamper) (s : State) : Host.Outcome State Fault Refusal :=
  .next (runMailbox sub (.ledgerSetTamper p) s)

/-- LEDGER_CLOSE_PERIOD (R307). -/
def execLedgerClosePeriod (sub : Submit) (meters : BitVec 256) (s : State) : Host.Outcome State Fault Refusal :=
  .next (runMailbox sub (.ledgerClosePeriod meters) s)

/-- LEDGER_STATUS (R390). -/
def execLedgerStatus (sub : Submit) (meter : Nat) (s : State) : Host.Outcome State Fault Refusal :=
  .next (runMailbox sub (.ledgerStatus meter) s)

/-- POLDER_CREATE (R323). -/
def execPolderCreate (sub : Submit) (p : PolderCreate) (s : State) : Host.Outcome State Fault Refusal :=
  .next (runMailbox sub (.polderCreate p) s)

/-- POLDER_ASSIGN (R326). -/
def execPolderAssign (sub : Submit) (records : List PolderRecord) (s : State) : Host.Outcome State Fault Refusal :=
  .next (runMailbox sub (.polderAssign records.length records) s)

/-- POLDER_RELEASE (R392). -/
def execPolderRelease (sub : Submit) (record : PolderRecord) (s : State) : Host.Outcome State Fault Refusal :=
  .next (runMailbox sub (.polderRelease record) s)

/-- POLDER_CLOSE (R324). -/
def execPolderClose (sub : Submit) (s : State) : Host.Outcome State Fault Refusal :=
  .next (runMailbox sub (.polderClose) s)

/-- POLDER_DISSOLVE (R325). -/
def execPolderDissolve (sub : Submit) (polder : Nat) (s : State) : Host.Outcome State Fault Refusal :=
  .next (runMailbox sub (.polderDissolve polder) s)

/-- POLDER_REKEY (R331). -/
def execPolderRekey (sub : Submit) (p : PolderRekey) (s : State) : Host.Outcome State Fault Refusal :=
  .next (runMailbox sub (.polderRekey p) s)

/-- POLDER_GET_KEY (R331). -/
def execPolderGetKey (sub : Submit) (s : State) : Host.Outcome State Fault Refusal :=
  .next (runMailbox sub (.polderGetKey) s)

/-- POLDER_STATUS (R326). -/
def execPolderStatus (sub : Submit) (polder : Nat) (s : State) : Host.Outcome State Fault Refusal :=
  .next (runMailbox sub (.polderStatus polder) s)

/-- POLDER_READ_AUDIT (R393). -/
def execPolderReadAudit (sub : Submit) (p : PolderReadAudit) (s : State) : Host.Outcome State Fault Refusal :=
  .next (runMailbox sub (.polderReadAudit p) s)

/-- EVENT_READ (R394). -/
def execEventRead (sub : Submit) (max : Nat) (s : State) : Host.Outcome State Fault Refusal :=
  .next (runMailbox sub (.eventRead max) s)

/-- EVENT_MASK (R421). -/
def execEventMask (sub : Submit) (p : EventMask) (s : State) : Host.Outcome State Fault Refusal :=
  .next (runMailbox sub (.eventMask p) s)

/-- EVENT_ROUTE (R428). -/
def execEventRoute (sub : Submit) (p : EventRoute) (s : State) : Host.Outcome State Fault Refusal :=
  .next (runMailbox sub (.eventRoute p) s)

/-- PLC_SET_LINK (R436). -/
def execPlcSetLink (sub : Submit) (p : PlcSetLink) (s : State) : Host.Outcome State Fault Refusal :=
  .next (runMailbox sub (.plcSetLink p) s)

/-- PLC_SET_NETWORK (R447). -/
def execPlcSetNetwork (sub : Submit) (p : PlcSetNetwork) (s : State) : Host.Outcome State Fault Refusal :=
  .next (runMailbox sub (.plcSetNetwork p) s)

/-- PLC_SET_SPECTRUM (R438). -/
def execPlcSetSpectrum (sub : Submit) (p : PlcSetSpectrum) (s : State) : Host.Outcome State Fault Refusal :=
  .next (runMailbox sub (.plcSetSpectrum p) s)

/-- PLC_SEND (R456). -/
def execPlcSend (sub : Submit) (p : PlcSend) (s : State) : Host.Outcome State Fault Refusal :=
  .next (runMailbox sub (.plcSend p) s)

/-- PLC_RECV (R457). -/
def execPlcRecv (sub : Submit) (s : State) : Host.Outcome State Fault Refusal :=
  .next (runMailbox sub (.plcRecv) s)

/-- PLC_STATUS (R395). -/
def execPlcStatus (sub : Submit) (s : State) : Host.Outcome State Fault Refusal :=
  .next (runMailbox sub (.plcStatus) s)

/-- TIME_SET_STEP (R472). -/
def execTimeSetStep (sub : Submit) (offset : Int) (s : State) : Host.Outcome State Fault Refusal :=
  .next (runMailbox sub (.timeSet ⟨0, offset⟩) s)

/-- TIME_SET_SLEW (R472). -/
def execTimeSetSlew (sub : Submit) (offset : Int) (s : State) : Host.Outcome State Fault Refusal :=
  .next (runMailbox sub (.timeSet ⟨1, offset⟩) s)

/-- TIME_TRUST_MARK (R473). -/
def execTimeTrustMark (sub : Submit) (s : State) : Host.Outcome State Fault Refusal :=
  .next (runMailbox sub (.timeTrust 0) s)

/-- TIME_TRUST_CLEAR (R473). -/
def execTimeTrustClear (sub : Submit) (s : State) : Host.Outcome State Fault Refusal :=
  .next (runMailbox sub (.timeTrust 1) s)

/-- TIME_SET_ALARM (R474). -/
def execTimeSetAlarm (sub : Submit) (p : TimeSetAlarm) (s : State) : Host.Outcome State Fault Refusal :=
  .next (runMailbox sub (.timeSetAlarm p) s)

/-- TIME_SET_PERIODIC (R475). -/
def execTimeSetPeriodic (sub : Submit) (p : TimeSetPeriodic) (s : State) : Host.Outcome State Fault Refusal :=
  .next (runMailbox sub (.timeSetPeriodic p) s)

/-- TIME_STATUS (R396). -/
def execTimeStatus (sub : Submit) (s : State) : Host.Outcome State Fault Refusal :=
  .next (runMailbox sub (.timeStatus) s)

/-- STORE_READ (R397). -/
def execStoreRead (sub : Submit) (p : StoreRead) (s : State) : Host.Outcome State Fault Refusal :=
  .next (runMailbox sub (.storeRead p) s)

/-- STORE_PROGRAM (R483). -/
def execStoreProgram (sub : Submit) (p : StoreProgram) (s : State) : Host.Outcome State Fault Refusal :=
  .next (runMailbox sub (.storeProgram p) s)

/-- STORE_ERASE (R483). -/
def execStoreErase (sub : Submit) (p : StoreErase) (s : State) : Host.Outcome State Fault Refusal :=
  .next (runMailbox sub (.storeErase p) s)

/-- GUARD_UNLOCK_CHALLENGE (R398). -/
def execGuardUnlockChallenge (sub : Submit) (s : State) : Host.Outcome State Fault Refusal :=
  .next (runMailbox sub (.guardUnlock ⟨0, 0, []⟩) s)

/-- GUARD_UNLOCK_RESPONSE (R507). -/
def execGuardUnlockResponse (sub : Submit) (challengeId : Nat) (sig : List Byte) (s : State) : Host.Outcome State Fault Refusal :=
  .next (runMailbox sub (.guardUnlock ⟨1, challengeId, sig⟩) s)

/-- GUARD_SET_KEY (R508). -/
def execGuardSetKey (sub : Submit) (pub : List Byte) (s : State) : Host.Outcome State Fault Refusal :=
  .next (runMailbox sub (.guardSetKey pub) s)

/-- GUARD_SET_RESPONSE (R499). -/
def execGuardSetResponse (sub : Submit) (entries : List GuardEntry) (s : State) : Host.Outcome State Fault Refusal :=
  .next (runMailbox sub (.guardSetResponse ⟨entries.length, entries⟩) s)

/-- TANDEM_ENABLE (R515). -/
def execTandemEnable (sub : Submit) (partnerId : BitVec 128) (s : State) : Host.Outcome State Fault Refusal :=
  .next (runMailbox sub (.tandemEnable ⟨1, partnerId⟩) s)

/-- TANDEM_DISABLE (R516). -/
def execTandemDisable (sub : Submit) (s : State) : Host.Outcome State Fault Refusal :=
  .next (runMailbox sub (.tandemEnable ⟨0, 0⟩) s)

/-- TANDEM_HANDOVER (R531). -/
def execTandemHandover (sub : Submit) (s : State) : Host.Outcome State Fault Refusal :=
  .next (runMailbox sub (.tandemHandover) s)

/-- TANDEM_STATUS (R399). -/
def execTandemStatus (sub : Submit) (s : State) : Host.Outcome State Fault Refusal :=
  .next (runMailbox sub (.tandemStatus) s)

/-- IMAGE_STAGE (R340). -/
def execImageStage (sub : Submit) (p : ImageStage) (s : State) : Host.Outcome State Fault Refusal :=
  .next (runMailbox sub (.imageStage p) s)

/-- IMAGE_ACTIVATE_WET (R340). -/
def execImageActivateWet (sub : Submit) (s : State) : Host.Outcome State Fault Refusal :=
  .next (runMailbox sub (.imageActivate 0) s)

/-- IMAGE_ACTIVATE_DRY (R344). -/
def execImageActivateDry (sub : Submit) (s : State) : Host.Outcome State Fault Refusal :=
  .next (runMailbox sub (.imageActivate 1) s)

/-- IMAGE_CONFIRM (R341). -/
def execImageConfirm (sub : Submit) (s : State) : Host.Outcome State Fault Refusal :=
  .next (runMailbox sub (.imageConfirm) s)

/-- IMAGE_STATUS (R400). -/
def execImageStatus (sub : Submit) (s : State) : Host.Outcome State Fault Refusal :=
  .next (runMailbox sub (.imageStatus) s)

end Sys2Proof.Machine
end

