-- ==== Sys2Proof/Machine/Dispatch.lean ====
section
/-! DEFINITION. The one dispatch of the block: each command to its meaning. -/
namespace Sys2Proof.Machine

/-- The effect of a command on everything but the queue. -/
def exec (i : Instr) (s : State) : Host.Outcome State Fault Refusal :=
  match i with
  | .cadenceBoundary b => Sys2Proof.Machine.execCadenceBoundary b s
  | .voltageRequestLower => Sys2Proof.Machine.execVoltageRequestLower s
  | .settleAllowanceEnd => Sys2Proof.Machine.execSettleAllowanceEnd s
  | .sheddingFall => Sys2Proof.Machine.execSheddingFall s
  | .publication p => Sys2Proof.Machine.execPublication p s
  | .latePublication t p => Sys2Proof.Machine.execLatePublication t p s
  | .booking => Sys2Proof.Machine.execBooking s
  | .cfEdge t cf => Sys2Proof.Machine.execCfEdge t cf s
  | .cfPulseEnd t cf => Sys2Proof.Machine.execCfPulseEnd t cf s
  | .fastTripAssert t channel x => Sys2Proof.Machine.execFastTripAssert t channel x s
  | .fastTripDeassert t channel x => Sys2Proof.Machine.execFastTripDeassert t channel x s
  | .domainRiseComplete t domain => Sys2Proof.Machine.execDomainRiseComplete t domain s
  | .domainDrainComplete t domain => Sys2Proof.Machine.execDomainDrainComplete t domain s
  | .domainLoss t domain epoch => Sys2Proof.Machine.execDomainLoss t domain epoch s
  | .deferredHushEntry => Sys2Proof.Machine.execDeferredHushEntry s
  | .mainSupplyWarning t => Sys2Proof.Machine.execMainSupplyWarning t s
  | .powerFailClose p => Sys2Proof.Machine.execPowerFailClose p s
  | .mainReturn x => Sys2Proof.Machine.execMainReturn x s
  | .porstAssert t => Sys2Proof.Machine.execPorstAssert t s
  | .porstRelease r => Sys2Proof.Machine.execPorstRelease r s
  | .aonColdStart => Sys2Proof.Machine.execAonColdStart s
  | .devWake t => Sys2Proof.Machine.execDevWake t s
  | .hostPortsReady t => Sys2Proof.Machine.execHostPortsReady t s
  | .firstSluiceAccess t port sluice => Sys2Proof.Machine.execFirstSluiceAccess t port sluice s
  | .transferBeforeReady t port => Sys2Proof.Machine.execTransferBeforeReady t port s
  | .aonVbatChangeover t => Sys2Proof.Machine.execAonVbatChangeover t s
  | .aonVddaonReturn t => Sys2Proof.Machine.execAonVddaonReturn t s
  | .sliceSelfCheckFailure t wheel x => Sys2Proof.Machine.execSliceSelfCheckFailure t wheel x s
  | .upShift t wheel position magnitude => Sys2Proof.Machine.execUpShift t wheel position magnitude s
  | .downShift t wheel position run => Sys2Proof.Machine.execDownShift t wheel position run s
  | .dcFreezeEnd t channel => Sys2Proof.Machine.execDcFreezeEnd t channel s
  | .dwellVerdict wheel => Sys2Proof.Machine.execDwellVerdict wheel s
  | .jockeyTakeover wheel => Sys2Proof.Machine.execJockeyTakeover wheel s
  | .serviceRecalibrationPhaseEnd wheel => Sys2Proof.Machine.execServiceRecalibrationPhaseEnd wheel s
  | .serviceRecalibrationCommit wheel => Sys2Proof.Machine.execServiceRecalibrationCommit wheel s
  | .spokeReturn wheel => Sys2Proof.Machine.execSpokeReturn wheel s
  | .returnCheckVerdict wheel => Sys2Proof.Machine.execReturnCheckVerdict wheel s
  | .probationVerdict wheel => Sys2Proof.Machine.execProbationVerdict wheel s
  | .handback wheel => Sys2Proof.Machine.execHandback wheel s
  | .wheelSettled wheel => Sys2Proof.Machine.execWheelSettled wheel s
  | .wheelProbationVisitVerdict wheel => Sys2Proof.Machine.execWheelProbationVisitVerdict wheel s
  | .wheelProbationOutcome wheel => Sys2Proof.Machine.execWheelProbationOutcome wheel s
  | .emergencyReturn wheel => Sys2Proof.Machine.execEmergencyReturn wheel s
  | .wheelEngineFailure t x => Sys2Proof.Machine.execWheelEngineFailure t x s
  | .reliefSubstitution => Sys2Proof.Machine.execReliefSubstitution s
  | .reliefInService => Sys2Proof.Machine.execReliefInService s
  | .plannedEngineHandover => Sys2Proof.Machine.execPlannedEngineHandover s
  | .reliefEngineFailure t => Sys2Proof.Machine.execReliefEngineFailure t s
  | .crossFadeEnd t wheel => Sys2Proof.Machine.execCrossFadeEnd t wheel s
  | .halfCycleRefresh t channel rising => Sys2Proof.Machine.execHalfCycleRefresh t channel rising s
  | .syntheticRefresh t channel seq => Sys2Proof.Machine.execSyntheticRefresh t channel seq s
  | .noCycleTimeout t channel => Sys2Proof.Machine.execNoCycleTimeout t channel s
  | .aggregate150Close t channel => Sys2Proof.Machine.execAggregate150Close t channel s
  | .tenMinuteTick t => Sys2Proof.Machine.execTenMinuteTick t s
  | .tenSecondFrequencyInterval t => Sys2Proof.Machine.execTenSecondFrequencyInterval t s
  | .truncatedEvent t channel => Sys2Proof.Machine.execTruncatedEvent t channel s
  | .captureFreeze t capture segment => Sys2Proof.Machine.execCaptureFreeze t capture segment s
  | .streamRow t stream row => Sys2Proof.Machine.execStreamRow t stream row s
  | .streamConsWrite t port stream value => Sys2Proof.Machine.execStreamConsWrite t port stream value s
  | .calibrationRunEnd channel gear => Sys2Proof.Machine.execCalibrationRunEnd channel gear s
  | .referenceLegEnd channel gear => Sys2Proof.Machine.execReferenceLegEnd channel gear s
  | .candidateExpiry t channel gear => Sys2Proof.Machine.execCandidateExpiry t channel gear s
  | .referenceRatioMean r => Sys2Proof.Machine.execReferenceRatioMean r s
  | .referenceFailure t reference => Sys2Proof.Machine.execReferenceFailure t reference s
  | .sealChange t x => Sys2Proof.Machine.execSealChange t x s
  | .calendarActivation polder => Sys2Proof.Machine.execCalendarActivation polder s
  | .deferredCalendarActivation polder => Sys2Proof.Machine.execDeferredCalendarActivation polder s
  | .demandSubintervalClose meter => Sys2Proof.Machine.execDemandSubintervalClose meter s
  | .billingDateClose polder => Sys2Proof.Machine.execBillingDateClose polder s
  | .deferredBillingDateClose polder => Sys2Proof.Machine.execDeferredBillingDateClose polder s
  | .tamperCriterionStart meter entry => Sys2Proof.Machine.execTamperCriterionStart meter entry s
  | .tamperCriterionEnd meter entry => Sys2Proof.Machine.execTamperCriterionEnd meter entry s
  | .readingComposition t => Sys2Proof.Machine.execReadingComposition t s
  | .readingSigned t => Sys2Proof.Machine.execReadingSigned t s
  | .doorbell t port sluice value => Sys2Proof.Machine.execDoorbell t port sluice value s
  | .refusalCompletion t => Sys2Proof.Machine.execRefusalCompletion t s
  | .completionAcknowledge t port sluice value => Sys2Proof.Machine.execCompletionAcknowledge t port sluice value s
  | .deferredCompletionPost t sluice => Sys2Proof.Machine.execDeferredCompletionPost t sluice s
  | .lockstepMismatch t => Sys2Proof.Machine.execLockstepMismatch t s
  | .wetRestartComplete t checkOk => Sys2Proof.Machine.execWetRestartComplete t checkOk s
  | .wetTrialExpiry => Sys2Proof.Machine.execWetTrialExpiry s
  | .badInstruction t port instruction => Sys2Proof.Machine.execBadInstruction t port instruction s
  | .unalignedAddress t port address => Sys2Proof.Machine.execUnalignedAddress t port address s
  | .blockedAccess t port address write => Sys2Proof.Machine.execBlockedAccess t port address write s
  | .registerWrite t port address data => Sys2Proof.Machine.execRegisterWrite t port address data s
  | .hptSlstatRead t port sluice => Sys2Proof.Machine.execHptSlstatRead t port sluice s
  | .hptStatRead t port n => Sys2Proof.Machine.execHptStatRead t port n s
  | .sysOccStatsRead t port => Sys2Proof.Machine.execSysOccStatsRead t port s
  | .evtStatRead t port group => Sys2Proof.Machine.execEvtStatRead t port group s
  | .evtSeqWrite t port group value => Sys2Proof.Machine.execEvtSeqWrite t port group value s
  | .evtCtrlWrite t port value => Sys2Proof.Machine.execEvtCtrlWrite t port value s
  | .evtCtrlRead t port => Sys2Proof.Machine.execEvtCtrlRead t port s
  | .evtModeWrite t port value => Sys2Proof.Machine.execEvtModeWrite t port value s
  | .rtcLoRead t port age => Sys2Proof.Machine.execRtcLoRead t port age s
  | .rtcWakeRead t port => Sys2Proof.Machine.execRtcWakeRead t port s
  | .parCtrlWrite t port value => Sys2Proof.Machine.execParCtrlWrite t port value s
  | .parRawWrite t port => Sys2Proof.Machine.execParRawWrite t port s
  | .parRawRead t port => Sys2Proof.Machine.execParRawRead t port s
  | .parCheckedRead t port => Sys2Proof.Machine.execParCheckedRead t port s
  | .parScrubPass t port => Sys2Proof.Machine.execParScrubPass t port s
  | .parOpOverlap t port value => Sys2Proof.Machine.execParOpOverlap t port value s
  | .parOperationComplete t => Sys2Proof.Machine.execParOperationComplete t s
  | .parStatRead t port => Sys2Proof.Machine.execParStatRead t port s
  | .whlTestCfgWrite t port wheel value => Sys2Proof.Machine.execWhlTestCfgWrite t port wheel value s
  | .wheelTestStart t port wheel => Sys2Proof.Machine.execWheelTestStart t port wheel s
  | .wheelTestClear t port wheel => Sys2Proof.Machine.execWheelTestClear t port wheel s
  | .whlTestCtrlRead t port wheel => Sys2Proof.Machine.execWhlTestCtrlRead t port wheel s
  | .wheelTestDone wheel r => Sys2Proof.Machine.execWheelTestDone wheel r s
  | .broadcastWrite t port offset value => Sys2Proof.Machine.execBroadcastWrite t port offset value s
  | .broadcastRead t port offset => Sys2Proof.Machine.execBroadcastRead t port offset s
  | .whlBstatRead t port => Sys2Proof.Machine.execWhlBstatRead t port s
  | .frameReceived t f => Sys2Proof.Machine.execFrameReceived t f s
  | .sackTransmit t => Sys2Proof.Machine.execSackTransmit t s
  | .sackReceived t k => Sys2Proof.Machine.execSackReceived t k s
  | .noSack t => Sys2Proof.Machine.execNoSack t s
  | .priorityResolution t heard => Sys2Proof.Machine.execPriorityResolution t heard s
  | .contentionSlot t slot => Sys2Proof.Machine.execContentionSlot t slot s
  | .extendedGapEnd t => Sys2Proof.Machine.execExtendedGapEnd t s
  | .toneMapIssue t node number => Sys2Proof.Machine.execToneMapIssue t node number s
  | .toneMapExpiry t node => Sys2Proof.Machine.execToneMapExpiry t node s
  | .beaconSend t => Sys2Proof.Machine.execBeaconSend t s
  | .searchTimeout t => Sys2Proof.Machine.execSearchTimeout t s
  | .beaconLockLoss t => Sys2Proof.Machine.execBeaconLockLoss t s
  | .routeAdvertisement t => Sys2Proof.Machine.execRouteAdvertisement t s
  | .routeExpiry t => Sys2Proof.Machine.execRouteExpiry t s
  | .deliveryTimeout t => Sys2Proof.Machine.execDeliveryTimeout t s
  | .ppsEdge t => Sys2Proof.Machine.execPpsEdge t s
  | .ppsLoss t => Sys2Proof.Machine.execPpsLoss t s
  | .step => Sys2Proof.Machine.execStep s
  | .slewComplete t => Sys2Proof.Machine.execSlewComplete t s
  | .steeringWordStore t => Sys2Proof.Machine.execSteeringWordStore t s
  | .clockTrustChange => Sys2Proof.Machine.execClockTrustChange s
  | .alarm t => Sys2Proof.Machine.execAlarm t s
  | .periodicWake t => Sys2Proof.Machine.execPeriodicWake t s
  | .sramParityError t e => Sys2Proof.Machine.execSramParityError t e s
  | .flashEccError t e => Sys2Proof.Machine.execFlashEccError t e s
  | .flashPatrol t found => Sys2Proof.Machine.execFlashPatrol t found s
  | .mramEccError t e => Sys2Proof.Machine.execMramEccError t e s
  | .logCompromised => Sys2Proof.Machine.execLogCompromised s
  | .supplyGlitch t supply => Sys2Proof.Machine.execSupplyGlitch t supply s
  | .slowExcursion t supply => Sys2Proof.Machine.execSlowExcursion t supply s
  | .monitorArm t supply => Sys2Proof.Machine.execMonitorArm t supply s
  | .tamperInputActive t x => Sys2Proof.Machine.execTamperInputActive t x s
  | .tamperInputInactive t x => Sys2Proof.Machine.execTamperInputInactive t x s
  | .floodgateClose => Sys2Proof.Machine.execFloodgateClose s
  | .linkTraining t l => Sys2Proof.Machine.execLinkTraining t l s
  | .laneErrorRetrain t lanes => Sys2Proof.Machine.execLaneErrorRetrain t lanes s
  | .heartbeatSend x => Sys2Proof.Machine.execHeartbeatSend x s
  | .heartbeatReceived t h => Sys2Proof.Machine.execHeartbeatReceived t h s
  | .heartbeatAcknowledged t => Sys2Proof.Machine.execHeartbeatAcknowledged t s
  | .heartbeatMissed t => Sys2Proof.Machine.execHeartbeatMissed t s
  | .heartbeatUnacknowledged t => Sys2Proof.Machine.execHeartbeatUnacknowledged t s
  | .standDown witness => Sys2Proof.Machine.execStandDown witness s
  | .tandemTakeover witness => Sys2Proof.Machine.execTandemTakeover witness s
  | .prepareFrame t m => Sys2Proof.Machine.execPrepareFrame t m s
  | .journalFrame t m => Sys2Proof.Machine.execJournalFrame t m s
  | .journalAcknowledgement t ack => Sys2Proof.Machine.execJournalAcknowledgement t ack s
  | .frameResend t => Sys2Proof.Machine.execFrameResend t s
  | .checkpointCapture => Sys2Proof.Machine.execCheckpointCapture s
  | .checkpointComplete t c => Sys2Proof.Machine.execCheckpointComplete t c s
  | .claimReceived t term => Sys2Proof.Machine.execClaimReceived t term s
  | .yield => Sys2Proof.Machine.execYield s
  | .handoverExecution => Sys2Proof.Machine.execHandoverExecution s
  | .handoverAbandoned => Sys2Proof.Machine.execHandoverAbandoned s
  | .devInfo sub => Sys2Proof.Machine.execDevInfo sub s
  | .devIdentity sub => Sys2Proof.Machine.execDevIdentity sub s
  | .devEcho sub data => Sys2Proof.Machine.execDevEcho sub data s
  | .powerSetDomains sub p => Sys2Proof.Machine.execPowerSetDomains sub p s
  | .powerSetState sub p => Sys2Proof.Machine.execPowerSetState sub p s
  | .powerStatus sub => Sys2Proof.Machine.execPowerStatus sub s
  | .wheelSetGear sub p => Sys2Proof.Machine.execWheelSetGear sub p s
  | .wheelSetJockey sub p => Sys2Proof.Machine.execWheelSetJockey sub p s
  | .wheelServiceSpoke sub p => Sys2Proof.Machine.execWheelServiceSpoke sub p s
  | .wheelReturnSpoke sub p => Sys2Proof.Machine.execWheelReturnSpoke sub p s
  | .wheelUseReliefSubstitute sub wheel => Sys2Proof.Machine.execWheelUseReliefSubstitute sub wheel s
  | .wheelUseReliefReturn sub wheel => Sys2Proof.Machine.execWheelUseReliefReturn sub wheel s
  | .wheelStatus sub wheel => Sys2Proof.Machine.execWheelStatus sub wheel s
  | .chainLoadBank sub p => Sys2Proof.Machine.execChainLoadBank sub p s
  | .chainSwitchBank sub p => Sys2Proof.Machine.execChainSwitchBank sub p s
  | .chainSetChannel sub p => Sys2Proof.Machine.execChainSetChannel sub p s
  | .chainSetTrip sub p => Sys2Proof.Machine.execChainSetTrip sub p s
  | .chainClearTrip sub channels => Sys2Proof.Machine.execChainClearTrip sub channels s
  | .chainStatus sub channel => Sys2Proof.Machine.execChainStatus sub channel s
  | .meterDefine sub p => Sys2Proof.Machine.execMeterDefine sub p s
  | .meterUndefine sub p => Sys2Proof.Machine.execMeterUndefine sub p s
  | .meterMapCf sub p => Sys2Proof.Machine.execMeterMapCf sub p s
  | .meterMapCfClear sub cf expGen => Sys2Proof.Machine.execMeterMapCfClear sub cf expGen s
  | .meterStatus sub meter => Sys2Proof.Machine.execMeterStatus sub meter s
  | .pqSetChannel sub p => Sys2Proof.Machine.execPqSetChannel sub p s
  | .pqSetMeter sub p => Sys2Proof.Machine.execPqSetMeter sub p s
  | .pqSetCapture sub p => Sys2Proof.Machine.execPqSetCapture sub p s
  | .pqArm sub capture => Sys2Proof.Machine.execPqArm sub capture s
  | .pqDisarm sub capture => Sys2Proof.Machine.execPqDisarm sub capture s
  | .pqTrigger sub capture => Sys2Proof.Machine.execPqTrigger sub capture s
  | .pqRelease sub p => Sys2Proof.Machine.execPqRelease sub p s
  | .pqStatus sub capture => Sys2Proof.Machine.execPqStatus sub capture s
  | .pqStreamOpen sub p => Sys2Proof.Machine.execPqStreamOpen sub p s
  | .pqStreamClose sub stream => Sys2Proof.Machine.execPqStreamClose sub stream s
  | .calRun sub p => Sys2Proof.Machine.execCalRun sub p s
  | .calCommit sub p => Sys2Proof.Machine.execCalCommit sub p s
  | .calDiscard sub target => Sys2Proof.Machine.execCalDiscard sub target s
  | .calStatus sub target => Sys2Proof.Machine.execCalStatus sub target s
  | .calRead sub p => Sys2Proof.Machine.execCalRead sub p s
  | .calAnchor sub => Sys2Proof.Machine.execCalAnchor sub s
  | .calSetReference sub p => Sys2Proof.Machine.execCalSetReference sub p s
  | .tariffStageCalendar sub calendar => Sys2Proof.Machine.execTariffStageCalendar sub calendar s
  | .tariffActivateAt sub at_ => Sys2Proof.Machine.execTariffActivateAt sub at_ s
  | .tariffCancelActivation sub => Sys2Proof.Machine.execTariffCancelActivation sub s
  | .tariffSetMeter sub p => Sys2Proof.Machine.execTariffSetMeter sub p s
  | .tariffStatus sub => Sys2Proof.Machine.execTariffStatus sub s
  | .ledgerReadSigned sub p => Sys2Proof.Machine.execLedgerReadSigned sub p s
  | .ledgerSetDemand sub p => Sys2Proof.Machine.execLedgerSetDemand sub p s
  | .ledgerSetTamper sub p => Sys2Proof.Machine.execLedgerSetTamper sub p s
  | .ledgerClosePeriod sub meters => Sys2Proof.Machine.execLedgerClosePeriod sub meters s
  | .ledgerStatus sub meter => Sys2Proof.Machine.execLedgerStatus sub meter s
  | .polderCreate sub p => Sys2Proof.Machine.execPolderCreate sub p s
  | .polderAssign sub records => Sys2Proof.Machine.execPolderAssign sub records s
  | .polderRelease sub record => Sys2Proof.Machine.execPolderRelease sub record s
  | .polderClose sub => Sys2Proof.Machine.execPolderClose sub s
  | .polderDissolve sub polder => Sys2Proof.Machine.execPolderDissolve sub polder s
  | .polderRekey sub p => Sys2Proof.Machine.execPolderRekey sub p s
  | .polderGetKey sub => Sys2Proof.Machine.execPolderGetKey sub s
  | .polderStatus sub polder => Sys2Proof.Machine.execPolderStatus sub polder s
  | .polderReadAudit sub p => Sys2Proof.Machine.execPolderReadAudit sub p s
  | .eventRead sub max => Sys2Proof.Machine.execEventRead sub max s
  | .eventMask sub p => Sys2Proof.Machine.execEventMask sub p s
  | .eventRoute sub p => Sys2Proof.Machine.execEventRoute sub p s
  | .plcSetLink sub p => Sys2Proof.Machine.execPlcSetLink sub p s
  | .plcSetNetwork sub p => Sys2Proof.Machine.execPlcSetNetwork sub p s
  | .plcSetSpectrum sub p => Sys2Proof.Machine.execPlcSetSpectrum sub p s
  | .plcSend sub p => Sys2Proof.Machine.execPlcSend sub p s
  | .plcRecv sub => Sys2Proof.Machine.execPlcRecv sub s
  | .plcStatus sub => Sys2Proof.Machine.execPlcStatus sub s
  | .timeSetStep sub offset => Sys2Proof.Machine.execTimeSetStep sub offset s
  | .timeSetSlew sub offset => Sys2Proof.Machine.execTimeSetSlew sub offset s
  | .timeTrustMark sub => Sys2Proof.Machine.execTimeTrustMark sub s
  | .timeTrustClear sub => Sys2Proof.Machine.execTimeTrustClear sub s
  | .timeSetAlarm sub p => Sys2Proof.Machine.execTimeSetAlarm sub p s
  | .timeSetPeriodic sub p => Sys2Proof.Machine.execTimeSetPeriodic sub p s
  | .timeStatus sub => Sys2Proof.Machine.execTimeStatus sub s
  | .storeRead sub p => Sys2Proof.Machine.execStoreRead sub p s
  | .storeProgram sub p => Sys2Proof.Machine.execStoreProgram sub p s
  | .storeErase sub p => Sys2Proof.Machine.execStoreErase sub p s
  | .guardUnlockChallenge sub => Sys2Proof.Machine.execGuardUnlockChallenge sub s
  | .guardUnlockResponse sub challengeId sig => Sys2Proof.Machine.execGuardUnlockResponse sub challengeId sig s
  | .guardSetKey sub pub => Sys2Proof.Machine.execGuardSetKey sub pub s
  | .guardSetResponse sub entries => Sys2Proof.Machine.execGuardSetResponse sub entries s
  | .tandemEnable sub partnerId => Sys2Proof.Machine.execTandemEnable sub partnerId s
  | .tandemDisable sub => Sys2Proof.Machine.execTandemDisable sub s
  | .tandemHandover sub => Sys2Proof.Machine.execTandemHandover sub s
  | .tandemStatus sub => Sys2Proof.Machine.execTandemStatus sub s
  | .imageStage sub p => Sys2Proof.Machine.execImageStage sub p s
  | .imageActivateWet sub => Sys2Proof.Machine.execImageActivateWet sub s
  | .imageActivateDry sub => Sys2Proof.Machine.execImageActivateDry sub s
  | .imageConfirm sub => Sys2Proof.Machine.execImageConfirm sub s
  | .imageStatus sub => Sys2Proof.Machine.execImageStatus sub s
  | .checkpointBlockReceived t epoch block data => Sys2Proof.Machine.execCheckpointBlockReceived t epoch block data s
  | .carrierSenseBusy t preamble => Sys2Proof.Machine.execCarrierSenseBusy t preamble s
  | .zeroCrossingEdge t => Sys2Proof.Machine.execZeroCrossingEdge t s
  | .sluiceWindowWrite t port sluice offset data => Sys2Proof.Machine.execSluiceWindowWrite t port sluice offset data s

end Sys2Proof.Machine
end

