-- ==== Sys2Proof/Machine/Entries.lean ====
section
/-! DEFINITION. The submission and the command that a mailbox row carries; every other row carries none. -/
namespace Sys2Proof

/-- The submission and the command of a mailbox row (R351). -/
def Instr.entry : Instr → Option (Submit × Cmd)
  | .cadenceBoundary _ => none
  | .voltageRequestLower => none
  | .settleAllowanceEnd => none
  | .sheddingFall => none
  | .publication _ => none
  | .latePublication _ _ => none
  | .booking => none
  | .cfEdge _ _ => none
  | .cfPulseEnd _ _ => none
  | .fastTripAssert _ _ _ => none
  | .fastTripDeassert _ _ _ => none
  | .domainRiseComplete _ _ => none
  | .domainDrainComplete _ _ => none
  | .domainLoss _ _ _ => none
  | .deferredHushEntry => none
  | .mainSupplyWarning _ => none
  | .powerFailClose _ => none
  | .mainReturn _ => none
  | .porstAssert _ => none
  | .porstRelease _ => none
  | .aonColdStart => none
  | .devWake _ => none
  | .hostPortsReady _ => none
  | .firstSluiceAccess _ _ _ => none
  | .transferBeforeReady _ _ => none
  | .aonVbatChangeover _ => none
  | .aonVddaonReturn _ => none
  | .sliceSelfCheckFailure _ _ _ => none
  | .upShift _ _ _ _ => none
  | .downShift _ _ _ _ => none
  | .dcFreezeEnd _ _ => none
  | .dwellVerdict _ => none
  | .jockeyTakeover _ => none
  | .serviceRecalibrationPhaseEnd _ => none
  | .serviceRecalibrationCommit _ => none
  | .spokeReturn _ => none
  | .returnCheckVerdict _ => none
  | .probationVerdict _ => none
  | .handback _ => none
  | .wheelSettled _ => none
  | .wheelProbationVisitVerdict _ => none
  | .wheelProbationOutcome _ => none
  | .emergencyReturn _ => none
  | .wheelEngineFailure _ _ => none
  | .reliefSubstitution => none
  | .reliefInService => none
  | .plannedEngineHandover => none
  | .reliefEngineFailure _ => none
  | .crossFadeEnd _ _ => none
  | .halfCycleRefresh _ _ _ => none
  | .syntheticRefresh _ _ _ => none
  | .noCycleTimeout _ _ => none
  | .aggregate150Close _ _ => none
  | .tenMinuteTick _ => none
  | .tenSecondFrequencyInterval _ => none
  | .truncatedEvent _ _ => none
  | .captureFreeze _ _ _ => none
  | .streamRow _ _ _ => none
  | .streamConsWrite _ _ _ _ => none
  | .calibrationRunEnd _ _ => none
  | .referenceLegEnd _ _ => none
  | .candidateExpiry _ _ _ => none
  | .referenceRatioMean _ => none
  | .referenceFailure _ _ => none
  | .sealChange _ _ => none
  | .calendarActivation _ => none
  | .deferredCalendarActivation _ => none
  | .demandSubintervalClose _ => none
  | .billingDateClose _ => none
  | .deferredBillingDateClose _ => none
  | .tamperCriterionStart _ _ => none
  | .tamperCriterionEnd _ _ => none
  | .readingComposition _ => none
  | .readingSigned _ => none
  | .doorbell _ _ _ _ => none
  | .refusalCompletion _ => none
  | .completionAcknowledge _ _ _ _ => none
  | .deferredCompletionPost _ _ => none
  | .lockstepMismatch _ => none
  | .wetRestartComplete _ _ => none
  | .wetTrialExpiry => none
  | .badInstruction _ _ _ => none
  | .unalignedAddress _ _ _ => none
  | .blockedAccess _ _ _ _ => none
  | .registerWrite _ _ _ _ => none
  | .hptSlstatRead _ _ _ => none
  | .hptStatRead _ _ _ => none
  | .sysOccStatsRead _ _ => none
  | .evtStatRead _ _ _ => none
  | .evtSeqWrite _ _ _ _ => none
  | .evtCtrlWrite _ _ _ => none
  | .evtCtrlRead _ _ => none
  | .evtModeWrite _ _ _ => none
  | .rtcLoRead _ _ _ => none
  | .rtcWakeRead _ _ => none
  | .parCtrlWrite _ _ _ => none
  | .parRawWrite _ _ => none
  | .parRawRead _ _ => none
  | .parCheckedRead _ _ => none
  | .parScrubPass _ _ => none
  | .parOpOverlap _ _ _ => none
  | .parOperationComplete _ => none
  | .parStatRead _ _ => none
  | .whlTestCfgWrite _ _ _ _ => none
  | .wheelTestStart _ _ _ => none
  | .wheelTestClear _ _ _ => none
  | .whlTestCtrlRead _ _ _ => none
  | .wheelTestDone _ _ => none
  | .broadcastWrite _ _ _ _ => none
  | .broadcastRead _ _ _ => none
  | .whlBstatRead _ _ => none
  | .frameReceived _ _ => none
  | .sackTransmit _ => none
  | .sackReceived _ _ => none
  | .noSack _ => none
  | .priorityResolution _ _ => none
  | .contentionSlot _ _ => none
  | .extendedGapEnd _ => none
  | .toneMapIssue _ _ _ => none
  | .toneMapExpiry _ _ => none
  | .beaconSend _ => none
  | .searchTimeout _ => none
  | .beaconLockLoss _ => none
  | .routeAdvertisement _ => none
  | .routeExpiry _ => none
  | .deliveryTimeout _ => none
  | .ppsEdge _ => none
  | .ppsLoss _ => none
  | .step => none
  | .slewComplete _ => none
  | .steeringWordStore _ => none
  | .clockTrustChange => none
  | .alarm _ => none
  | .periodicWake _ => none
  | .sramParityError _ _ => none
  | .flashEccError _ _ => none
  | .flashPatrol _ _ => none
  | .mramEccError _ _ => none
  | .logCompromised => none
  | .supplyGlitch _ _ => none
  | .slowExcursion _ _ => none
  | .monitorArm _ _ => none
  | .tamperInputActive _ _ => none
  | .tamperInputInactive _ _ => none
  | .floodgateClose => none
  | .linkTraining _ _ => none
  | .laneErrorRetrain _ _ => none
  | .heartbeatSend _ => none
  | .heartbeatReceived _ _ => none
  | .heartbeatAcknowledged _ => none
  | .heartbeatMissed _ => none
  | .heartbeatUnacknowledged _ => none
  | .standDown _ => none
  | .tandemTakeover _ => none
  | .prepareFrame _ _ => none
  | .journalFrame _ _ => none
  | .journalAcknowledgement _ _ => none
  | .frameResend _ => none
  | .checkpointCapture => none
  | .checkpointComplete _ _ => none
  | .claimReceived _ _ => none
  | .yield => none
  | .handoverExecution => none
  | .handoverAbandoned => none
  | .devInfo sub => some (sub, .devInfo)
  | .devIdentity sub => some (sub, .devIdentity)
  | .devEcho sub data => some (sub, .devEcho data)
  | .powerSetDomains sub p => some (sub, .powerSetDomains p)
  | .powerSetState sub p => some (sub, .powerSetState p)
  | .powerStatus sub => some (sub, .powerStatus)
  | .wheelSetGear sub p => some (sub, .wheelSetGear p)
  | .wheelSetJockey sub p => some (sub, .wheelSetJockey p)
  | .wheelServiceSpoke sub p => some (sub, .wheelServiceSpoke p)
  | .wheelReturnSpoke sub p => some (sub, .wheelReturnSpoke p)
  | .wheelUseReliefSubstitute sub wheel => some (sub, .wheelUseRelief wheel 1)
  | .wheelUseReliefReturn sub wheel => some (sub, .wheelUseRelief wheel 0)
  | .wheelStatus sub wheel => some (sub, .wheelStatus wheel)
  | .chainLoadBank sub p => some (sub, .chainLoadBank p)
  | .chainSwitchBank sub p => some (sub, .chainSwitchBank p)
  | .chainSetChannel sub p => some (sub, .chainSetChannel p)
  | .chainSetTrip sub p => some (sub, .chainSetTrip p)
  | .chainClearTrip sub channels => some (sub, .chainClearTrip channels)
  | .chainStatus sub channel => some (sub, .chainStatus channel)
  | .meterDefine sub p => some (sub, .meterDefine p)
  | .meterUndefine sub p => some (sub, .meterUndefine p)
  | .meterMapCf sub p => some (sub, .meterMapCf p)
  | .meterMapCfClear sub cf expGen => some (sub, .meterMapCf ⟨cf, 0, 0xFF, 0, 0, expGen⟩)
  | .meterStatus sub meter => some (sub, .meterStatus meter)
  | .pqSetChannel sub p => some (sub, .pqSetChannel p)
  | .pqSetMeter sub p => some (sub, .pqSetMeter p)
  | .pqSetCapture sub p => some (sub, .pqSetCapture p)
  | .pqArm sub capture => some (sub, .pqArm capture 1)
  | .pqDisarm sub capture => some (sub, .pqArm capture 0)
  | .pqTrigger sub capture => some (sub, .pqTrigger capture)
  | .pqRelease sub p => some (sub, .pqRelease p)
  | .pqStatus sub capture => some (sub, .pqStatus capture)
  | .pqStreamOpen sub p => some (sub, .pqStreamOpen p)
  | .pqStreamClose sub stream => some (sub, .pqStreamClose stream)
  | .calRun sub p => some (sub, .calRun p)
  | .calCommit sub p => some (sub, .calCommit p)
  | .calDiscard sub target => some (sub, .calDiscard target)
  | .calStatus sub target => some (sub, .calStatus target)
  | .calRead sub p => some (sub, .calRead p)
  | .calAnchor sub => some (sub, .calAnchor)
  | .calSetReference sub p => some (sub, .calSetReference p)
  | .tariffStageCalendar sub calendar => some (sub, .tariffStageCalendar calendar)
  | .tariffActivateAt sub at_ => some (sub, .tariffActivateAt at_)
  | .tariffCancelActivation sub => some (sub, .tariffActivateAt 0)
  | .tariffSetMeter sub p => some (sub, .tariffSetMeter p)
  | .tariffStatus sub => some (sub, .tariffStatus)
  | .ledgerReadSigned sub p => some (sub, .ledgerReadSigned p)
  | .ledgerSetDemand sub p => some (sub, .ledgerSetDemand p)
  | .ledgerSetTamper sub p => some (sub, .ledgerSetTamper p)
  | .ledgerClosePeriod sub meters => some (sub, .ledgerClosePeriod meters)
  | .ledgerStatus sub meter => some (sub, .ledgerStatus meter)
  | .polderCreate sub p => some (sub, .polderCreate p)
  | .polderAssign sub records => some (sub, .polderAssign records.length records)
  | .polderRelease sub record => some (sub, .polderRelease record)
  | .polderClose sub => some (sub, .polderClose)
  | .polderDissolve sub polder => some (sub, .polderDissolve polder)
  | .polderRekey sub p => some (sub, .polderRekey p)
  | .polderGetKey sub => some (sub, .polderGetKey)
  | .polderStatus sub polder => some (sub, .polderStatus polder)
  | .polderReadAudit sub p => some (sub, .polderReadAudit p)
  | .eventRead sub max => some (sub, .eventRead max)
  | .eventMask sub p => some (sub, .eventMask p)
  | .eventRoute sub p => some (sub, .eventRoute p)
  | .plcSetLink sub p => some (sub, .plcSetLink p)
  | .plcSetNetwork sub p => some (sub, .plcSetNetwork p)
  | .plcSetSpectrum sub p => some (sub, .plcSetSpectrum p)
  | .plcSend sub p => some (sub, .plcSend p)
  | .plcRecv sub => some (sub, .plcRecv)
  | .plcStatus sub => some (sub, .plcStatus)
  | .timeSetStep sub offset => some (sub, .timeSet ⟨0, offset⟩)
  | .timeSetSlew sub offset => some (sub, .timeSet ⟨1, offset⟩)
  | .timeTrustMark sub => some (sub, .timeTrust 0)
  | .timeTrustClear sub => some (sub, .timeTrust 1)
  | .timeSetAlarm sub p => some (sub, .timeSetAlarm p)
  | .timeSetPeriodic sub p => some (sub, .timeSetPeriodic p)
  | .timeStatus sub => some (sub, .timeStatus)
  | .storeRead sub p => some (sub, .storeRead p)
  | .storeProgram sub p => some (sub, .storeProgram p)
  | .storeErase sub p => some (sub, .storeErase p)
  | .guardUnlockChallenge sub => some (sub, .guardUnlock ⟨0, 0, []⟩)
  | .guardUnlockResponse sub challengeId sig => some (sub, .guardUnlock ⟨1, challengeId, sig⟩)
  | .guardSetKey sub pub => some (sub, .guardSetKey pub)
  | .guardSetResponse sub entries => some (sub, .guardSetResponse ⟨entries.length, entries⟩)
  | .tandemEnable sub partnerId => some (sub, .tandemEnable ⟨1, partnerId⟩)
  | .tandemDisable sub => some (sub, .tandemEnable ⟨0, 0⟩)
  | .tandemHandover sub => some (sub, .tandemHandover)
  | .tandemStatus sub => some (sub, .tandemStatus)
  | .imageStage sub p => some (sub, .imageStage p)
  | .imageActivateWet sub => some (sub, .imageActivate 0)
  | .imageActivateDry sub => some (sub, .imageActivate 1)
  | .imageConfirm sub => some (sub, .imageConfirm)
  | .imageStatus sub => some (sub, .imageStatus)
  | .checkpointBlockReceived _ _ _ _ => none
  | .carrierSenseBusy _ _ => none
  | .zeroCrossingEdge _ => none
  | .sluiceWindowWrite _ _ _ _ _ => none

end Sys2Proof
end

