-- ==== Sys2Proof/Safety.lean ====
section
/-! DEFINITION. What counts as a safe state and a safe run, and what it takes for a command entry to be accepted: the terms the
claims use. -/
namespace Sys2Proof.Machine

/-- A state in order: memory in its one canonical form, and the present instant inside the open cadence. -/
def State.Inv (s : State) : Prop := s.mem.wf = true ∧ s.time.off < cadenceClocks

/-- A step completes: it answers a next state. -/
def Completes (s : State) : Prop := ∃ t, step s = .next t

/-- `n` steps from a state all complete. -/
def Safe : Nat → State → Prop
  | 0, _ => True
  | n + 1, s => ∃ t, step s = .next t ∧ Safe n t

/-- The same state but for the commands that wait. -/
def State.runOn (s : State) (rest : List Instr) : State := { s with pending := rest }

/-! ## Acceptance (R335, R349, R357, R358) -/

/-- The command as it holds its ticket: its entry has been taken at the present instant. -/
def ticketOf (x : Submit) (c : Cmd) (s : State) : Held :=
  let e := entryOf x c s
  { sluice := x.sluice, polder := s.sluiceHolder x.sluice, port := x.port, handle := (s.allocate x.sluice).getD 0xFFFF
    cindex := (s.sluice x.sluice).taken.toNat, nonce := x.nonce, tag := x.tag, roff := x.roff, rmax := x.rmax, env := e.env
    order := s.out.count }

/-- The state in which the entry has been taken and its ticket is held. -/
def ticketed (x : Submit) (c : Cmd) (s : State) : State :=
  let t := s.modSluice x.sluice fun q => { q with taken := q.taken + 1 }
  { t with out := { t.out with count := t.out.count + 1, held := t.out.held ++ [ticketOf x c s] } }

/-- The other outstanding commands of the polder. -/
def othersOf (x : Submit) (c : Cmd) (s : State) : List Held :=
  let h := ticketOf x c s
  (ticketed x c s).out.held.filter fun y => y.polder == h.polder && y.order != h.order

/-- The doorbell is observed, a ticket is free, and no reason of R335 refuses the entry. -/
def unrefused (x : Submit) (c : Cmd) (s : State) : Bool :=
  s.observes x.port x.sluice && (s.allocate x.sluice).isSome
    && (refusalOf (ticketOf x c s).polder (entryOf x c s) (ticketed x c s)).isNone

/-- Checks 3 to 5 of R358 pass: authority, journal, nonce, lengths. -/
def wellSubmitted (x : Submit) (c : Cmd) (s : State) : Bool :=
  let h := ticketOf x c s
  let u := ticketed x c s
  (!c.authority || u.acceptsAuthority) && !u.journaled h.polder h.nonce
    && !(h.nonce != 0 && (othersOf x c s).any fun y => y.nonce == h.nonce)
    && c.sizeOk && decide (x.roff + x.rmax ≤ 0x8000) && resultFits h c && x.roff % 8 == 0

/-- An entry taken at the present instant is accepted (R335, R358): no reason refuses it and every check passes. -/
def accepted (x : Submit) (c : Cmd) (s : State) : Bool :=
  let u := ticketed x c s
  unrefused x c s && wellSubmitted x c s
    && judge (ticketOf x c s).polder c false [] (othersOf x c s).isEmpty u == .ok
    && !floodgated c u && (!sealGated c u || u.seals.open_)

/-- The staged form of an accepted command (R362). -/
def stagedOf (x : Submit) (c : Cmd) (s : State) : Staged :=
  let u := ticketed x c s
  { held := ticketOf x c s, cmd := c, due := u.commitBoundary, at_ := u.now, batch := 0
    unacked := c.authority && u.tdm.role == .captain }

/-- The device is not the captain of a pair, or the command is no authority command: it is not mirrored before it commits (R521). -/
def unmirrored (c : Cmd) (s : State) : Bool := !(c.authority && s.tdm.role == .captain)

end Sys2Proof.Machine
end

