-- ==== Sys2Proof/WellFormed.lean ====
section
/-! DEFINITION. Well-formed commands: every number fits the field that carries it and names a thing that exists, every list has
the length of its layout. A command that is not well formed has a meaning all the same; its encoding does not exist. -/
namespace Sys2Proof
open Sys2Proof.Machine

/-! ## The checks -/

/-- A number fits `n` bytes. -/
def fits (n v : Nat) : Bool := decide (v < 256 ^ n)
/-- A signed number fits `n` bytes in two's complement. -/
def fitsInt (n : Nat) (v : Int) : Bool := decide (-(256 ^ n / 2 : Nat) ≤ v) && decide (v < (256 ^ n / 2 : Nat))
/-- An instant lies in the open cadence. -/
def instantOk (t : Nat) : Bool := decide (t < cadenceClocks)
/-- Host ports 0 and 1. -/
def portOk (n : Nat) : Bool := decide (n < 2)
/-- Sluices SL00 to SL31. -/
def sluiceOk (n : Nat) : Bool := decide (n < 32)
/-- Wheels W00 to W15. -/
def wheelOk (n : Nat) : Bool := decide (n < 16)
/-- Slice positions 0 to 8 of a wheel. -/
def positionOk (n : Nat) : Bool := decide (n < 9)
/-- Channels C000 to C127. -/
def channelOk (n : Nat) : Bool := decide (n < 128)
/-- Gears: 0 cruise, 1 climb. -/
def gearOk (n : Nat) : Bool := decide (n < 2)
/-- Meters M000 to M255. -/
def meterOk (n : Nat) : Bool := decide (n < 256)
/-- Polders P00 to P15. -/
def polderOk (n : Nat) : Bool := decide (n < 16)
/-- Outputs CF00 to CF15. -/
def cfOk (n : Nat) : Bool := decide (n < 16)
/-- Power domains 0 to 32. -/
def domainOk (n : Nat) : Bool := decide (n < 33)
/-- Captures 0 to 31. -/
def captureOk (n : Nat) : Bool := decide (n < 32)
/-- Streams 0 to 15. -/
def streamOk (n : Nat) : Bool := decide (n < 16)
/-- References: BG_A, BG_B, XREF. -/
def referenceOk (n : Nat) : Bool := decide (n < 3)
/-- Supplies with monitors. -/
def supplyOk (n : Nat) : Bool := decide (n < 4)
/-- Tamper inputs. -/
def inputOk (n : Nat) : Bool := decide (n < 8)
/-- Entries of the tamper records of a meter. -/
def entryOk (n : Nat) : Bool := decide (n < 5)
/-- Groups of 32 event sources. -/
def groupOk (n : Nat) : Bool := decide (n < 32)
/-- A byte address of the aperture or of a register. -/
def addressOk (n : Nat) : Bool := decide (n < 2 ^ 32)
/-- A node number of the line network. -/
def nodeOk (n : Nat) : Bool := decide (n < 65536)
/-- Lanes of the tandem link: 1, 2 or 4. -/
def lanesOk (n : Nat) : Bool := n == 1 || n == 2 || n == 4
/-- Whole words. -/
def wordsOk (d : List Byte) : Bool := d.length % 4 == 0

/-! ## Payloads and entries -/

/-- A calibration target. -/
def CalTarget.wf (x : CalTarget) : Bool := fits 1 x.channel && fits 1 x.gear
/-- A demand entry. -/
def DemandEntry.wf (x : DemandEntry) : Bool := fits 1 x.q && fits 1 x.l && fits 1 x.s
/-- A tamper configuration. -/
def TamperCfg.wf (x : TamperCfg) : Bool :=
  fits 4 x.iRev && fits 2 x.bypRel && fits 2 x.neuLow && fits 4 x.iByp && fits 2 x.neuPe && fits 2 x.neuZs && fits 2 x.tOn && fits 2 x.tOff
/-- A guard entry. -/
def GuardEntry.wf (x : GuardEntry) : Bool := fits 2 x.source && fits 1 x.response && fits 1 x.param
/-- A polder record. -/
def PolderRecord.wf (r : PolderRecord) : Bool :=
  fits 1 r.polder && fits 1 r.state && fits 2 r.tickets && fits 2 r.poolShare && fits 2 r.streamShare && fits 4 r.keyGen && fits 4 r.keyId

/-- The fields of a command's payload fit their layout (13). -/
def Cmd.wf : Cmd → Bool
  | .devInfo => true
  | .devIdentity => true
  | .devEcho data => data.length ≤ 32
  | .powerSetDomains _ => true
  | .powerSetState p => fits 1 p.state
  | .powerStatus => true
  | .wheelSetGear p => fits 1 p.policy
  | .wheelSetJockey p => fits 1 p.policy && fits 2 p.rel && fits 2 p.floorPpm
  | .wheelServiceSpoke p => fits 1 p.wheel && fits 1 p.spoke && fits 1 p.action
  | .wheelReturnSpoke p => fits 1 p.wheel && fits 1 p.spoke
  | .wheelUseRelief wheel mode => fits 1 wheel && fits 1 mode
  | .wheelStatus wheel => fits 1 wheel
  | .chainLoadBank p => p.set.length == 1768
  | .chainSwitchBank p => fits 1 p.fade
  | .chainSetChannel p =>
    fits 1 p.channel && fits 1 p.corner && fits 1 p.dcFreeze && fits 1 p.intEnable && fits 1 p.cycleRef
      && fits 1 p.envAttack && fits 1 p.envDecay
  | .chainSetTrip p =>
    fits 1 p.channel && fits 1 p.mode && fits 1 p.count && fits 2 p.release && fitsInt 4 p.tHi && fitsInt 4 p.tLo
  | .chainClearTrip _ => true
  | .chainStatus channel => fits 1 channel
  | .meterDefine p =>
    fits 1 p.meter && fits 1 p.owner && fits 1 p.type && p.vSlot.length == 4 && p.vSlot.all (fits 1)
      && p.iSlot.length == 4 && p.iSlot.all (fits 1) && fits 4 p.iStart && fits 4 p.creep
  | .meterUndefine p => fits 1 p.meter
  | .meterMapCf p => fits 1 p.cf && fits 1 p.meter && fits 1 p.q && fits 1 p.width && fits 4 p.k
  | .meterStatus meter => fits 1 meter
  | .pqSetChannel p =>
    fits 1 p.channel && fits 1 p.enable && fits 1 p.kind && fits 1 p.fNom && fits 1 p.ref && fits 1 p.harm
      && fits 1 p.iharm && fits 2 p.dip && fits 2 p.swell && fits 2 p.intr && fits 2 p.hyst
  | .pqSetMeter p => fits 1 p.meter && fits 1 p.enable
  | .pqSetCapture p =>
    fits 1 p.capture && fits 1 p.format && fits 1 p.nseg && fits 1 p.nchan && fits 2 p.preMs && fits 2 p.postMs
      && p.channels.length == 32 && p.channels.all (fits 1) && p.sources.length == 8 && p.sources.all (fits 1)
      && fits 1 p.flagMeter
  | .pqArm capture arm => fits 1 capture && fits 1 arm
  | .pqTrigger capture => fits 1 capture
  | .pqRelease p => fits 1 p.capture
  | .pqStatus capture => fits 1 capture
  | .pqStreamOpen p => fits 1 p.nchan && fits 1 p.format && fits 1 p.size && p.channels.length == 16 && p.channels.all (fits 1)
  | .pqStreamClose stream => fits 1 stream
  | .calRun p =>
    fits 1 p.kind && fits 1 p.ntarget && fits 1 p.signal && fits 1 p.phaseRef && fits 2 p.n && fits 2 p.tol
      && fits 1 p.index && fits 1 p.meter && fits 1 p.phase && p.targets.length == 16 && p.targets.all CalTarget.wf
  | .calCommit p => fits 1 p.ntarget && p.targets.length == 16 && p.targets.all CalTarget.wf
  | .calDiscard p => fits 1 p.channel && fits 1 p.gear
  | .calStatus p => fits 1 p.channel && fits 1 p.gear
  | .calRead p => fits 1 p.channel && fits 1 p.gear && fits 1 p.path
  | .calAnchor => true
  | .calSetReference p => fits 1 p.preferred && fits 1 p.auto
  | .tariffStageCalendar cal => cal.length == 3936
  | .tariffActivateAt _ => true
  | .tariffSetMeter p => fits 1 p.meter && fits 1 p.mode && fits 1 p.rate && fits 1 p.rateQ0 && fits 1 p.rateQ1
  | .tariffStatus => true
  | .ledgerReadSigned p => fits 1 p.meter && fits 1 p.snapIndex
  | .ledgerSetDemand p => fits 1 p.meter && p.entries.length == 4 && p.entries.all DemandEntry.wf
  | .ledgerSetTamper p => fits 1 p.meter && p.cfg.wf
  | .ledgerClosePeriod _ => true
  | .ledgerStatus meter => fits 1 meter
  | .polderCreate p => p.record.wf
  | .polderAssign n records => fits 1 n && records.length == n && records.all PolderRecord.wf
  | .polderRelease r => r.wf
  | .polderClose => true
  | .polderDissolve polder => fits 1 polder
  | .polderRekey p => fits 4 p.newKeyGen && p.ephPub.length == 64 && p.wrapped.length == 72
  | .polderGetKey => true
  | .polderStatus polder => fits 1 polder
  | .polderReadAudit p => fits 4 p.fromNo && fits 2 p.count
  | .eventRead max => fits 1 max
  | .eventMask p => fits 1 p.group
  | .eventRoute p => fits 1 p.line
  | .plcSetLink p => fits 1 p.enable && fits 1 p.txMode && fits 1 p.txPhase && fits 1 p.rxMode && fits 1 p.rxPhase
  | .plcSetNetwork p => fits 2 p.node && fits 1 p.role
  | .plcSetSpectrum p =>
    fits 1 p.nnotch && p.notches.length == 16 && (p.notches.all fun x => fits 2 x.1 && fits 2 x.2) && p.psd.length == 206
      && p.psd.all (fitsInt 1)
  | .plcSend p =>
    fits 2 p.dest && fits 1 p.destPolder && fits 1 p.priority && fits 1 p.mode && fits 2 p.dlen && p.data.length == p.dlen
  | .plcRecv => true
  | .plcStatus => true
  | .timeSet p => fits 1 p.mode && fitsInt 8 p.offset
  | .timeTrust action => fits 1 action
  | .timeSetAlarm p => fits 1 p.enable
  | .timeSetPeriodic p => fits 1 p.k && fits 1 p.enable
  | .timeStatus => true
  | .storeRead p => fits 4 p.addr && fits 4 p.len
  | .storeProgram p => fits 4 p.addr && fits 4 p.len && p.data.length == p.len
  | .storeErase p => fits 4 p.addr && fits 4 p.count
  | .guardUnlock p =>
    fits 1 p.step
      && (if p.step = 1 then fits 4 p.challengeId && p.sig.length == 64 else p.challengeId == 0 && p.sig.isEmpty)
  | .guardSetKey pub => pub.length == 64
  | .guardSetResponse p => fits 1 p.n && p.entries.length == p.n && p.entries.all GuardEntry.wf
  | .tandemEnable p => fits 1 p.enable
  | .tandemHandover => true
  | .tandemStatus => true
  | .imageStage p =>
    fits 1 p.kind && fits 4 p.offset
      && p.data.length % 16 == 0 && decide (16 ≤ p.data.length) && decide (p.data.length ≤ 32704)
  | .imageActivate kind => fits 1 kind
  | .imageConfirm => true
  | .imageStatus => true

/-- The header of an entry: its port, sluice, instant and ring fields. -/
def Submit.wf (x : Submit) : Bool :=
  portOk x.port && sluiceOk x.sluice && instantOk x.t && fits 2 x.roff && fits 2 x.rmax
    && (match x.sealing with
      | .clear => true
      | .envelope _ _ polder keyGen _ _ => fits 1 polder && fits 4 keyGen)

/-- A level of the modulator's quantiser (R125, R161). -/
def levelOk (x : Int) : Bool := -8 ≤ x && x ≤ 8

/-- Levels of a publication are levels of the quantiser. -/
def PubIn.wf (p : PubIn) : Bool := p.levels.all fun e => e.2.all levelOk

/-- Levels of fast samples are levels of the quantiser. -/
def TripIn.wf (x : TripIn) : Bool := x.samples.all fun l => l.all levelOk

/-! ## Commands -/

/-- A well-formed command of the block. -/
def Instr.wf : Instr → Bool
  | .cadenceBoundary _ => true
  | .voltageRequestLower => true
  | .settleAllowanceEnd => true
  | .sheddingFall => true
  | .publication p => p.wf
  | .latePublication t p => instantOk t && p.wf
  | .booking => true
  | .cfEdge t cf => instantOk t && cfOk cf
  | .cfPulseEnd t cf => instantOk t && cfOk cf
  | .fastTripAssert t channel x => instantOk t && channelOk channel && x.wf
  | .fastTripDeassert t channel x => instantOk t && channelOk channel && x.wf
  | .domainRiseComplete t domain => instantOk t && domainOk domain
  | .domainDrainComplete t domain => instantOk t && domainOk domain
  | .domainLoss t domain _ => instantOk t && domainOk domain
  | .deferredHushEntry => true
  | .mainSupplyWarning t => instantOk t
  | .powerFailClose _ => true
  | .mainReturn x => instantOk x.t
  | .porstAssert t => instantOk t
  | .porstRelease _ => true
  | .aonColdStart => true
  | .devWake t => instantOk t
  | .hostPortsReady t => instantOk t
  | .firstSluiceAccess t port sluice => instantOk t && portOk port && sluiceOk sluice
  | .transferBeforeReady t port => instantOk t && portOk port
  | .aonVbatChangeover t => instantOk t
  | .aonVddaonReturn t => instantOk t
  | .sliceSelfCheckFailure t wheel x => instantOk t && wheelOk wheel && positionOk x.position && decide (x.back ≤ 32768)
  | .upShift t wheel position _ => instantOk t && wheelOk wheel && positionOk position
  | .downShift t wheel position _ => instantOk t && wheelOk wheel && positionOk position
  | .dcFreezeEnd t channel => instantOk t && channelOk channel
  | .dwellVerdict wheel => wheelOk wheel
  | .jockeyTakeover wheel => wheelOk wheel
  | .serviceRecalibrationPhaseEnd wheel => wheelOk wheel
  | .serviceRecalibrationCommit wheel => wheelOk wheel
  | .spokeReturn wheel => wheelOk wheel
  | .returnCheckVerdict wheel => wheelOk wheel
  | .probationVerdict wheel => wheelOk wheel
  | .handback wheel => wheelOk wheel
  | .wheelSettled wheel => wheelOk wheel
  | .wheelProbationVisitVerdict wheel => wheelOk wheel
  | .wheelProbationOutcome wheel => wheelOk wheel
  | .emergencyReturn wheel => wheelOk wheel
  | .wheelEngineFailure t x => instantOk t && wheelOk x.wheel
  | .reliefSubstitution => true
  | .reliefInService => true
  | .plannedEngineHandover => true
  | .reliefEngineFailure t => instantOk t
  | .crossFadeEnd t wheel => instantOk t && wheelOk wheel
  | .halfCycleRefresh t channel _ => instantOk t && channelOk channel
  | .syntheticRefresh t channel _ => instantOk t && channelOk channel
  | .noCycleTimeout t channel => instantOk t && channelOk channel
  | .aggregate150Close t channel => instantOk t && channelOk channel
  | .tenMinuteTick t => instantOk t
  | .tenSecondFrequencyInterval t => instantOk t
  | .truncatedEvent t channel => instantOk t && channelOk channel
  | .captureFreeze t capture segment => instantOk t && captureOk capture && decide (segment < 16)
  | .streamRow t stream _ => instantOk t && streamOk stream
  | .streamConsWrite t port stream _ => instantOk t && portOk port && streamOk stream
  | .calibrationRunEnd channel gear => channelOk channel && gearOk gear
  | .referenceLegEnd channel gear => channelOk channel && gearOk gear
  | .candidateExpiry t channel gear => instantOk t && channelOk channel && gearOk gear
  | .referenceRatioMean _ => true
  | .referenceFailure t reference => instantOk t && referenceOk reference
  | .sealChange t _ => instantOk t
  | .calendarActivation polder => polderOk polder
  | .deferredCalendarActivation polder => polderOk polder
  | .demandSubintervalClose meter => meterOk meter
  | .billingDateClose polder => polderOk polder
  | .deferredBillingDateClose polder => polderOk polder
  | .tamperCriterionStart meter entry => meterOk meter && entryOk entry
  | .tamperCriterionEnd meter entry => meterOk meter && entryOk entry
  | .readingComposition t => instantOk t
  | .readingSigned t => instantOk t
  | .doorbell t port sluice _ => instantOk t && portOk port && sluiceOk sluice
  | .refusalCompletion t => instantOk t
  | .completionAcknowledge t port sluice _ => instantOk t && portOk port && sluiceOk sluice
  | .deferredCompletionPost t sluice => instantOk t && sluiceOk sluice
  | .lockstepMismatch t => instantOk t
  | .wetRestartComplete t _ => instantOk t
  | .wetTrialExpiry => true
  | .badInstruction t port _ => instantOk t && portOk port
  | .unalignedAddress t port address => instantOk t && portOk port && addressOk address
  | .blockedAccess t port address _ => instantOk t && portOk port && addressOk address
  | .registerWrite t port address data => instantOk t && portOk port && addressOk address && wordsOk data
  | .hptSlstatRead t port sluice => instantOk t && portOk port && sluiceOk sluice
  | .hptStatRead t port _ => instantOk t && portOk port
  | .sysOccStatsRead t port => instantOk t && portOk port
  | .evtStatRead t port group => instantOk t && portOk port && groupOk group
  | .evtSeqWrite t port group _ => instantOk t && portOk port && groupOk group
  | .evtCtrlWrite t port _ => instantOk t && portOk port
  | .evtCtrlRead t port => instantOk t && portOk port
  | .evtModeWrite t port _ => instantOk t && portOk port
  | .rtcLoRead t port _ => instantOk t && portOk port
  | .rtcWakeRead t port => instantOk t && portOk port
  | .parCtrlWrite t port _ => instantOk t && portOk port
  | .parRawWrite t port => instantOk t && portOk port
  | .parRawRead t port => instantOk t && portOk port
  | .parCheckedRead t port => instantOk t && portOk port
  | .parScrubPass t port => instantOk t && portOk port
  | .parOpOverlap t port _ => instantOk t && portOk port
  | .parOperationComplete t => instantOk t
  | .parStatRead t port => instantOk t && portOk port
  | .whlTestCfgWrite t port wheel _ => instantOk t && portOk port && wheelOk wheel
  | .wheelTestStart t port wheel => instantOk t && portOk port && wheelOk wheel
  | .wheelTestClear t port wheel => instantOk t && portOk port && wheelOk wheel
  | .whlTestCtrlRead t port wheel => instantOk t && portOk port && wheelOk wheel
  | .wheelTestDone wheel _ => wheelOk wheel
  | .broadcastWrite t port offset _ => instantOk t && portOk port && addressOk offset
  | .broadcastRead t port offset => instantOk t && portOk port && addressOk offset
  | .whlBstatRead t port => instantOk t && portOk port
  | .frameReceived t f => instantOk t && f.control.length == 12 && f.blocks.length ≤ 12 && f.snr.length == 206
  | .sackTransmit t => instantOk t
  | .sackReceived t k => instantOk t && k.control.length == 12
  | .noSack t => instantOk t
  | .priorityResolution t _ => instantOk t
  | .contentionSlot t _ => instantOk t
  | .extendedGapEnd t => instantOk t
  | .toneMapIssue t node number => instantOk t && nodeOk node && decide (1 ≤ number) && decide (number ≤ 7)
  | .toneMapExpiry t node => instantOk t && nodeOk node
  | .beaconSend t => instantOk t
  | .searchTimeout t => instantOk t
  | .beaconLockLoss t => instantOk t
  | .routeAdvertisement t => instantOk t
  | .routeExpiry t => instantOk t
  | .deliveryTimeout t => instantOk t
  | .ppsEdge t => instantOk t
  | .ppsLoss t => instantOk t
  | .step => true
  | .slewComplete t => instantOk t
  | .steeringWordStore t => instantOk t
  | .clockTrustChange => true
  | .alarm t => instantOk t
  | .periodicWake t => instantOk t
  | .sramParityError t _ => instantOk t
  | .flashEccError t _ => instantOk t
  | .flashPatrol t _ => instantOk t
  | .mramEccError t _ => instantOk t
  | .logCompromised => true
  | .supplyGlitch t supply => instantOk t && supplyOk supply
  | .slowExcursion t supply => instantOk t && supplyOk supply
  | .monitorArm t supply => instantOk t && supplyOk supply
  | .tamperInputActive t x => instantOk t && inputOk x.input
  | .tamperInputInactive t x => instantOk t && inputOk x.input
  | .floodgateClose => true
  | .linkTraining t _ => instantOk t
  | .laneErrorRetrain t lanes => instantOk t && lanesOk lanes
  | .heartbeatSend x => instantOk x.t
  | .heartbeatReceived t _ => instantOk t
  | .heartbeatAcknowledged t => instantOk t
  | .heartbeatMissed t => instantOk t
  | .heartbeatUnacknowledged t => instantOk t
  | .standDown _ => true
  | .tandemTakeover _ => true
  | .prepareFrame t _ => instantOk t
  | .journalFrame t _ => instantOk t
  | .journalAcknowledgement t _ => instantOk t
  | .frameResend t => instantOk t
  | .checkpointCapture => true
  | .checkpointComplete t _ => instantOk t
  | .claimReceived t _ => instantOk t
  | .yield => true
  | .handoverExecution => true
  | .handoverAbandoned => true
  | .devInfo sub => sub.wf && Cmd.wf (.devInfo)
  | .devIdentity sub => sub.wf && Cmd.wf (.devIdentity)
  | .devEcho sub data => sub.wf && Cmd.wf (.devEcho data)
  | .powerSetDomains sub p => sub.wf && Cmd.wf (.powerSetDomains p)
  | .powerSetState sub p => sub.wf && Cmd.wf (.powerSetState p)
  | .powerStatus sub => sub.wf && Cmd.wf (.powerStatus)
  | .wheelSetGear sub p => sub.wf && Cmd.wf (.wheelSetGear p)
  | .wheelSetJockey sub p => sub.wf && Cmd.wf (.wheelSetJockey p)
  | .wheelServiceSpoke sub p => sub.wf && Cmd.wf (.wheelServiceSpoke p)
  | .wheelReturnSpoke sub p => sub.wf && Cmd.wf (.wheelReturnSpoke p)
  | .wheelUseReliefSubstitute sub wheel => sub.wf && Cmd.wf (.wheelUseRelief wheel 1)
  | .wheelUseReliefReturn sub wheel => sub.wf && Cmd.wf (.wheelUseRelief wheel 0)
  | .wheelStatus sub wheel => sub.wf && Cmd.wf (.wheelStatus wheel)
  | .chainLoadBank sub p => sub.wf && Cmd.wf (.chainLoadBank p)
  | .chainSwitchBank sub p => sub.wf && Cmd.wf (.chainSwitchBank p)
  | .chainSetChannel sub p => sub.wf && Cmd.wf (.chainSetChannel p)
  | .chainSetTrip sub p => sub.wf && Cmd.wf (.chainSetTrip p)
  | .chainClearTrip sub channels => sub.wf && Cmd.wf (.chainClearTrip channels)
  | .chainStatus sub channel => sub.wf && Cmd.wf (.chainStatus channel)
  | .meterDefine sub p => sub.wf && Cmd.wf (.meterDefine p)
  | .meterUndefine sub p => sub.wf && Cmd.wf (.meterUndefine p)
  | .meterMapCf sub p => sub.wf && Cmd.wf (.meterMapCf p)
  | .meterMapCfClear sub cf expGen => sub.wf && Cmd.wf (.meterMapCf ⟨cf, 0, 0xFF, 0, 0, expGen⟩)
  | .meterStatus sub meter => sub.wf && Cmd.wf (.meterStatus meter)
  | .pqSetChannel sub p => sub.wf && Cmd.wf (.pqSetChannel p)
  | .pqSetMeter sub p => sub.wf && Cmd.wf (.pqSetMeter p)
  | .pqSetCapture sub p => sub.wf && Cmd.wf (.pqSetCapture p)
  | .pqArm sub capture => sub.wf && Cmd.wf (.pqArm capture 1)
  | .pqDisarm sub capture => sub.wf && Cmd.wf (.pqArm capture 0)
  | .pqTrigger sub capture => sub.wf && Cmd.wf (.pqTrigger capture)
  | .pqRelease sub p => sub.wf && Cmd.wf (.pqRelease p)
  | .pqStatus sub capture => sub.wf && Cmd.wf (.pqStatus capture)
  | .pqStreamOpen sub p => sub.wf && Cmd.wf (.pqStreamOpen p)
  | .pqStreamClose sub stream => sub.wf && Cmd.wf (.pqStreamClose stream)
  | .calRun sub p => sub.wf && Cmd.wf (.calRun p)
  | .calCommit sub p => sub.wf && Cmd.wf (.calCommit p)
  | .calDiscard sub target => sub.wf && Cmd.wf (.calDiscard target)
  | .calStatus sub target => sub.wf && Cmd.wf (.calStatus target)
  | .calRead sub p => sub.wf && Cmd.wf (.calRead p)
  | .calAnchor sub => sub.wf && Cmd.wf (.calAnchor)
  | .calSetReference sub p => sub.wf && Cmd.wf (.calSetReference p)
  | .tariffStageCalendar sub calendar => sub.wf && Cmd.wf (.tariffStageCalendar calendar)
  | .tariffActivateAt sub at_ => sub.wf && Cmd.wf (.tariffActivateAt at_)
  | .tariffCancelActivation sub => sub.wf && Cmd.wf (.tariffActivateAt 0)
  | .tariffSetMeter sub p => sub.wf && Cmd.wf (.tariffSetMeter p)
  | .tariffStatus sub => sub.wf && Cmd.wf (.tariffStatus)
  | .ledgerReadSigned sub p => sub.wf && Cmd.wf (.ledgerReadSigned p)
  | .ledgerSetDemand sub p => sub.wf && Cmd.wf (.ledgerSetDemand p)
  | .ledgerSetTamper sub p => sub.wf && Cmd.wf (.ledgerSetTamper p)
  | .ledgerClosePeriod sub meters => sub.wf && Cmd.wf (.ledgerClosePeriod meters)
  | .ledgerStatus sub meter => sub.wf && Cmd.wf (.ledgerStatus meter)
  | .polderCreate sub p => sub.wf && Cmd.wf (.polderCreate p)
  | .polderAssign sub records => sub.wf && Cmd.wf (.polderAssign records.length records)
  | .polderRelease sub record => sub.wf && Cmd.wf (.polderRelease record)
  | .polderClose sub => sub.wf && Cmd.wf (.polderClose)
  | .polderDissolve sub polder => sub.wf && Cmd.wf (.polderDissolve polder)
  | .polderRekey sub p => sub.wf && Cmd.wf (.polderRekey p)
  | .polderGetKey sub => sub.wf && Cmd.wf (.polderGetKey)
  | .polderStatus sub polder => sub.wf && Cmd.wf (.polderStatus polder)
  | .polderReadAudit sub p => sub.wf && Cmd.wf (.polderReadAudit p)
  | .eventRead sub max => sub.wf && Cmd.wf (.eventRead max)
  | .eventMask sub p => sub.wf && Cmd.wf (.eventMask p)
  | .eventRoute sub p => sub.wf && Cmd.wf (.eventRoute p)
  | .plcSetLink sub p => sub.wf && Cmd.wf (.plcSetLink p)
  | .plcSetNetwork sub p => sub.wf && Cmd.wf (.plcSetNetwork p)
  | .plcSetSpectrum sub p => sub.wf && Cmd.wf (.plcSetSpectrum p)
  | .plcSend sub p => sub.wf && Cmd.wf (.plcSend p)
  | .plcRecv sub => sub.wf && Cmd.wf (.plcRecv)
  | .plcStatus sub => sub.wf && Cmd.wf (.plcStatus)
  | .timeSetStep sub offset => sub.wf && Cmd.wf (.timeSet ⟨0, offset⟩)
  | .timeSetSlew sub offset => sub.wf && Cmd.wf (.timeSet ⟨1, offset⟩)
  | .timeTrustMark sub => sub.wf && Cmd.wf (.timeTrust 0)
  | .timeTrustClear sub => sub.wf && Cmd.wf (.timeTrust 1)
  | .timeSetAlarm sub p => sub.wf && Cmd.wf (.timeSetAlarm p)
  | .timeSetPeriodic sub p => sub.wf && Cmd.wf (.timeSetPeriodic p)
  | .timeStatus sub => sub.wf && Cmd.wf (.timeStatus)
  | .storeRead sub p => sub.wf && Cmd.wf (.storeRead p)
  | .storeProgram sub p => sub.wf && Cmd.wf (.storeProgram p)
  | .storeErase sub p => sub.wf && Cmd.wf (.storeErase p)
  | .guardUnlockChallenge sub => sub.wf && Cmd.wf (.guardUnlock ⟨0, 0, []⟩)
  | .guardUnlockResponse sub challengeId sig => sub.wf && Cmd.wf (.guardUnlock ⟨1, challengeId, sig⟩)
  | .guardSetKey sub pub => sub.wf && Cmd.wf (.guardSetKey pub)
  | .guardSetResponse sub entries => sub.wf && Cmd.wf (.guardSetResponse ⟨entries.length, entries⟩)
  | .tandemEnable sub partnerId => sub.wf && Cmd.wf (.tandemEnable ⟨1, partnerId⟩)
  | .tandemDisable sub => sub.wf && Cmd.wf (.tandemEnable ⟨0, 0⟩)
  | .tandemHandover sub => sub.wf && Cmd.wf (.tandemHandover)
  | .tandemStatus sub => sub.wf && Cmd.wf (.tandemStatus)
  | .imageStage sub p => sub.wf && Cmd.wf (.imageStage p)
  | .imageActivateWet sub => sub.wf && Cmd.wf (.imageActivate 0)
  | .imageActivateDry sub => sub.wf && Cmd.wf (.imageActivate 1)
  | .imageConfirm sub => sub.wf && Cmd.wf (.imageConfirm)
  | .imageStatus sub => sub.wf && Cmd.wf (.imageStatus)
  | .checkpointBlockReceived t _ _ _ => instantOk t
  | .carrierSenseBusy t _ => instantOk t
  | .zeroCrossingEdge t => instantOk t
  | .sluiceWindowWrite t port sluice offset data => instantOk t && portOk port && sluiceOk sluice && addressOk offset && wordsOk data

end Sys2Proof
end

