-- ==== Sys2Proof/Certificates/Slice0/Obligations.lean ====
section
/-! DEFINITION. The statements for the provers. Where a statement speaks of a mailbox command, `accepted` and `recheck` stand for
the checks of R335, R358 and R364. -/
open Sys2Proof Sys2Proof.Machine

/-! ## The block, its queue and its reset -/

/-- A step of a state whose queue has a command in front is that command's effect on the state with the queue's rest. The queue is the model's
own (log 1). -/
def Obligations.StepRunsFrontCommand : Prop :=
  ∀ (c : Instr) (rest : List Instr) (s : State), s.pending = c :: rest → step s = exec c (s.runOn rest)

/-- On an empty queue a step changes nothing; the operation table gives no bits, so no word puts a command into the queue. Both are the model's
choice (log 1). -/
def Obligations.EmptyQueueIdles : Prop :=
  (∀ s : State, s.pending = [] → step s = .next s) ∧
  (∀ nbits w : Nat, decodeTableWord nbits w = none) ∧
  (∀ (s : State) (nbits w : Nat), s.withFetchWord nbits w = s)

/-- No command of the table, with any operands in any state, ends in a fault or a refusal of the model: each answers a next state, and so does
each step. What the device turns away it turns away within its rules (R336, R370). -/
def Obligations.EveryCommandAnswers : Prop :=
  (∀ (i : Instr) (s : State), ∃ t, exec i s = .next t) ∧ (∀ s : State, ∃ t, step s = .next t)

/-- Whatever command runs, the queue of waiting commands is the same after it as before: commands come from outside alone (log 1). -/
def Obligations.CommandsKeepQueue : Prop :=
  ∀ (i : Instr) (s t : State), exec i s = .next t → t.pending = s.pending

/-- At its first power-on, PORST_N low: the RTC counts from zero and the clock is untrusted, every domain but AON is OFF, VDDC_REQ is 0b101,
every fast-trip output is in kickstand and every CF output too, no sluice holds a ticket, memory is clear, and P00 holds SL00 and no keys. Values the spec
does not give for reset are the model's (log 3 to log 15) and no clause here rests on one. -/
def Obligations.FirstPowerOn : Prop :=
  let s := State.reset
  s.time.cad = 0 ∧ s.time.off = 0 ∧ s.trusted = false ∧ s.pwr.porstHigh = false ∧
  (∀ n, 0 < n → n < 33 → (s.dom n).state = .off) ∧ s.domOn 0 = true ∧
  s.fab.vreq = 5 ∧ s.fab.forced = true ∧ s.tripKick = 0xF ∧ s.irqKick = true ∧ (∀ n, (s.cfOut n).kick = true) ∧
  s.out.held = [] ∧ s.out.staged = [] ∧ s.mem = [] ∧
  (s.polder 0).sluices = 1 ∧ (s.polder 0).hasKeys = false ∧ (∀ p, 0 < p → p < 16 → (s.polder p).live = false)

/-- The state at reset has its memory in canonical form and its instant inside the open cadence. -/
def Obligations.ResetInOrder : Prop := State.reset.Inv

/-- From every state in which memory is in its one canonical form (addresses rising, no byte zero listed) and the instant lies before the
next boundary, a step that answers a next state answers one of the same kind. -/
def Obligations.StepKeepsOrder : Prop :=
  ∀ s t : State, s.Inv → step s = .next t → t.Inv

/-! ## The cadence boundary (01) -/

/-- While the device runs, a cadence boundary turns the cadence over and then does its steps in the fixed order: what closed is set aside for its
publication, then handovers, bank switches, every other staged command, the gears they ask for, the step of the timebase, the settings that start
with the cadence, and last the device state and the decision of the domains. A device that does not run keeps time and its alarm, and does nothing
else. Where the model places what R27 does not order is its own choice (log 21). -/
def Obligations.BoundaryInOrder : Prop :=
  (∀ (b : BoundaryIn) (s : State), s.runs = true →
    exec (.cadenceBoundary b) s = .next (
      let before := (s.turn.time.cad - 1) / 125
      let opened := openingStep b (freezePass (closeCadence s.turn.dryRuns s.turn))
      let geared := overTo 16 (fun u w => gearPass w u) (commitStep b (handoverStep b opened))
      let decided := stepOfTime before geared
      let settled := if decided.dryRuns then checkpointPass (tariffPass (meterStarts decided)) else decided
      let last := trialPass (lossPass (stateStep (floodgatePass (startBoundaryPass settled))))
      alarmPass (if last.pwr.pfail then { last with pwr := { last.pwr with pfailClosed := true } } else last))) ∧
  (∀ (b : BoundaryIn) (s : State), s.runs = false → exec (.cadenceBoundary b) s = .next (alarmPass s.turn)) ∧
  (∀ s : State, s.turn.time.cad = s.time.cad + 1 ∧ s.turn.time.bnd = s.time.bnd + 1 ∧ s.turn.time.off = 0 ∧ s.turn.pending = s.pending)

/-- In adaptive mode, at a boundary whose closing cadence's occupancy exceeds 819 the request is raised: by two steps above 972, by one step otherwise,
never above 0b111, and whatever settle allowance is left from an earlier change. -/
def Obligations.RaisedRequest : Prop :=
  ∀ (occ cap : List Nat) (newSecond : Bool) (s : State), s.fab.fixed = false → s.fab.vreq ≤ 7 →
    (s.fab.forced = false ∨ (s.pwr.portsReady = true ∧ s.pwr.dryOk = true)) → 819 < (deviceOcc occ).1 →
    (fabricPass occ cap newSecond s).fab.vreq = Nat.min 7 (s.fab.vreq + if 972 < (deviceOcc occ).1 then 2 else 1)

/-- Rows VOLTAGE_REQUEST_LOWER, SETTLE_ALLOWANCE_END and SHEDDING_FALL, which take place at boundaries only. A request is lowered by one step, in adaptive mode above code 0, after 125 cadences below
50 %, outside a settle allowance, where the occupancy predicted at the lower step is below 717, and the new settle allowance begins; the
allowance ends when its cadences are over; the shedding level falls by one after 125 cadences below 75 %. Nothing else changes, and elsewhere than at a boundary nothing does. A full start forces the request at 0b101; a boundary before the host ports are ready leaves it so,
and at the first boundary after they are ready, with a dry image that runs, it is forced no more. In kickstand the request is 0b101.
How AVG rounds, and that a fall restarts the count of 125, are the model's choices (log 114). -/
def Obligations.FabricRows : Prop :=
  (∀ s : State, s.time.off = 0 → s.fab.forced = false → s.fab.fixed = false → 0 < s.fab.vreq → 125 ≤ s.fab.lowRun → s.fab.settleLeft = 0 →
    s.fab.avg * guaranteed s.fab.vreq / guaranteed (s.fab.vreq - 1) < 717 →
    exec .voltageRequestLower s = .next { s with fab := { s.fab with
      vreq := s.fab.vreq - 1, lowRun := 0, settleLeft := Nat.max 1 s.fab.settle + 1 } }) ∧
  (∀ s : State, s.time.off = 0 → s.fab.settleLeft = 1 → exec .settleAllowanceEnd s = .next { s with fab := { s.fab with settleLeft := 0 } }) ∧
  (∀ s : State, s.time.off = 0 → 125 ≤ s.fab.shedRun → 0 < s.fab.shed →
    exec .sheddingFall s = .next { s with fab := { s.fab with shed := s.fab.shed - 1, shedRun := 0 } }) ∧
  (∀ s : State, s.time.off ≠ 0 →
    exec .voltageRequestLower s = .next s ∧ exec .settleAllowanceEnd s = .next s ∧ exec .sheddingFall s = .next s) ∧
  (∀ (r : StartIn) (s : State), (fullStart r s).fab.forced = true ∧ (fullStart r s).fab.vreq = 5) ∧
  (∀ s : State, (kickAll s).fab.forced = true ∧ (kickAll s).fab.vreq = 5) ∧
  (∀ (occ cap : List Nat) (newSecond : Bool) (s : State), s.fab.forced = true → (s.pwr.portsReady = false ∨ s.pwr.dryOk = false) →
    (fabricPass occ cap newSecond s).fab.forced = true ∧ (fabricPass occ cap newSecond s).fab.vreq = s.fab.vreq) ∧
  (∀ (occ cap : List Nat) (newSecond : Bool) (s : State), s.pwr.portsReady = true → s.pwr.dryOk = true →
    (fabricPass occ cap newSecond s).fab.forced = false)

/-! ## Mailbox commands: entries, refusals, acceptance (11, 12) -/

/-- Every mailbox row: where the doorbell is not observed (the host ports are not ready or sleep, a power-fail sequence runs, the port or the sluice does
not exist, or no polder holds the sluice) only time goes on to the row's instant. -/
def Obligations.UnobservedDoorbell : Prop :=
  ∀ (i : Instr) (x : Submit) (c : Cmd) (s : State), i.entry = some (x, c) →
    (s.pwr.portsReady = false ∨ s.pwr.pfail = true ∨ 2 ≤ x.port ∨ 32 ≤ x.sluice ∨ ∀ p, p < 16 → (s.polder p).sluices.getLsbD x.sluice = false) →
    exec i s = .next (s.advance x.t)

/-- Every mailbox row: where the doorbell is observed and neither a reserved nor a pool ticket is free, the entry is taken and completes ST_BUSY_RETRY with ticket
0xFFFF in clear; it is counted, no ticket is held and nothing is staged. -/
def Obligations.NoTicketBusyRetry : Prop :=
  ∀ (i : Instr) (x : Submit) (c : Cmd) (s : State), i.entry = some (x, c) →
    (s.advance x.t).observes x.port x.sluice = true → (s.advance x.t).allocate x.sluice = none →
    let t := s.advance x.t
    let u := t.modSluice x.sluice fun q => { q with taken := q.taken + 1 }
    let k : Completion := {
      sluice := x.sluice, ticket := 0xFFFF, cindex := (t.sluice x.sluice).taken.toNat, nonce := x.nonce, tag := x.tag, status := stBusyRetry
      final := true, sealed := false, roff := x.roff, result := [], order := some t.out.count }
    exec i s = .next ({ u with out := { u.out with count := u.out.count + 1 } }.postCompletion k)

/-- Every mailbox row: an entry that a reason of R335 refuses holds a ticket, is written to its polder's audit log and counted there, and its completion falls due
256 us after the doorbell; the command has no effect and nothing is posted or staged. Row REFUSAL_COMPLETION: a refusal that has fallen due,
the only one, is posted ST_REFUSED in clear where its ticket is still held; one that is not due stays. -/
def Obligations.RefusedEntry : Prop :=
  (∀ (i : Instr) (x : Submit) (c : Cmd) (s : State) (r : Nat), i.entry = some (x, c) →
    let t := s.advance x.t
    let h := ticketOf x c t
    t.observes x.port x.sluice = true → (t.allocate x.sluice).isSome = true →
    refusalOf h.polder (entryOf x c t) (ticketed x c t) = some r →
    ∃ u, exec i s = .next u ∧
      u.out = { (ticketed x c t).out with refusals := t.out.refusals ++ [{ held := h, due := t.now + 12583 }] } ∧
      (u.polder h.polder).refusals = (t.polder h.polder).refusals + 1 ∧
      (∀ p, p ≠ h.polder → u.polder p = t.polder p) ∧
      u.mem = s.mem ∧ u.pwr = s.pwr ∧ u.whl = s.whl ∧ u.chan = s.chan ∧ u.mtr = s.mtr ∧ u.led = s.led ∧ u.time = t.time ∧ u.evt = s.evt) ∧
  (∀ (t : Nat) (s : State) (r : RefusalDue), s.out.refusals = [r] → (s.out.held.any fun h => h.order == r.held.order) = true →
    r.due ≤ (s.advance t).now →
    exec (.refusalCompletion t) s = .next (({ s.advance t with out := { s.out with refusals := [] } } : State).finish r.held stRefused [] false)) ∧
  (∀ (t : Nat) (s : State), (∀ r ∈ s.out.refusals, (s.advance t).now < r.due) → exec (.refusalCompletion t) s = .next (s.advance t)) ∧
  (∀ (h : Held) (s : State), (s.finish h stRefused [] false) = s.postCompletion { (completionOf h stRefused true []) with sealed := false, status := stRefused })

/-- Rows POWER_SET_DOMAINS, POWER_SET_STATE, WHEEL_SET_GEAR, WHEEL_SET_JOCKEY, WHEEL_SERVICE_SPOKE, WHEEL_RETURN_SPOKE, WHEEL_USE_RELIEF_SUBSTITUTE and _RETURN,
CHAIN_SWITCH_BANK, CHAIN_SET_CHANNEL, CHAIN_SET_TRIP, METER_DEFINE, METER_UNDEFINE, METER_MAP_CF and _CLEAR, PQ_SET_CHANNEL, PQ_SET_METER, CAL_RUN, CAL_COMMIT, CAL_ANCHOR,
CAL_SET_REFERENCE, TARIFF_SET_METER, LEDGER_SET_DEMAND, LEDGER_SET_TAMPER, LEDGER_CLOSE_PERIOD, POLDER_CREATE, _ASSIGN, _RELEASE, _CLOSE, _DISSOLVE, TIME_SET_STEP, _SLEW,
TIME_TRUST_MARK, _CLEAR, GUARD_SET_RESPONSE, TANDEM_ENABLE, _DISABLE, _HANDOVER and IMAGE_ACTIVATE_WET, _DRY. An accepted entry holds a ticket and is staged for the first
boundary at least 1 ms after its doorbell, and the interim completion ST_STAGED carries that boundary's cadence number; its effect waits for the boundary. A captain's
authority command is mirrored first and its interim completion waits for the partner. -/
def Obligations.AcceptedIsStaged : Prop :=
  ∀ (i : Instr) (x : Submit) (c : Cmd) (s : State), i.entry = some (x, c) → c.staged = true →
    let t := s.advance x.t
    let u := ticketed x c t
    let g := stagedOf x c t
    s.time.off < cadenceClocks → accepted x c t = true →
    (g.due = t.time.bnd + 1 ∨ g.due = t.time.bnd + 2) ∧ t.now + 49152 ≤ g.due * cadenceClocks ∧
    (unmirrored c t = true → exec i s = .next (
      ({ u with out := { u.out with staged := u.out.staged ++ [g] } } : State).postCompletion
        (completionOf g.held stStaged false (leBytes 8 (t.time.cad + (g.due - t.time.bnd)))))) ∧
    (unmirrored c t = false → exec i s = .next (
      sendFrame g.held.order true { u with out := { u.out with staged := u.out.staged ++ [g] } }))

/-- Rows DEV_*, POWER_STATUS, WHEEL_STATUS, CHAIN_LOAD_BANK, CHAIN_CLEAR_TRIP, CHAIN_STATUS, METER_STATUS, PQ_SET_CAPTURE, PQ_ARM, PQ_TRIGGER, PQ_RELEASE, PQ_STATUS, PQ_STREAM_*,
CAL_DISCARD, CAL_STATUS, CAL_READ, TARIFF_STAGE_CALENDAR, TARIFF_ACTIVATE_AT, TARIFF_STATUS, LEDGER_STATUS, POLDER_REKEY, POLDER_GET_KEY, POLDER_STATUS, POLDER_READ_AUDIT, EVENT_*, PLC_* but
PLC_SEND, TIME_SET_ALARM, TIME_SET_PERIODIC, TIME_STATUS, STORE_*, GUARD_UNLOCK_*, GUARD_SET_KEY, TANDEM_STATUS, IMAGE_STAGE, IMAGE_CONFIRM, IMAGE_STATUS. An accepted entry, not mirrored, has its effect
on the spot, its nonce is journaled in the same step, what it writes of a flash region held twice is to be stored, and it completes ST_OK with its result. What `applyNow` is for each command the statements of its family say. -/
def Obligations.AcceptedRunsNow : Prop :=
  ∀ (i : Instr) (x : Submit) (c : Cmd) (s : State), i.entry = some (x, c) → c.staged = false →
    (∀ r, c ≠ .plcSend r) → (∀ r, c ≠ .ledgerReadSigned r) →
    let t := s.advance x.t
    let h := ticketOf x c t
    let r := applyNow h.polder c (ticketed x c t)
    accepted x c t = true → unmirrored c t = true →
    exec i s = .next (((r.2.stored c).journal h.polder x.nonce).finish h stOk r.1 (isRekey c))

/-- Every mailbox row whose entry is taken and not refused: authority without the captain's right and a nonce still outstanding complete ST_BUSY_RETRY, a journaled nonce
ST_ALREADY_DONE, a length ST_BAD_LENGTH, an argument the status of its check, the floodgate ST_FLOODGATE, the seal ST_SEAL_CLOSED: in that order, the first that holds. Nothing else of
the command happens, but that an answer to the current unlock challenge uses the challenge up. -/
def Obligations.FailedChecksComplete : Prop :=
  ∀ (i : Instr) (x : Submit) (c : Cmd) (s : State), i.entry = some (x, c) →
    let t := s.advance x.t
    let h := ticketOf x c t
    let u := ticketed x c t
    unrefused x c t = true →
    let ends (status : Nat) (result : List Byte) : Prop := exec i s = .next (u.finish h status result false)
    (c.authority = true ∧ u.acceptsAuthority = false → ends stBusyRetry []) ∧
    (c.authority = false ∨ u.acceptsAuthority = true →
      (u.journaled h.polder x.nonce = true → ends stAlreadyDone []) ∧
      (u.journaled h.polder x.nonce = false →
        (x.nonce ≠ 0 ∧ ((othersOf x c t).any fun y => y.nonce == x.nonce) = true → ends stBusyRetry []) ∧
        (x.nonce = 0 ∨ ((othersOf x c t).any fun y => y.nonce == x.nonce) = false →
          (c.sizeOk = false ∨ 0x8000 < x.roff + x.rmax ∨ resultFits h c = false → ends stBadLength []) ∧
          (c.sizeOk = true → x.roff + x.rmax ≤ 0x8000 → resultFits h c = true → x.roff % 8 ≠ 0 → ends stBadArgument []) ∧
          (c.sizeOk = true → x.roff + x.rmax ≤ 0x8000 → resultFits h c = true → x.roff % 8 = 0 →
            (∀ n, judge h.polder c false [] (othersOf x c t).isEmpty u = .status n →
              exec i s = .next ((spendChallenge c u).finish h n [] false) ∧ ((∀ r, c ≠ .guardUnlock r) → spendChallenge c u = u)) ∧
            (∀ f n l, judge h.polder c false [] (othersOf x c t).isEmpty u = .group f n l → ends stGroupAborted (abortResult f n l)) ∧
            (judge h.polder c false [] (othersOf x c t).isEmpty u = .ok →
              (floodgated c u = true → ends stFloodgate []) ∧
              (floodgated c u = false → sealGated c u = true → u.seals.open_ = false → ends stSealClosed []))))))

/-- At its boundary a staged command that passes its checks again has its effect and its nonce is journaled, and where its ticket is still held it completes ST_OK; one that fails completes with the
status of the failure, which for a refusal is audited, and has no effect. A wet activation that commits completes nothing: its restart discards its ticket. Where one command that is no bank switch
is due, and the partner's captain has prepared nothing, step 3 of R27 commits that command and no other; where none is due nothing commits. -/
def Obligations.StagedCommits : Prop :=
  (∀ (b : BoundaryIn) (done : List Nat) (g : Staged) (s : State),
    let u : State := { s with out := { s.out with staged := s.out.staged.filter fun x => x.held.order != g.held.order } }
    recheck g done u = none → activates 0 g.cmd = false → activates 1 g.cmd = false →
    commitOne b done g s =
      (((commitEffect b false g.held.polder g.cmd (u.journal g.held.polder g.held.nonce)).stored g.cmd).finishHeld g.held stOk [], true)) ∧
  (∀ (b : BoundaryIn) (done : List Nat) (g : Staged) (s : State) (status : Nat) (result : List Byte) (reason : Nat),
    let u : State := { s with out := { s.out with staged := s.out.staged.filter fun x => x.held.order != g.held.order } }
    recheck g done u = some (status, result, reason) →
    commitOne b done g s =
      ((if status = stRefused then u.auditRefusal g.held reason g.cmd.opcode else u).finishHeld g.held status result, false)) ∧
  (∀ (b : BoundaryIn) (done : List Nat) (g : Staged) (s : State),
    let u : State := { s with out := { s.out with staged := s.out.staged.filter fun x => x.held.order != g.held.order } }
    recheck g done u = none → activates 0 g.cmd = true →
    commitOne b done g s = (wetRestart g.held.polder (u.journal g.held.polder g.held.nonce).idleWet true (u.journal g.held.polder g.held.nonce), true)) ∧
  (∀ (b : BoundaryIn) (g : Staged) (s : State), s.out.staged = [g] → g.due ≤ s.b → switches g.cmd = [] → s.tdm.mirrors = [] →
    ∃ recs, commitStep b s = commitRecord recs [] (commitOne b [] g s).1) ∧
  (∀ (b : BoundaryIn) (s : State), (∀ g ∈ s.out.staged, s.b < g.due) → s.tdm.mirrors = [] → commitStep b s = commitRecord [] [] s)

/-- For every well-formed mailbox command the bytes of its payload, laid out as the catalogue says, are read back as that command, with every field at every value its width admits; their
length is the catalogue's and their reserved bytes are zero. -/
def Obligations.PayloadRoundTrip : Prop :=
  ∀ c : Cmd, c.wf = true → parseCmd c.opcode c.payload = some c ∧ lengthOk c.opcode c.payload = true ∧ reservedOk c.opcode c.payload = true

/-! ## Power domains, device states and starts (04) -/

/-- Rows DOMAIN_RISE_COMPLETE and DOMAIN_DRAIN_COMPLETE, for every domain but AON. A RISING domain is ON from the row's instant and its services begin; with a turn-off pending it drains instead. A
DRAINING domain is OFF, its epoch in retention; with a turn-on pending it is OFF for 10 us and RISING from then on; in NAP it is OFF only once the groups before its own are. What is in flight ends with the drain. With every domain of step 3 of a start ON, the application cores and the host
machinery rise. MEM2 and MEM3 lose their bytes, no other domain does, and nothing else changes but what the services of the metering, powerline, power-quality, tandem and wheel domains do. -/
def Obligations.DomainChangeCompletes : Prop :=
  (∀ (t n : Nat) (s : State), 0 < n → n < 33 → ((s.advance t).dom n).state = .rising → ((s.advance t).dom n).offPending = false →
    exec (.domainRiseComplete t n) s = .next (domReaches ((s.advance t).modDom n fun d => { d with state := .on, onAt := some (s.advance t).now }) n)) ∧
  (∀ (t n : Nat) (s : State), 0 < n → n < 33 → ((s.advance t).dom n).state = .rising → ((s.advance t).dom n).offPending = true →
    exec (.domainRiseComplete t n) s =
      .next ((s.advance t).modDom n fun d => { d with state := .draining, offPending := false, drainAt := some (s.advance t).now })) ∧
  (∀ (t n : Nat) (s : State), 0 < n → n < 33 → ((s.advance t).dom n).state = .draining → (s.advance t).napOrder n = true →
    exec (.domainDrainComplete t n) s = .next (domOff ((domEnds (s.advance t) n).modDom n fun d =>
      { d with state := .off, retained := some d.epoch, onAt := none, drainAt := none }) n)) ∧
  (∀ (t n : Nat) (s : State), 0 < n → n < 33 → ((s.advance t).dom n).state = .drainThenOn → (s.advance t).napOrder n = true →
    exec (.domainDrainComplete t n) s = .next (domOff ((domEnds (s.advance t) n).modDom n fun d =>
      { d with state := .off, retained := some d.epoch, onAt := none, drainAt := none, offPending := false, riseFrom := some ((s.advance t).now + 492) }) n)) ∧
  (∀ (d : Dom) (x now : Nat), d.riseFrom = some x → (d.seen now).state = if x ≤ now then .rising else d.state) ∧
  (∀ (n : Nat) (s : State), n < 17 → n ≠ 5 → n ≠ 12 → n ≠ 13 → n ≠ 14 → n ≠ 15 → domReaches s n =
    if s.pwr.state ≠ .nap ∧ ([1, 2, 3, 4, 6, 7].all fun k => s.domOn k) = true then (s.modDom 11 Dom.turnOn).modDom 10 Dom.turnOn else s) ∧
  (∀ (n : Nat) (s : State), n ≠ 12 → n ≠ 14 → n ≠ 15 → n ≠ 16 → domEnds s n = s) ∧
  (∀ (n : Nat) (s : State), n ≠ 5 → n ≠ 8 → n ≠ 9 → n ≠ 14 → n ≠ 15 → domOff s n = s) ∧
  (∀ (n : Nat) (s : State), s.mem.wf = true → n = 8 ∨ n = 9 → ∀ a, (domOff s n).mem.read a =
    if 0x01800000 + (n - 8) * 0x400000 ≤ a ∧ a < 0x01C00000 + (n - 8) * 0x400000 then 0 else s.mem.read a)

/-- Rows MAIN_SUPPLY_WARNING, MAIN_RETURN, AON_VBAT_CHANGEOVER, AON_VDDAON_RETURN, DEV_WAKE and SEAL_CHANGE. A warning outside NAP begins the power-fail sequence: it is counted, doorbells are no longer observed, the monitors of the
main supplies are disarmed, a slew ends and EV0690 fires. The return of the main supplies after the sequence clears the warning and wakes the device from NAP, and where VDDC has been absent nothing is left in retention. A changeover to VBAT disarms the VDDAON monitor and changes nothing else; the return to
VDDAON is remembered for the monitors' 2 ms. DEV_WAKE wakes the device. A seal level that has held for 20 ms is taken as a change, recorded while the dry side runs, else latched, and wakes the device where it is enabled; one that has not held as long, or is no change, does nothing.
The 20 ms taken as 656 samples is the model's choice (log 120). -/
def Obligations.SupplyRows : Prop :=
  (∀ (t : Nat) (s : State), s.pwr.state ≠ .nap → s.pwr.porstHigh = true → s.pwr.aonLost = false → s.pwr.pfail = false →
    exec (.mainSupplyWarning t) s = .next (({ s.advance t with
      pwr := { s.pwr with mainWarn := true, pfail := true, pfailClosed := false, pfailCount := s.pwr.pfailCount + 1, lastComplete := false }
      time := { (s.advance t).time with slew := 0 }
      tmp := { s.tmp with armed := s.tmp.armed &&& 8 } } : State).fire 690 1 0)) ∧
  (∀ (t : Nat) (s : State), s.pwr.state = .nap ∨ s.pwr.porstHigh = false ∨ s.pwr.aonLost = true ∨ s.pwr.pfail = true →
    exec (.mainSupplyWarning t) s = .next { s.advance t with pwr := { s.pwr with mainWarn := true } }) ∧
  (∀ (t : Nat) (kept : Bool) (s : State), s.pwr.state = .nap → s.pwr.afterPfail = true → s.pwr.porstHigh = true → s.pwr.aonLost = false → s.pwr.halted = false →
    let u := if kept then s.advance t else loseRetention (s.advance t)
    exec (.mainReturn ⟨t, kept⟩) s = .next (warmStart { u with pwr := ({ u.pwr with mainWarn := false } : Power).reason 6 u.now })) ∧
  (∀ (n : Nat) (s : State), ((loseRetention s).dom n).retained = none ∧ ((loseRetention s).dom n).epoch = (s.dom n).epoch ∧
    ((loseRetention s).dom n).state = (s.dom n).state) ∧
  (∀ (t : Nat) (kept : Bool) (s : State), (s.pwr.state ≠ .nap ∨ s.pwr.afterPfail = false ∨ s.pwr.porstHigh = false ∨ s.pwr.aonLost = true ∨ s.pwr.halted = true) →
    exec (.mainReturn ⟨t, kept⟩) s = .next (s.advance t)) ∧
  (∀ (t : Nat) (s : State), exec (.aonVbatChangeover t) s =
    .next { s.advance t with pwr := { s.pwr with aonVbat := true }, tmp := { s.tmp with armed := s.tmp.armed &&& 7 } }) ∧
  (∀ (t : Nat) (s : State), exec (.aonVddaonReturn t) s =
    .next { s.advance t with pwr := { s.pwr with aonVbat := false }, tmp := { s.tmp with aonBack := (s.advance t).now } }) ∧
  (∀ (t : Nat) (s : State), exec (.devWake t) s = .next (wake 0 { s.advance t with pwr := { s.pwr with devWakeHigh := true } })) ∧
  (∀ (t held : Nat) (opened : Bool) (s : State), s.seals.open_ ≠ opened → 656 ≤ held → (∀ x, s.seals.changedAt = some x → x + 983040 ≤ (s.advance t).now) →
    let u : State := { s.advance t with seals := { s.seals with open_ := opened, changedAt := some (s.advance t).now } }
    (s.dryRuns = true → exec (.sealChange t ⟨opened, held⟩) s = .next (wakeIf 9 5 (recordSeal opened (s.advance t).stamp 0 false false u))) ∧
    (s.dryRuns = false → s.seals.latched.length < 4 → exec (.sealChange t ⟨opened, held⟩) s =
      .next (wakeIf 9 5 { u with seals := { u.seals with latched := s.seals.latched ++ [(opened, (s.advance t).stamp)] } })) ∧
    (s.dryRuns = false → 4 ≤ s.seals.latched.length → exec (.sealChange t ⟨opened, held⟩) s =
      .next (wakeIf 9 5 { u with seals := { u.seals with further := s.seals.further + 1 } }))) ∧
  (∀ (t held : Nat) (opened : Bool) (s : State), (opened = s.seals.open_ ∨ held < 656 ∨ ∃ x, s.seals.changedAt = some x ∧ (s.advance t).now < x + 983040) →
    exec (.sealChange t ⟨opened, held⟩) s = .next (s.advance t))

/-- In RUN or TRIM a reason outside an episode changes nothing; within an episode it is recorded. In HUSH it opens or joins the episode and the device is back in the state it held. In NAP with supplies, whether AON is on VDDAON or VBAT, it is a warm start, at whose end the device is in the state that NAP_RETURN names;
after a power-fail sequence whose supplies are not back it latches and the device stays in NAP. With PORST_N low, AON lost or TMODE high nothing happens. Every reason that counts sets its bit of PWR_WAKE_CAUSE. -/
def Obligations.WakeReasons : Prop :=
  (∀ (r : Nat) (s : State), (s.pwr.porstHigh = false ∨ s.pwr.aonLost = true ∨ s.pwr.halted = true) → wake r s = s) ∧
  (∀ (r : Nat) (s : State), s.pwr.state ≠ .nap → s.pwr.state ≠ .hush → s.pwr.episodeOpen = false → wake r s = s) ∧
  (∀ (r : Nat) (s : State), s.pwr.porstHigh = true → s.pwr.aonLost = false → s.pwr.halted = false → s.pwr.state ≠ .nap → s.pwr.state ≠ .hush →
    s.pwr.episodeOpen = true → r < 7 → (wake r s).pwr.wakeCause = s.pwr.wakeCause ||| (1#7 <<< r) ∧ wake r s = { s with pwr := (wake r s).pwr }) ∧
  (∀ (r : Nat) (s : State), s.pwr.porstHigh = true → s.pwr.aonLost = false → s.pwr.halted = false → s.pwr.state = .hush → r < 7 →
    (wake r s).pwr.state = s.pwr.held ∧ (wake r s).pwr.wakeCause.getLsbD r = true ∧ (wake r s).pwr.episodeOpen = true ∧
    wake r s = { s with pwr := (wake r s).pwr }) ∧
  (∀ (r : Nat) (s : State), s.pwr.porstHigh = true → s.pwr.aonLost = false → s.pwr.halted = false → s.pwr.state = .nap → r < 7 →
    s.pwr.afterPfail = true → s.pwr.mainWarn = true →
    (wake r s).pwr.state = .nap ∧ (wake r s).pwr.wakeCause.getLsbD r = true ∧ (s.pwr.aonVbat = true → (wake r s).pwr.vbatLatched = true) ∧
    wake r s = { s with pwr := (wake r s).pwr }) ∧
  (∀ (r : Nat) (s : State), s.pwr.porstHigh = true → s.pwr.aonLost = false → s.pwr.halted = false → s.pwr.state = .nap → r < 7 →
    (s.pwr.afterPfail = false ∨ s.pwr.mainWarn = false) →
    (wake r s).pwr.state = .trim ∧ (wake r s).pwr.after =
      some (if s.pwr.wakeCfg.toNat / 16 % 4 = 0 then .run else if s.pwr.wakeCfg.toNat / 16 % 4 = 1 then .trim else .hush) ∧
    (wake r s).pwr.warm = true ∧ (wake r s).pwr.coldAon = false ∧ (wake r s).pwr.startCount = s.pwr.startCount + 1) ∧
  (∀ s : State, s.pwr.portsReady = true → (∀ d, s.pwr.after = some d → d ≠ .hush → (afterStartPass s).pwr.state = d) ∧
    (s.pwr.after = some .hush → (afterStartPass s).pwr.hushWant = true))

/-- Rows PORST_ASSERT, PORST_RELEASE and AON_COLD_START. PORST_N low: every domain but AON is OFF and nothing is in retention, every output is in kickstand, VDDC_REQ at 0b101 with them, no ticket is held, memory is clear, and the RTC count, the tamper and seal latches, the
wake causes, the start count and the ledgers' accounts are kept. An AON cold start does the same and the RTC starts from zero, untrusted, with the start count at zero; the crest log and flash are kept. A release while PORST_N is high and AON is not lost changes
nothing; one after PORST_N low or a lost AON samples the straps and the clock, VDDC_REQ at 0b101, and is a full start, but with TMODE high nothing starts. -/
def Obligations.ResetRows : Prop :=
  (∀ (t : Nat) (s : State), ∃ u, exec (.porstAssert t) s = .next u ∧ u.pwr.porstHigh = false ∧
    (∀ n, 0 < n → (u.dom n).state = .off ∧ (u.dom n).retained = none) ∧
    u.tripKick = 0xF ∧ u.irqKick = true ∧ (∀ n, (u.cfOut n).kick = true ∧ (u.cfOut n).level = false ∧ (u.cfOut n).edges = []) ∧
    u.fab.vreq = 5 ∧ u.fab.forced = true ∧ u.out.held = [] ∧ u.out.staged = [] ∧ u.mem = [] ∧
    u.time = (s.advance t).time ∧ u.tmp = s.tmp ∧ u.seals = s.seals ∧ u.pwr.wakeCause = s.pwr.wakeCause ∧
    u.pwr.startCount = s.pwr.startCount ∧ u.log = s.log ∧ u.flash.store = s.flash.store) ∧
  (∀ s : State, ∃ u, exec .aonColdStart s = .next u ∧ u.time.cad = 0 ∧ u.time.off = 0 ∧ u.trusted = false ∧ u.pwr.startCount = 0 ∧
    u.pwr.wakeCause = 0 ∧ u.pwr.porstHigh = s.pwr.porstHigh ∧ u.pwr.aonLost = s.pwr.porstHigh ∧ u.seals.count = s.seals.count ∧
    u.log = s.log ∧ u.flash.store = s.flash.store ∧ u.out.held = [] ∧ u.mem = []) ∧
  (∀ (r : StartIn) (s : State), s.pwr.porstHigh = true → s.pwr.aonLost = false → exec (.porstRelease r) s = .next s) ∧
  (∀ (r : StartIn) (s : State), (s.pwr.porstHigh = false ∨ s.pwr.aonLost = true) → r.tmode = true →
    exec (.porstRelease r) s = .next { s with fab := Fabric.reset, pwr := { s.pwr with
      porstHigh := true, aonLost := false, halted := true, tiebreak := r.tiebreak, clkExt := decide (1000 ≤ r.mclk) } }) ∧
  (∀ (r : StartIn) (s : State), (s.pwr.porstHigh = false ∨ s.pwr.aonLost = true) → r.tmode = false →
    ∃ u, exec (.porstRelease r) s = .next u ∧ u.pwr.porstHigh = true ∧ u.pwr.aonLost = false ∧ u.pwr.halted = false ∧
      u.pwr.startCount = s.pwr.startCount + 1 ∧ u.pwr.portsReady = false ∧ u.pwr.firstPub = false ∧ u.pwr.tiebreak = r.tiebreak ∧ u.pwr.clkExt = decide (1000 ≤ r.mclk) ∧ u.pwr.dryOk = r.dryOk ∧
      u.pwr.recovery = (!r.wetAOk && !r.wetBOk) ∧ u.fab.vreq = 5 ∧ u.fab.forced = true ∧ (∀ n, n < 2 → (u.port n).perm = 0))

/-- Rows DOMAIN_LOSS, DEFERRED_HUSH_ENTRY and POWER_FAIL_CLOSE. A domain that was decided ON and loses power fires EV0650 where it is enabled and rises again where it is still to be ON; runs and candidates end. A domain of the dry side or the application cores is RISING, one epoch on,
what it held in retention the epoch before, every other domain as it was, and every staged command is discarded. A domain that was decided OFF, and one in NAP, changes nothing. A deferred HUSH is entered at the first boundary at which DEV_WAKE is low: the state before is held, the host ports
sleep, and the domains HUSH keeps off are decided. Once the last cadence of a power-fail sequence has passed, metering closes, and the device is in NAP, no domain but AON ON, with its power-down records written and every output in kickstand.
A row that names another epoch than the
domain's changes nothing (the model's choice, log 129). -/
def Obligations.PowerSequenceRows : Prop :=
  (∀ (t n : Nat) (s : State), n ∈ [1, 2, 3, 4, 6, 7, 10, 11] → ((s.advance t).dom n).decidedOn = true →
    (s.pwr.state = .run ∨ s.pwr.state = .trim ∨ (s.pwr.state = .hush ∧ (s.pwr.held = .run ∨ s.pwr.held = .trim))) →
    ∃ u, exec (.domainLoss t n ((s.advance t).dom n).epoch) s = .next u ∧ (u.dom n).state = .rising ∧ (u.dom n).epoch = ((s.advance t).dom n).epoch + 1 ∧
      (u.dom n).retained = some ((s.advance t).dom n).epoch ∧ (∀ k, k ≠ n → u.dom k = (s.advance t).dom k) ∧ u.time = (s.advance t).time ∧
      (∀ c, (u.channel c).cand = []) ∧ ((∀ k, (s.sluice k).waiting = []) → u.out.staged = []) ∧
      (s.evt.disabled.getLsbD 650 = false → u.evt.pending.getLsbD 650 = true)) ∧
  (∀ (t n : Nat) (s : State), 0 < n → n < 33 → ((s.advance t).dom n).decidedOn = true → s.pwr.state ≠ .nap →
    ∃ u, exec (.domainLoss t n ((s.advance t).dom n).epoch) s = .next u ∧ ((u.dom n).state = .rising ∨ (u.dom n).state = .off) ∧ (u.dom n).onAt = none ∧ u.time = (s.advance t).time ∧
      (∀ c, (u.channel c).cand = []) ∧ (s.evt.disabled.getLsbD 650 = false → u.evt.pending.getLsbD 650 = true)) ∧
  (∀ (t n : Nat) (e : BitVec 32) (s : State), (n = 0 ∨ 33 ≤ n ∨ ((s.advance t).dom n).decidedOn = false ∨ s.pwr.state = .nap ∨ ((s.advance t).dom n).epoch ≠ e) →
    exec (.domainLoss t n e) s = .next (s.advance t)) ∧
  (∀ s : State, s.time.off = 0 → s.pwr.hushDefer = true → s.pwr.hushWant = true → s.pwr.devWakeHigh = false → s.pwr.portsReady = true →
    (s.pwr.state = .run ∨ s.pwr.state = .trim) →
    exec .deferredHushEntry s = .next (decidePass
      { s with pwr := { s.pwr with state := .hush, held := s.pwr.state, hushWant := false, hushDefer := false, portsReady := false } }) ∧
    ∃ u, exec .deferredHushEntry s = .next u ∧ u.pwr.state = .hush ∧ u.pwr.held = s.pwr.state ∧ u.pwr.portsReady = false ∧ u.pwr.hushDefer = false ∧
      u.out = s.out ∧ u.mem = s.mem ∧ u.time = s.time) ∧
  (∀ s : State, (s.time.off ≠ 0 ∨ s.pwr.hushDefer = false) → exec .deferredHushEntry s = .next s) ∧
  (∀ (p : PubIn) (s : State), s.pwr.pfail = true → s.pwr.pfailClosed = true → s.older = [] →
    let m := closeMetering p s
    let n := enterNap { m with pwr := { m.pwr with lastComplete := true } }
    exec (.powerFailClose p) s =
      .next { n with pwr := { n.pwr with pfail := false, pfailClosed := false, afterPfail := true, outageOpen := true } } ∧
    ∃ u, exec (.powerFailClose p) s = .next u ∧ u.pwr.state = .nap ∧ u.pwr.pfail = false ∧ u.pwr.afterPfail = true ∧ u.pwr.portsReady = false ∧
      u.pwr.lastComplete = true ∧ (∀ n, 0 < n → n < 33 → (u.dom n).state ≠ .on) ∧ u.fab.vreq = 5 ∧ u.tripKick = 0xF ∧ u.irqKick = true ∧
      (∀ n, (u.cfOut n).kick = true) ∧ u.mem = [] ∧ u.book.awaiting = []) ∧
  (∀ (p : PubIn) (s : State), (s.pwr.pfail = false ∨ s.pwr.pfailClosed = false ∨ s.older ≠ []) → exec (.powerFailClose p) s = .next s) ∧
  (∀ (m : Nat) (s : State), m ∈ s.definedMeters → ((powerDownRecords s).ledger m).records.outageLast = s.closing.cad)

/-- Rows HOST_PORTS_READY, FIRST_SLUICE_ACCESS and TRANSFER_BEFORE_READY. In RUN or TRIM, after the first publication of a start, the host ports become ready: PORTS_READY reads 1, the wake episode ends and, with a dry image that runs, the interrupt lines leave kickstand. The first access
to a sluice window releases HOST_WAKE_N and does nothing else. A transfer before the ports are ready changes nothing. -/
def Obligations.PortsReadyRows : Prop :=
  (∀ (t : Nat) (s : State), s.pwr.portsReady = false → s.pwr.porstHigh = true → s.pwr.aonLost = false → s.pwr.halted = false →
    (s.pwr.state = .run ∨ s.pwr.state = .trim) → s.flash.restarting = none → s.pwr.startBoundary = false → (s.pwr.dryOk = false ∨ s.pwr.firstPub = true) →
    ∃ u, exec (.hostPortsReady t) s = .next u ∧ u.pwr.portsReady = true ∧ u.pwr.episodeOpen = false ∧ u.irqKick = !s.pwr.dryOk ∧
      u = { s.advance t with pwr := u.pwr, irqKick := !s.pwr.dryOk } ∧ u.pwr.state = s.pwr.state ∧ u.pwr.wakeCause = s.pwr.wakeCause) ∧
  (∀ (t : Nat) (s : State), (s.pwr.portsReady = true ∨ s.pwr.state = .hush ∨ s.pwr.state = .nap ∨ (s.pwr.dryOk = true ∧ s.pwr.firstPub = false)) →
    exec (.hostPortsReady t) s = .next (s.advance t)) ∧
  (∀ (t port sluice : Nat) (s : State), s.pwr.portsReady = true → port < 2 → sluice < 32 →
    exec (.firstSluiceAccess t port sluice) s = .next { s.advance t with pwr := { s.pwr with hold := false } }) ∧
  (∀ (t port : Nat) (s : State), exec (.transferBeforeReady t port) s = .next (s.advance t))

/-! ## Publication, booking, CF outputs and fast trips (01, 07, 10) -/

/-- Rows PUBLICATION and LATE_PUBLICATION. Where the cadence that closed last is the only one to publish and the dry side runs, PUBLICATION publishes every meter that was defined in it, or none where the metering domain had not been ON in all of it; the
cadence then waits to be booked, what waited before has been booked, and where the wheels were ON and settled a start has its first publication. A late publication also counts, and fires EV0641; the oldest cadence that waits goes first. Without a cadence to publish only time passes. -/
def Obligations.PublicationRows : Prop :=
  (∀ (p : PubIn) (s : State), s.closing.open_ = true → s.older = [] → s.dryRuns = true →
    ∃ u, exec (.publication p) s = .next u ∧ u.closing.open_ = false ∧ u.time = (s.advance 196608).time ∧ u.fab.ovrLate = s.fab.ovrLate ∧
      (s.pwr.firstPub = true ∨ (∀ w, w < 16 → s.closing.domsOn.getLsbD (w + 17) = true ∧ (s.closing.whl.get Wheel.reset w).settled = true) →
        u.pwr.firstPub = true) ∧
      u.book.awaiting.map (fun a => (a.cadence, a.closedAt, a.meters.map fun m => m.meter)) =
        [(s.closing.cad, s.closing.bnd, if s.closing.domsOn.getLsbD 5 then (s.closing.mtr.filter fun e => e.2.state == .defined).map (·.1) else [])]) ∧
  (∀ (p : PubIn) (s : State), (s.closing.open_ = false ∨ s.older ≠ [] ∨ s.dryRuns = false) →
    exec (.publication p) s = .next (s.advance 196608)) ∧
  (∀ (t : Nat) (p : PubIn) (s : State), s.dryRuns = true → (s.older ≠ [] ∨ (s.closing.open_ = true ∧ 196608 < (s.advance t).time.off)) →
    ∃ u, exec (.latePublication t p) s = .next u ∧ u.fab.ovrLate = s.fab.ovrLate + 1 ∧ u.older.length = s.older.length - 1 ∧
      (s.older = [] → u.closing.open_ = false) ∧ (s.pwr.firstPub = true → u.pwr.firstPub = true) ∧ u.time = (s.advance t).time ∧
      u.book.awaiting.length = 1 ∧ (s.evt.disabled.getLsbD 641 = false → u.evt.pending.getLsbD 641 = true)) ∧
  (∀ (t : Nat) (p : PubIn) (s : State), (s.dryRuns = false ∨ (s.older = [] ∧ (s.closing.open_ = false ∨ (s.advance t).time.off ≤ 196608))) →
    exec (.latePublication t p) s = .next (s.advance t))

/-- Publishing one meter adds one record to those published: its 512 bytes stand where the cadence number places them and no other byte of memory changes; each odometer is the ledger's total with the cadence's increment, modulo 2^64; ledgers, wheels, channels, CF outputs,
outstanding commands, sluices and time are as before. -/
def Obligations.MeterRecordPublished : Prop :=
  ∀ (late : Bool) (r : PubRun) (s : State) (out : List Published) (m : Nat) (was : Meter),
    ∃ (p : Published) (u : State), publishMeter late r (s, out) (m, was) = (u, out ++ [p]) ∧ p.meter = m ∧ p.result.cadence = s.toPublish.cad ∧
      u.mem = s.mem.writeAll (resultAddr m s.toPublish.cad) p.result.bytes ∧
      (s.mem.wf = true → ∀ a, (a < resultAddr m s.toPublish.cad ∨ resultAddr m s.toPublish.cad + p.result.bytes.length ≤ a) → u.mem.read a = s.mem.read a) ∧
      (∀ q, q < 16 → p.result.odo.getD q 0 = ((s.ledger m).total.getD q 0 + p.result.inc.getD q 0) % 2 ^ 64) ∧
      u.led = s.led ∧ u.whl = s.whl ∧ u.chan = s.chan ∧ u.cf = s.cf ∧ u.out = s.out ∧ u.slu = s.slu ∧ u.time = s.time

/-- Row BOOKING. The oldest published cadence is booked: it leaves the list, the count of bookings advances, and memory, time, wheels, channels, meters and outstanding commands stay. In the ledger of each meter of it each total grows by its increment modulo 2^96, the cadence is the last booked, and a cadence with GAP
is counted; a meter number that has been defined anew since takes nothing of it. A rate register of the cadence's rate grows by the increment of its quantity. With nothing published nothing changes. -/
def Obligations.BookingRow : Prop :=
  (∀ (a : PubCadence) (rest : List PubCadence) (s : State), s.book.awaiting = a :: rest → (a.meters.map (·.meter)).Nodup →
    ∃ u, exec .booking s = .next u ∧ u.book = { count := s.book.count + 1, awaiting := rest, lastCadence := some a.cadence } ∧
      u.mem = s.mem ∧ u.time = s.time ∧ u.whl = s.whl ∧ u.chan = s.chan ∧ u.mtr = s.mtr ∧ u.out = s.out ∧ u.slu = s.slu ∧
      (∀ p ∈ a.meters, ((s.meter p.meter).state = .undefined ∨ (s.meter p.meter).born = p.born) →
        (∀ q, q < (s.ledger p.meter).total.length →
          (u.ledger p.meter).total.getD q 0 = ((s.ledger p.meter).total.getD q 0 + p.result.inc.getD q 0) % 2 ^ 96) ∧
        (u.ledger p.meter).booked = a.cadence ∧
        (u.ledger p.meter).gapCadences = (s.ledger p.meter).gapCadences + (if p.result.flags.getLsbD 3 then 1 else 0)) ∧
      (∀ p ∈ a.meters, (s.meter p.meter).state ≠ .undefined → (s.meter p.meter).born ≠ p.born →
        (u.ledger p.meter).total = (s.ledger p.meter).total ∧ (u.ledger p.meter).booked = (s.ledger p.meter).booked) ∧
      (∀ m, m ∉ a.meters.map (·.meter) → (u.ledger m).total = (s.ledger m).total ∧ (u.ledger m).booked = (s.ledger m).booked)) ∧
  (∀ s : State, s.book.awaiting = [] → exec .booking s = .next s) ∧
  (∀ (l : Ledger) (p : Published) (cad : Nat) (untrusted : Bool), l.rateQ0 < 16 → l.rateQ1 = 0xFF → 2 * p.rate < l.rate.length →
    (l.book p cad untrusted).rate = l.rate.set (2 * p.rate) ((l.rate.getD (2 * p.rate) 0 + p.result.inc.getD l.rateQ0 0) % 2 ^ 96))

/-- Rows CF_EDGE, CF_PULSE_END, CROSS_FADE_END, DC_FREEZE_END and NO_CYCLE_TIMEOUT. An edge that is due, on an output that is not in kickstand, low, and 308 modulator clocks after its last rising edge, rises: the output is high until its pulse width has passed. One that comes sooner is delayed to that spacing; one that
finds the output high waits for a low of 8 modulator clocks; both mark CF_SAT. A high output whose width has passed goes low. An output in kickstand, and an edge that is not due, wait. A bank fade is over once its last
sample has been stamped, and the boundary after it frees the inactive bank. A DC freeze after a shift ends once its samples have passed. A channel whose last valid cycle lies 100 ms back, or that has had none, reports no cycle. Nothing else changes. -/
def Obligations.CfAndChainRows : Prop :=
  (∀ (t n : Nat) (e : CfEdge) (rest : List CfEdge) (s : State), (s.cfOut n).edges = e :: rest → (s.cfOut n).kick = false → (s.cfOut n).level = false →
    e.at_ ≤ (s.advance t).now → (∀ r, (s.cfOut n).lastRise = some r → r + 308 * 8 ≤ (s.advance t).now) →
    exec (.cfEdge t n) s = .next ((s.advance t).modCf n fun x =>
      { x with edges := rest, level := true, lastRise := some (s.advance t).now, highUntil := (s.advance t).now + e.high })) ∧
  (∀ (t n r : Nat) (e : CfEdge) (rest : List CfEdge) (s : State), (s.cfOut n).edges = e :: rest → (s.cfOut n).kick = false →
    e.at_ ≤ (s.advance t).now → (s.cfOut n).lastRise = some r → (s.advance t).now < r + 308 * 8 →
    exec (.cfEdge t n) s = .next ((s.advance t).modCf n fun x => { x with edges := { e with at_ := r + 308 * 8 } :: rest, sat := true })) ∧
  (∀ (t n : Nat) (e : CfEdge) (rest : List CfEdge) (s : State), (s.cfOut n).edges = e :: rest → (s.cfOut n).kick = false → (s.cfOut n).level = true →
    e.at_ ≤ (s.advance t).now → (∀ r, (s.cfOut n).lastRise = some r → r + 308 * 8 ≤ (s.advance t).now) →
    exec (.cfEdge t n) s = .next ((s.advance t).modCf n fun x =>
      { x with edges := { e with at_ := (s.advance t).now + 8 * 8 } :: rest, level := false, sat := true })) ∧
  (∀ (t n : Nat) (s : State), ((s.cfOut n).kick = true ∨ (s.cfOut n).edges = [] ∨ ∀ e ∈ (s.cfOut n).edges, (s.advance t).now < e.at_) →
    exec (.cfEdge t n) s = .next (s.advance t)) ∧
  (∀ (t n : Nat) (s : State), (s.cfOut n).level = true → (s.cfOut n).highUntil ≤ (s.advance t).now →
    exec (.cfPulseEnd t n) s = .next ((s.advance t).modCf n fun x => { x with level := false })) ∧
  (∀ (t n : Nat) (s : State), ((s.cfOut n).level = false ∨ (s.advance t).now < (s.cfOut n).highUntil) → exec (.cfPulseEnd t n) s = .next (s.advance t)) ∧
  (∀ (t w : Nat) (f : Fade) (s : State), (s.wheel w).fade = some f → f.from_ * cadenceClocks + 3072 * f.length ≤ (s.advance t).now →
    exec (.crossFadeEnd t w) s = .next ((s.advance t).modWheel w fun x => { x with fade := some { f with over_ := true } })) ∧
  (∀ (w : Nat) (f : Fade) (s : State), (s.wheel w).fade = some f → fadeDone w s = if f.from_ + 1 ≤ s.time.bnd then s.modWheel w fun x => { x with fade := none } else s) ∧
  (∀ (t w : Nat) (f : Fade) (s : State), (s.wheel w).fade = some f → (s.advance t).now < f.from_ * cadenceClocks + 3072 * f.length →
    exec (.crossFadeEnd t w) s = .next (s.advance t)) ∧
  (∀ (t c x : Nat) (s : State), (s.channel c).shiftAt = some x → x + (3840 + 82774 + 98304) ≤ (s.advance t).now → (s.channel c).tripQuiet = false →
    exec (.dcFreezeEnd t c) s = .next ((s.advance t).modChannel c fun ch => { ch with shiftAt := none })) ∧
  (∀ (t c : Nat) (s : State), (s.channel c).shiftAt = none → (s.channel c).tripQuiet = true →
    exec (.dcFreezeEnd t c) s = .next ((s.advance t).modChannel c fun ch => { ch with tripFrom := none })) ∧
  (∀ (t c : Nat) (s : State), (∀ x ∈ (s.channel c).cycleX.cycles.head?, (x.2 + 1600) * 3072 ≤ ((s.advance t).now : Rat)) →
    exec (.noCycleTimeout t c) s = .next ((s.advance t).modChannel c fun ch => { ch with cycle := none }))

/-- Rows FAST_TRIP_ASSERT and FAST_TRIP_DEASSERT, sample by sample. A comparator that is not asserted asserts at the sample with which COUNT consecutive ones have exceeded a limit; an asserted one deasserts at the sample with which RELEASE consecutive ones have not, unless it is latched;
a latched one stays. At the row the comparator judges the sample that has just emerged, formed from the slice's levels, under the settings in force at its stamp, and takes its new state; an assertion sets the channel's event where it is enabled, and every output of its OUT_MASK is low; a deassertion sets the event.
Memory, wheels, meters and ledgers do not change. -/
def Obligations.FastTripRows : Prop :=
  (∀ (st : TripState) (c : TripCfg) (v : Rat) (lost : Bool) (stamp : Nat), c.mode ≠ 0 → (if lost then c.lostTrip else c.sides v != 0) = true →
    st.asserted = false → c.count ≤ st.run + 1 →
    (st.next c v lost stamp).asserted = true ∧ (st.next c v lost stamp).latched = c.latch ∧ (st.next c v lost stamp).run = st.run + 1) ∧
  (∀ (st : TripState) (c : TripCfg) (v : Rat) (lost : Bool) (stamp : Nat), (c.mode = 0 ∨ (if lost then c.lostTrip else c.sides v != 0) = false) →
    st.asserted = true → st.latched = false → c.release ≤ st.clear + 1 →
    (st.next c v lost stamp).asserted = false ∧ (st.next c v lost stamp).run = 0) ∧
  (∀ (st : TripState) (c : TripCfg) (v : Rat) (lost : Bool) (stamp : Nat), st.asserted = true → st.latched = true →
    (st.next c v lost stamp).asserted = true ∧ (st.next c v lost stamp).latched = true) ∧
  (∀ (t c : Nat) (levels : List Int) (s : State), c < 128 →
    let a := s.advance t
    let x := a.fastInstant 0
    let f := a.fastSample c x levels
    let st := (s.channel c).tripState.next ((a.viewAt x).channel c).trip f.v f.lost (a.stampAt x)
    st.asserted = true → (s.channel c).tripState.asserted = false →
    ∃ u, exec (.fastTripAssert t c ⟨[levels]⟩) s = .next u ∧ (u.channel c).tripState = st ∧
      (s.evt.disabled.getLsbD c = false → u.evt.pending.getLsbD c = true) ∧
      (∀ k, (s.channel c).trip.mode ≠ 0 → (s.channel c).trip.outMask.getLsbD k = true → tripOut u k = true) ∧
      u.mem = s.mem ∧ u.whl = s.whl ∧ u.mtr = s.mtr ∧ u.led = s.led ∧ u.time = a.time) ∧
  (∀ (t c : Nat) (levels : List Int) (s : State), c < 128 →
    let a := s.advance t
    let x := a.fastInstant 0
    let f := a.fastSample c x levels
    let st := (s.channel c).tripState.next ((a.viewAt x).channel c).trip f.v f.lost (a.stampAt x)
    st.asserted = false → (s.channel c).tripState.asserted = true →
    exec (.fastTripDeassert t c ⟨[levels]⟩) s =
      .next ((a.modChannel c fun x => { x with tripState := st }).fire c 2 (st.sides.setWidth 32)))

/-! ## Wheels (05) -/

/-- Rows SLICE_SELF_CHECK_FAILURE, UP_SHIFT and DOWN_SHIFT. A slice of a wheel that is ON and fails its self-check is FAILED at once, from the failing instant on, at most 667 us before, and the wheel's event is set where it is enabled; no other slice, channel or byte of memory changes; a retired, failed or unpowered one is
left as it is. Under AUTO a slice in climb that sees a fast sample above 75 % of full scale takes its channel to cruise, and one in cruise that has seen 6,144 consecutive samples below 3 % takes it to climb; otherwise the slice keeps its gear. A slice that serves counts the shift, and its channel's DC estimate freezes. -/
def Obligations.SliceRows : Prop :=
  (∀ (t w k back : Nat) (s : State), w < 16 → k ≤ 8 → (s.advance t).domOn (17 + w) = true →
    let y := (s.wheel w).slice k
    y.state ≠ .retired → y.state ≠ .failed → (y.state = .off → y.kept ≠ .retired) →
    ∃ u, exec (.sliceSelfCheckFailure t w ⟨k, back⟩) s = .next u ∧ ((u.wheel w).slice k).state = .failed ∧
      ((u.wheel w).slice k).failedAt = some ((s.advance t).now - Nat.min back 32768, (s.advance t).now) ∧
      (∀ j, j ≠ k → (u.wheel w).slice j = (s.wheel w).slice j) ∧ (∀ v, v ≠ w → u.wheel v = s.wheel v) ∧
      (s.evt.disabled.getLsbD (624 + w) = false → u.evt.pending.getLsbD (624 + w) = true) ∧
      u.mem = s.mem ∧ u.chan = s.chan ∧ u.mtr = s.mtr ∧ u.time = (s.advance t).time) ∧
  (∀ (t w k back : Nat) (s : State), (8 < k ∨ (s.advance t).domOn (17 + w) = false ∨ ((s.wheel w).slice k).state = .retired ∨
      ((s.wheel w).slice k).state = .failed ∨ (((s.wheel w).slice k).state = .off ∧ ((s.wheel w).slice k).kept = .retired)) →
    exec (.sliceSelfCheckFailure t w ⟨k, back⟩) s = .next (s.advance t)) ∧
  (∀ (t w k sp mag : Nat) (s : State), (s.wheel w).servedBy k = some sp → s.gearPolicy w sp = 0 → ((s.wheel w).slice k).climb = true → 49152 < mag →
    exec (.upShift t w k mag) s = .next (shiftChannel w sp false (s.advance t))) ∧
  (∀ (t w k mag : Nat) (s : State), (mag ≤ 49152 ∨ (s.wheel w).servedBy k = none) → exec (.upShift t w k mag) s = .next (s.advance t)) ∧
  (∀ (t w k sp run : Nat) (s : State), (s.wheel w).servedBy k = some sp → s.gearPolicy w sp = 0 → ((s.wheel w).slice k).climb = false → 6144 ≤ run →
    exec (.downShift t w k run) s = .next (shiftChannel w sp true (s.advance t))) ∧
  (∀ (t w k sp run : Nat) (s : State), (s.wheel w).servedBy k = some sp → run < 6144 →
    exec (.downShift t w k run) s = .next ((s.advance t).modWheel w fun x => x.modSlice k fun y => { y with lowRun := run })) ∧
  (∀ (t w k run : Nat) (s : State), (s.wheel w).servedBy k = none → exec (.downShift t w k run) s = .next (s.advance t)) ∧
  (∀ (w k : Nat) (climb : Bool) (s : State), k < 8 → ((s.wheel w).slice k).state = .serving → ((s.wheel w).slice k).climb = !climb →
    let y := (s.wheel w).slice k
    let z := ((shiftChannel w k climb s).wheel w).slice k
    z.climb = climb ∧ z.down = y.down + (if climb then 1 else 0) ∧ z.up = y.up + (if climb then 0 else 1) ∧
    ((shiftChannel w k climb s).channel (8 * w + k)).shiftAt = some s.now)

/-- Row DWELL_VERDICT. Once the window of a dwell has been published its verdict is taken: INCONCLUSIVE below 12 compared cadences, FAIL where at least three quarters of them failed, else PASS. FAIL verdicts on three spokes among the last eight mark the jockey SUSPECT and no
spoke; with the jockey unmarked a second consecutive FAIL on a spoke marks that spoke; any other verdict marks none. Before that nothing changes. -/
def Obligations.DwellVerdicts : Prop :=
  (∀ (w : Nat) (v : Visit) (s : State), (s.wheel w).verdictDue = some v → v.at_ + 18 ≤ s.time.bnd →
    exec (.dwellVerdict w) s = .next (takeVerdict w v.spoke (verdictOf v.tally) (s.modWheel w fun x => { x with verdictDue := none }))) ∧
  (∀ (w : Nat) (s : State), (∀ v ∈ (s.wheel w).verdictDue, s.time.bnd < v.at_ + 18) → exec (.dwellVerdict w) s = .next s) ∧
  (∀ t : Tally, verdictOf t = if t.compared < 12 then .inconclusive else if 3 * t.compared ≤ 4 * t.failed then .fail else .pass) ∧
  (∀ (w k : Nat) (v : Verdict) (s : State), (s.wheel w).jockey.suspect = false →
    3 ≤ (failedSpokes (((k, v) :: (s.wheel w).jcount).take 8)).length → (∃ j, j < 8 ∧ ((s.wheel w).slice j).state.skipped = false) →
    ((takeVerdict w k v s).wheel w).jockey.suspect = true ∧
    (∀ j, j < 8 → (((takeVerdict w k v s).wheel w).slice j).suspect = ((s.wheel w).slice j).suspect)) ∧
  (∀ (w k : Nat) (v : Verdict) (s : State), k < 8 → (s.wheel w).jockey.suspect = false →
    (failedSpokes (((k, v) :: (s.wheel w).jcount).take 8)).length < 3 →
    (∀ j, (((takeVerdict w k v s).wheel w).slice j).suspect =
      (if j = k ∧ v = .fail ∧ secondFail (s.wheel w).verdicts k = true then true else ((s.wheel w).slice j).suspect)))

/-- Row JOCKEY_TAKEOVER. At its boundary the jockey, unless it has failed or is OFF, serves the channel of the spoke named, and a dwell that was open has its verdict, INCONCLUSIVE before its 16 cadences are over; the spoke is COVERED, in SERVICE or RETIRED by the action in force, and takes its advanced epoch; every other
spoke, and every other wheel, is as before. A recalibration of a spoke that has FAILED, or of a sealed channel under a closed seal, is a cover. A takeover of a failed jockey is dropped; before its boundary it waits. -/
def Obligations.TakeoverRow : Prop :=
  (∀ (w : Nat) (k : Takeover) (s : State), (s.wheel w).takeover = some k → (s.wheel w).jockey.state ≠ .failed → (s.wheel w).jockey.state ≠ .off →
    k.spoke < 8 → k.bt ≤ s.time.bnd →
    ∃ u, exec (.jockeyTakeover w) s = .next u ∧ (u.wheel w).takeover = none ∧ (u.wheel w).jockey.state = .serving ∧ (u.wheel w).jockeyAt = some k.spoke ∧
      (u.wheel w).server k.spoke = some 8 ∧ (u.wheel w).visit = none ∧
      ((u.wheel w).slice k.spoke).state = (if actionAt s w k = 2 then .retired else if actionAt s w k = 0 then .covered else .service) ∧
      ((u.wheel w).slice k.spoke).epoch = ((s.wheel w).slice k.spoke).epoch + 1 ∧
      ((u.wheel w).slice k.spoke).retained = some (((s.wheel w).slice k.spoke).epoch + 1) ∧
      (∀ j, j < 8 → j ≠ k.spoke → (u.wheel w).slice j = (s.wheel w).slice j) ∧ (∀ v, v ≠ w → u.wheel v = s.wheel v) ∧
      u.chan = s.chan ∧ u.mtr = s.mtr ∧ u.mem = s.mem ∧ u.time = s.time ∧
      (∀ v, (s.wheel w).visit = some v → v.at_ + 1 ≤ s.time.bnd → s.time.bnd < v.at_ + 17 → (u.wheel w).verdicts.head? = some (v.spoke, .inconclusive)) ∧
      (∀ v, (s.wheel w).visit = some v → v.at_ + 17 ≤ s.time.bnd → (u.wheel w).verdictDue = some v) ∧
      ((∀ v ∈ (s.wheel w).visit, s.time.bnd < v.at_ + 1 ∨ v.at_ + 17 ≤ s.time.bnd) → u = { s with whl := u.whl })) ∧
  (∀ (w : Nat) (k : Takeover) (s : State), (s.wheel w).takeover = some k → ((s.wheel w).jockey.state = .failed ∨ (s.wheel w).jockey.state = .off) →
    exec (.jockeyTakeover w) s = .next (s.modWheel w fun x => { x with takeover := none })) ∧
  (∀ (w : Nat) (s : State), (∀ k ∈ (s.wheel w).takeover, (s.wheel w).jockey.state ≠ .failed ∧ (s.wheel w).jockey.state ≠ .off ∧ s.time.bnd < k.bt) →
    exec (.jockeyTakeover w) s = .next s) ∧
  (∀ (w : Nat) (k : Takeover) (s : State), k.action = 1 →
    (((s.wheel w).slice k.spoke).state = .failed ∨ (s.sealedChannel (8 * w + k.spoke) = true ∧ s.seals.open_ = false)) → actionAt s w k = 0)

/-- Rows SERVICE_RECALIBRATION_PHASE_END and _COMMIT. A phase that has ended and been published adds its mean where its halves agree; one that is not accepted puts the spoke in FAILED and ends the run. At BT + 69 a run with four means commits both gears' sets of the
spoke's path where they are valid, and the spoke begins its return; otherwise the spoke is FAILED and no set changes. Before that nothing changes. -/
def Obligations.ServiceRows : Prop :=
  (∀ (w : Nat) (v : Service) (m : Rat) (s : State), (s.wheel w).service = some v → v.means.length < 4 → v.bt + 17 * (v.means.length + 1) + 1 ≤ s.time.bnd →
    phaseAccepted v v.means.length = some m →
    exec (.serviceRecalibrationPhaseEnd w) s = .next (s.modWheel w fun x => { x with service := some { v with means := v.means ++ [m] } })) ∧
  (∀ (w : Nat) (v : Service) (s : State), (s.wheel w).service = some v → v.means.length < 4 → v.bt + 17 * (v.means.length + 1) + 1 ≤ s.time.bnd →
    phaseAccepted v v.means.length = none →
    ∃ u, exec (.serviceRecalibrationPhaseEnd w) s = .next u ∧ ((u.wheel w).slice v.spoke).state = .failed ∧ (u.wheel w).service = none ∧ u.chan = s.chan) ∧
  (∀ (w : Nat) (v : Service) (s : State), (s.wheel w).service = some v → v.means.length = 4 → v.bt + 69 ≤ s.time.bnd → v.spoke < 8 →
    let m (j : Nat) : Rat := v.means.getD j 0
    let c := s.channel (8 * w + v.spoke)
    let n0 := serviceSet (c.set 0 0) (m 0) (m 1 - m 0) s.stamp
    let n1 := serviceSet (c.set 1 0) (m 2) (m 3 - m 2) s.stamp
    ∃ u, exec (.serviceRecalibrationCommit w) s = .next u ∧ (u.wheel w).service = none ∧
      ((setValid 0 n0 && setValid 1 n1) = true →
        (u.channel (8 * w + v.spoke)).set 0 0 = n0 ∧ (u.channel (8 * w + v.spoke)).set 1 0 = n1 ∧
        (u.channel (8 * w + v.spoke)).set 0 1 = c.set 0 1 ∧ (u.channel (8 * w + v.spoke)).set 1 1 = c.set 1 1 ∧
        ((u.wheel w).slice v.spoke).state = .settling ∧ ((u.wheel w).slice v.spoke).epoch = ((s.wheel w).slice v.spoke).epoch + 1 ∧
        (u.wheel w).ret.map (fun r => (r.spoke, r.br)) = some (v.spoke, s.time.bnd)) ∧
      ((setValid 0 n0 && setValid 1 n1) = false → ((u.wheel w).slice v.spoke).state = .failed ∧ u.chan = s.chan)) ∧
  (∀ (w : Nat) (s : State), (∀ v ∈ (s.wheel w).service, s.time.bnd < v.bt + 18) →
    exec (.serviceRecalibrationPhaseEnd w) s = .next s ∧ exec (.serviceRecalibrationCommit w) s = .next s)

/-- Rows SPOKE_RETURN, RETURN_CHECK_VERDICT, PROBATION_VERDICT, HANDBACK and EMERGENCY_RETURN. After its settle cadence a returning spoke compares its epochs: it is in CHECK where they are equal, and stale, with the current epoch, in PROBATION where they differ, in the gear of its channel. A window that passes counts; a FAIL, or a fifth INCONCLUSIVE, puts the spoke in FAILED. With enough passed
windows the spoke serves again without its marks. When the jockey has failed while it served, a covered spoke serves at once, under an emergency return. Each of the two verdict rows judges its own kind of return only. -/
def Obligations.ReturnRows : Prop :=
  (∀ (w : Nat) (r : Return) (s : State), (s.wheel w).ret = some r → r.br + 1 ≤ s.time.bnd → ((s.wheel w).slice r.spoke).state = .settling →
    let y := (s.wheel w).slice r.spoke
    let stale := y.retained != some y.epoch
    ∃ u, exec (.spokeReturn w) s = .next u ∧ ((u.wheel w).slice r.spoke).state = (if stale then .probation else .check) ∧
      ((u.wheel w).slice r.spoke).stale = stale ∧ ((u.wheel w).slice r.spoke).retained = some y.epoch ∧ ((u.wheel w).slice r.spoke).epoch = y.epoch ∧
      ((u.wheel w).slice r.spoke).climb = (s.wheel w).gearOf r.spoke ∧ (u.wheel w).ret = some { r with stale } ∧
      (∀ j, j ≠ r.spoke → (u.wheel w).slice j = (s.wheel w).slice j) ∧ (∀ v, v ≠ w → u.wheel v = s.wheel v) ∧ u = { s with whl := u.whl }) ∧
  (∀ (w : Nat) (r : Return) (s : State), (s.wheel w).ret = some r → r.passed < (if r.stale then 4 else 1) →
    r.br + 18 + 16 * (r.passed + r.inconclusive) ≤ s.time.bnd →
    let row := if r.stale then Instr.probationVerdict w else Instr.returnCheckVerdict w
    let other := if r.stale then Instr.returnCheckVerdict w else Instr.probationVerdict w
    let v := verdictOf (r.tallies.get ⟨0, 0⟩ (r.passed + r.inconclusive))
    exec other s = .next s ∧
    (v = .pass → exec row s = .next (s.modWheel w fun x => { x with ret := some { r with passed := r.passed + 1 } })) ∧
    (v = .inconclusive → r.inconclusive ≠ 4 → exec row s = .next (s.modWheel w fun x => { x with ret := some { r with inconclusive := r.inconclusive + 1 } })) ∧
    (v = .fail ∨ (v = .inconclusive ∧ r.inconclusive = 4) →
      ∃ u, exec row s = .next u ∧ ((u.wheel w).slice r.spoke).state = .failed ∧ (u.wheel w).ret = none)) ∧
  (∀ (w : Nat) (r : Return) (s : State), (s.wheel w).ret = some r → (if r.stale then 4 else 1) ≤ r.passed → (s.wheel w).calRun = none →
    (s.wheel w).jockey.state = .serving → r.spoke < 8 →
    ∃ u, exec (.handback w) s = .next u ∧ (u.wheel w).ret = none ∧ ((u.wheel w).slice r.spoke).state = .serving ∧
      ((u.wheel w).slice r.spoke).suspect = false ∧ ((u.wheel w).slice r.spoke).emergency = false ∧ ((u.wheel w).slice r.spoke).stale = false ∧ (u.wheel w).server r.spoke = some r.spoke) ∧
  (∀ (w k : Nat) (s : State), (s.wheel w).jockey.state = .failed → (s.wheel w).jockeyAt = some k → k < 8 → ((s.wheel w).slice k).state = .covered →
    (s.wheel w).prob = none →
    ∃ u, exec (.emergencyReturn w) s = .next u ∧ ((u.wheel w).slice k).state = .serving ∧ ((u.wheel w).slice k).emergency = true ∧
      (u.wheel w).jockeyAt = none ∧ (u.wheel w).jockey = (s.wheel w).jockey ∧ (∀ v, v ≠ w → u.wheel v = s.wheel v) ∧ u = { s with whl := u.whl }) ∧
  (∀ (w : Nat) (s : State), (s.wheel w).jockey.state ≠ .failed → exec (.emergencyReturn w) s = .next s) ∧
  (∀ (w : Nat) (s : State), (s.wheel w).ret = none →
    exec (.spokeReturn w) s = .next s ∧ exec (.returnCheckVerdict w) s = .next s ∧ exec (.probationVerdict w) s = .next s ∧ exec (.handback w) s = .next s)

/-- Rows WHEEL_SETTLED, WHEEL_PROBATION_VISIT_VERDICT and WHEEL_PROBATION_OUTCOME. A wheel whose domain has been ON for 4 ms settles; where a slice is stale wheel probation begins. A visit that has ended and been published is judged, and its verdict joins the others: below five compared cadences it is
INCONCLUSIVE. The probation ends once every visit needed has been judged, or at once with a failed jockey: where the jockey passes, FAIL on fewer than three spokes, the spokes that passed serve and the others have FAILED; else the spokes serve under emergency, and the jockey has FAILED. Without a probation neither of the two rows changes anything. -/
def Obligations.WheelProbationRows : Prop :=
  (∀ (w at_ : Nat) (s : State), s.domOn (17 + w) = true → (s.wheel w).settled = false → (s.dom (17 + w)).onAt = some at_ → at_ + 196608 ≤ s.now →
    ∃ u, exec (.wheelSettled w) s = .next u ∧ (u.wheel w).settled = true ∧
      (((List.range 9).any fun k => ((s.wheel w).slice k).stale && ((s.wheel w).slice k).kept != .retired) = true → (u.wheel w).prob.isSome = true)) ∧
  (∀ (w : Nat) (s : State), (s.domOn (17 + w) = false ∨ (s.wheel w).settled = true ∨ ∀ x ∈ (s.dom (17 + w)).onAt, s.now < x + 196608) → exec (.wheelSettled w) s = .next s) ∧
  (∀ (w : Nat) (p : WheelProb) (s : State), (s.wheel w).prob = some p → p.bw + 8 * p.verdicts.length + 9 ≤ s.time.bnd →
    let k := p.visits.get (p.spokeOf p.verdicts.length) p.verdicts.length
    let v := visitVerdict (p.tallies.get ⟨0, 0⟩ p.verdicts.length)
    exec (.wheelProbationVisitVerdict w) s =
      .next ((s.modWheel w fun x => { x with prob := some { p with verdicts := p.verdicts ++ [(k, v)] } }).wheelEvent w 10 (k + 16 * v.code))) ∧
  (∀ t : Tally, visitVerdict t = if t.compared < 5 then .inconclusive else if 3 * t.compared ≤ 4 * t.failed then .fail else .pass) ∧
  (∀ (w : Nat) (p : WheelProb) (s : State), (s.wheel w).prob = some p →
    ((s.wheel w).jockey.state = .failed ∨ (8 ≤ p.verdicts.length ∧ p.unjudged = []) ∨ 16 ≤ p.verdicts.length) →
    let pass (k : Nat) : Bool := p.verdicts.any (fun v => v.1 == k && v.2 == .pass) && !p.verdicts.any (fun v => v.1 == k && v.2 == .fail)
    ∃ u, exec (.wheelProbationOutcome w) s = .next u ∧ (u.wheel w).prob = none ∧
      ((s.wheel w).jockey.state = .failed → ∀ k ∈ p.spokes, k < 8 → ((s.wheel w).slice k).state = .probation →
        ((u.wheel w).slice k).state = .serving ∧ ((u.wheel w).slice k).emergency = true) ∧
      ((s.wheel w).jockey.state ≠ .failed → (failedSpokes p.verdicts).length < 3 → ∀ k ∈ p.spokes, k < 8 → ((s.wheel w).slice k).state = .probation →
        ((u.wheel w).slice k).state = (if pass k then .serving else .failed) ∧ (pass k = true → ((u.wheel w).slice k).suspect = false)) ∧
      ((s.wheel w).jockey.state ≠ .failed → 3 ≤ (failedSpokes p.verdicts).length → (u.wheel w).jockey.state = .failed ∧
        ∀ k ∈ p.spokes, k < 8 → ((s.wheel w).slice k).state = .probation → ((u.wheel w).slice k).state = .serving ∧ ((u.wheel w).slice k).emergency = true)) ∧
  (∀ (w : Nat) (s : State), (s.wheel w).prob = none →
    exec (.wheelProbationVisitVerdict w) s = .next s ∧ exec (.wheelProbationOutcome w) s = .next s)

/-- Rows WHEEL_ENGINE_FAILURE, RELIEF_SUBSTITUTION, RELIEF_IN_SERVICE, PLANNED_ENGINE_HANDOVER and RELIEF_ENGINE_FAILURE. An engine of a wheel that is ON and fails is out of service and its samples are LOST from the first that it cannot vouch for; the free relief engine is ordered for the lowest such wheel and serves it one
boundary later, with RLF ON, its samples no longer LOST; a planned handover and a return take place at their boundary. A relief engine that fails while it serves leaves its wheel LOST.
The lowest wheel (log 117) and the samples it cannot vouch
for (log 116) are the model's choices. -/
def Obligations.EngineRows : Prop :=
  (∀ (t w : Nat) (full : Bool) (s : State), (s.wheel w).engine = 0 → (s.advance t).domOn (17 + w) = true → s.relief.phase = .free → s.relief.failed = false →
    exec (.wheelEngineFailure t ⟨w, full⟩) s = .next ((s.advance t).modWheel w fun x =>
      { x with engFailed := true, lostFrom := some ((s.advance t).unvouched full), engine := 2, passRun := 0 })) ∧
  (∀ (t w : Nat) (full : Bool) (s : State), (s.wheel w).engine = 0 → (s.advance t).domOn (17 + w) = true → (s.relief.phase ≠ .free ∨ s.relief.failed = true) →
    ∃ u, exec (.wheelEngineFailure t ⟨w, full⟩) s = .next u ∧ (u.wheel w).lostFrom = some ((s.advance t).unvouched full) ∧ (u.wheel w).engine = 2 ∧
      u.relief = s.relief ∧ (∀ v, v ≠ w → u.wheel v = s.wheel v) ∧ (w < 16 → s.evt.disabled.getLsbD (624 + w) = false → u.evt.pending.getLsbD (624 + w) = true)) ∧
  (∀ (t w : Nat) (full : Bool) (s : State), ((s.wheel w).engine ≠ 0 ∨ (s.advance t).domOn (17 + w) = false) →
    exec (.wheelEngineFailure t ⟨w, full⟩) s = .next (s.advance t)) ∧
  (∀ (w : Nat) (s : State), s.relief.phase = .free → s.relief.failed = false → w < 16 → (s.wheel w).engine = 2 → (∀ v, v < w → (s.wheel v).engine ≠ 2) →
    exec .reliefSubstitution s = .next { s with relief := { s.relief with phase := .loading, wheel := w, due := s.time.bnd + 1 } }) ∧
  (∀ s : State, (s.relief.phase ≠ .free ∨ s.relief.failed = true ∨ ∀ w, w < 16 → (s.wheel w).engine ≠ 2) → exec .reliefSubstitution s = .next s) ∧
  (∀ s : State, s.relief.phase = .loading → s.relief.due ≤ s.time.bnd → s.domOn 13 = true →
    ∃ u, exec .reliefInService s = .next u ∧ u.relief = { s.relief with phase := .serving } ∧ (u.wheel s.relief.wheel).engine = 1 ∧
      (u.wheel s.relief.wheel).lostFrom = none ∧ (∀ v, v ≠ s.relief.wheel → u.wheel v = s.wheel v) ∧ u.mem = s.mem ∧ u.chan = s.chan) ∧
  (∀ s : State, s.relief.phase = .taking → s.relief.due ≤ s.time.bnd → s.domOn 13 = true →
    ∃ u, exec .plannedEngineHandover s = .next u ∧ u.relief = { s.relief with phase := .serving } ∧ (u.wheel s.relief.wheel).engine = 1 ∧
      (u.wheel s.relief.wheel).lostFrom = none) ∧
  (∀ s : State, s.relief.phase = .returning → s.relief.due ≤ s.time.bnd → (s.wheel s.relief.wheel).engFailed = false →
    ∃ u, exec .plannedEngineHandover s = .next u ∧ u.relief = { s.relief with phase := .free } ∧ (u.wheel s.relief.wheel).engine = 0) ∧
  (∀ (t : Nat) (s : State), s.relief.failed = false → (s.relief.phase = .serving ∨ s.relief.phase = .returning) →
    ∃ u, exec (.reliefEngineFailure t) s = .next u ∧ u.relief.failed = true ∧ (u.wheel s.relief.wheel).lostFrom = some ((s.advance t).unvouched false) ∧
      (u.wheel s.relief.wheel).engine = 2) ∧
  (∀ (t : Nat) (s : State), s.relief.failed = false → s.relief.phase = .free →
    exec (.reliefEngineFailure t) s = .next { s.advance t with relief := { s.relief with failed := true } })

/-! ## Power quality, captures and streams (08) -/

/-- Rows HALF_CYCLE_REFRESH and SYNTHETIC_REFRESH. On a channel that the engine measures, a zero crossing of its reference that is due is its refresh; where the full cycle that ends there is valid it adds one half-cycle value as the newest: the mean square of that cycle's samples, with their
flags, those of lateness and CLOCK_UNTRUSTED, and none where it is not computed. Where none came for one and a half nominal half-periods, a synthetic refresh follows the last one by a half-period, its value over the nominal cycle before it with NO_SYNC. A refresh that is not due, or a channel that is not measured, only
sees time pass.
A row that names the other direction or another number changes nothing. The model's choices: the wet side reads a cadence when it is published, and a lost sample counts zero (log 121);
the first synthetic refresh is counted from the restart (log 123); what the rows name (log 129). -/
def Obligations.PqRefreshRows : Prop :=
  (∀ (t c : Nat) (x : Rat) (rising : Bool) (e : Edges) (s : State), (s.advance t).pqActive c = true → (s.advance t).nextRefresh c = .crossing x rising e →
    let a := s.advance t
    ∃ u, exec (.halfCycleRefresh t c rising) s = .next u ∧ (u.pqRec c).refresh = some x ∧ u.time = a.time ∧ u.out = s.out ∧
      (∀ p ∈ e.crossings[1]?, validCycle p.t x = true → (u.pqRec c).hcSeq = (s.pqRec c).hcSeq + 1 ∧
        (u.pqRec c).hc.head? = some {
          at_ := (a.instant x).stamp
          sq := if (a.lateFlags x).getLsbD 8 then 0 else a.meanSquare c (a.partsIn c p.t x)
          flags := a.pqFlags (sampleFlags (a.partsIn c p.t x) ||| a.lateFlags x) }) ∧
      ((∀ p ∈ e.crossings[1]?, validCycle p.t x = false) → (u.pqRec c).hcSeq = (s.pqRec c).hcSeq)) ∧
  (∀ (t c : Nat) (rising : Bool) (s : State), ((s.advance t).pqActive c = false ∨ ∀ x e, (s.advance t).nextRefresh c ≠ .crossing x rising e) →
    exec (.halfCycleRefresh t c rising) s = .next (s.advance t)) ∧
  (∀ (t c : Nat) (x : Rat) (e : Edges) (s : State), (s.advance t).pqActive c = true → (s.advance t).nextRefresh c = .synthetic x e →
    let a := s.advance t
    let from_ := x - 2 * (s.pqRec c).cfg.halfSamples
    ∃ u, exec (.syntheticRefresh t c ((s.pqRec c).hcSeq + 1)) s = .next u ∧ (u.pqRec c).refresh = some x ∧ (u.pqRec c).hcSeq = (s.pqRec c).hcSeq + 1 ∧
      (u.pqRec c).hc.head? = some {
        at_ := (a.instant x).stamp
        sq := if (a.lateFlags x).getLsbD 8 then 0 else a.meanSquare c (a.partsIn c from_ x)
        flags := a.pqFlags (sampleFlags (a.partsIn c from_ x) ||| noSync ||| a.lateFlags x) }) ∧
  (∀ (t c n : Nat) (s : State), ((s.advance t).pqActive c = false ∨ n ≠ (s.pqRec c).hcSeq + 1 ∨ ∀ x e, (s.advance t).nextRefresh c ≠ .synthetic x e) →
    exec (.syntheticRefresh t c n) s = .next (s.advance t)) ∧
  (∀ (c : Nat) (x : Rat) (e : Edges) (s : State), s.nextRefresh c = .synthetic x e →
    ∃ p, (s.pqRec c).refresh = some p ∧ x = p + (s.pqRec c).cfg.halfSamples ∧ p + (s.pqRec c).cfg.halfSamples * 3 / 2 < (s.copyEnd : Rat)) ∧
  (∀ (c : Nat) (x : Rat) (rising : Bool) (e : Edges) (s : State), s.nextRefresh c = .crossing x rising e →
    ∃ p, (s.pqRec c).refresh = some p ∧ x ≤ p + (s.pqRec c).cfg.halfSamples * 3 / 2 ∧ x < (s.copyEnd : Rat))

/-- Rows AGGREGATE_150_CLOSE, TEN_MINUTE_TICK, TEN_SECOND_FREQUENCY_INTERVAL and TRUNCATED_EVENT. With 15 windows held a sequence closes: its number advances, none is held any more, other channels' records stay. At a multiple of 600 s the window in progress of each channel whose refreshes before it have taken place
becomes the one of the interval that ends, which closes at once where there is none; at a multiple of 10 s each such channel has a new frequency interval and drops its cycles that began before it; each once a second, and no other channel changes. An open event without a valid value for a second closes, and detection begins again. -/
def Obligations.PqIntervalRows : Prop :=
  (∀ (t c : Nat) (s : State), 15 ≤ (s.pqRec c).held150.length → (s.advance t).domOn 12 = true →
    ∃ u, exec (.aggregate150Close t c) s = .next u ∧ (u.pqRec c).held150 = [] ∧ (u.pqRec c).agg150Seq = (s.pqRec c).agg150Seq + 1 ∧
      (u.pqRec c).hcSeq = (s.pqRec c).hcSeq ∧ (∀ d, d ≠ c → u.pqRec d = s.pqRec d) ∧ u.chan = s.chan ∧ u.evt = s.evt) ∧
  (∀ (t c : Nat) (s : State), (s.pqRec c).held150.length < 15 ∨ (s.advance t).domOn 12 = false → exec (.aggregate150Close t c) s = .next (s.advance t)) ∧
  (∀ (c sec : Nat) (s : State), c ∈ s.tickChannels sec ↔ (s.pqActive c = true ∧ s.secondAt sec ≤ (s.copyEnd : Rat) ∧ s.refreshedTo c (s.secondAt sec) = true)) ∧
  (∀ (t : Nat) (s : State),
    let a := s.advance t
    let sec := a.second / 600 * 600
    ∃ u, exec (.tenMinuteTick t) s = .next u ∧ u.evt = s.evt ∧ u.chan = s.chan ∧
      (∀ c ∈ a.tickChannels sec, (s.pqRec c).tick600 ≠ some sec →
        (u.pqRec c).win = none ∧ (u.pqRec c).oldWin = (s.pqRec c).win ∧ (u.pqRec c).tick600 = some sec ∧ (u.pqRec c).tenFrom = (sec - 600) * 2 ^ 24 ∧
        (u.pqRec c).tenTo = sec * 2 ^ 24 ∧ (u.pqRec c).held150 = [] ∧
        ((s.pqRec c).win = none → (u.pqRec c).agg10Seq = (s.pqRec c).agg10Seq + 1 ∧ (u.pqRec c).held10 = []) ∧
        ((s.pqRec c).win ≠ none → (u.pqRec c).agg10Seq = (s.pqRec c).agg10Seq ∧ (u.pqRec c).held10 = (s.pqRec c).held10)) ∧
      (∀ c, (c ∉ a.tickChannels sec ∨ (s.pqRec c).tick600 = some sec) → u.pqRec c = s.pqRec c)) ∧
  (∀ (t : Nat) (s : State),
    let a := s.advance t
    let sec := a.second / 10 * 10
    ∃ u, exec (.tenSecondFrequencyInterval t) s = .next u ∧ u.evt = s.evt ∧ u.chan = s.chan ∧
      (∀ c ∈ a.tickChannels sec, (s.pqRec c).tick10 ≠ some sec →
        (u.pqRec c).tick10 = some sec ∧ (u.pqRec c).freq10Start = (sec - 10) * 2 ^ 24 ∧
        (u.pqRec c).cycles = (s.pqRec c).cycles.filter fun y => decide (sec * 2 ^ 24 ≤ y.1)) ∧
      (∀ c, (c ∉ a.tickChannels sec ∨ (s.pqRec c).tick10 = some sec) → u.pqRec c = s.pqRec c)) ∧
  (∀ (t c : Nat) (s : State), (s.pqRec c).open_ ≠ [] → (s.pqRec c).validAt.getD 0 + 2 ^ 24 ≤ (s.advance t).stamp →
    ∃ u, exec (.truncatedEvent t c) s = .next u ∧ (u.pqRec c).open_ = [] ∧ (u.pqRec c).primed = false) ∧
  (∀ (t c : Nat) (s : State), ((s.pqRec c).open_ = [] ∨ (s.advance t).stamp < (s.pqRec c).validAt.getD 0 + 2 ^ 24) →
    exec (.truncatedEvent t c) s = .next (s.advance t))

/-- Rows CAPTURE_FREEZE, STREAM_ROW and STREAM_CONS_WRITE. A segment in POST whose last row contains T + post or lies after it is FROZEN and counted; until then nothing changes. The next row of a stream, complete once the copy holds its samples, goes to the ring where nothing is staged and the credit covers it, else to the staging;
where 8 rows are staged and the credit does not cover the first, the oldest is dropped and counted. A CONS on a port that carries the owner is taken where it is within PROD and the ring, else the stream tells of it; on another port it is a blocked access.
A row of another
segment or number than the next changes nothing (the model's choice, log 129). -/
def Obligations.CaptureAndStreamRows : Prop :=
  (∀ (t k i : Nat) (c : Capture) (l : Laid) (s : State), s.pq.captures.find k = some c → (c.inState .post).head? = some i →
    (c.seg i).kept.getLast? = some l → (c.seg i).endAt < l.stamp + rowSpan c.cfg.format →
    ∃ u, exec (.captureFreeze t k i) s = .next u ∧
      (u.pq.captures.find k).map (fun d => ((d.seg i).state, (d.seg i).seq, (d.seg i).lastStamp, d.frozen)) = some (.frozen, c.frozen + 1, l.stamp, c.frozen + 1) ∧
      (∀ j, j ≠ k → u.pq.captures.find j = s.pq.captures.find j) ∧ (s.evt.disabled.getLsbD (576 + k) = false → k < 32 → u.evt.pending.getLsbD (576 + k) = true)) ∧
  (∀ (t k i : Nat) (s : State),
    (∀ c, s.pq.captures.find k = some c → (c.inState .post).head? = some i → ∀ l ∈ (c.seg i).kept.getLast?, l.stamp + rowSpan c.cfg.format ≤ (c.seg i).endAt) →
    exec (.captureFreeze t k i) s = .next (s.advance t)) ∧
  (∀ (t k : Nat) (x : Stream) (s : State), s.pq.streams.find k = some x → (s.advance t).rowReady x = true → x.staged = [] →
    let a := s.advance t
    let w := a.rowAt x.cfg.format x.cfg.channels x.next
    let n := { x with next := x.next + 1, spilling := false }
    (x.covers w = true → exec (.streamRow t k x.next) s = .next (a.putStream k (n.putRow s.mem w).1 (n.putRow s.mem w).2)) ∧
    (x.covers w = false → exec (.streamRow t k x.next) s = .next (a.putStream k { n with staged := [w] } s.mem))) ∧
  (∀ (t k : Nat) (x : Stream) (v : Row) (rest : List Row) (s : State), s.pq.streams.find k = some x → (s.advance t).rowReady x = true → x.staged = v :: rest →
    x.staged.length = 8 → x.covers v = false →
    ∃ u, exec (.streamRow t k x.next) s = .next u ∧
      (u.pq.streams.find k).map (fun y => (y.staged, y.dropped, y.spilling, y.prod, y.next)) =
        some (rest ++ [(s.advance t).rowAt x.cfg.format x.cfg.channels x.next], x.dropped + 1, true, x.prod, x.next + 1)) ∧
  (∀ (t k n : Nat) (s : State), (∀ x, s.pq.streams.find k = some x → (s.advance t).rowReady x = false ∨ n ≠ x.next) → exec (.streamRow t k n) s = .next (s.advance t)) ∧
  (∀ (t : Nat) (x : Stream) (s : State), (s.advance t).rowReady x = true ↔
    (x.ended = false ∧ (s.advance t).domOn 12 = true ∧ (x.next + 1) * rowClocks x.cfg.format ≤ s.copyEnd * 3072)) ∧
  (∀ (t p k : Nat) (v : BitVec 32) (x : Stream) (s : State), s.pwr.portsReady = true → p < 2 → s.pq.streams.find k = some x → x.ended = false →
    (s.carries p x.owner = true → (x.prod - v).toNat ≤ x.size → (v - x.cons).toNat ≤ x.size →
      let y := Stream.drain 9 { x with cons := v } s.mem
      exec (.streamConsWrite t p k v) s = .next ((s.advance t).putStream k y.1 y.2)) ∧
    (s.carries p x.owner = true → (x.size < (x.prod - v).toNat ∨ x.size < (v - x.cons).toNat) →
      exec (.streamConsWrite t p k v) s = .next ((s.advance t).fire (608 + k) 2 v)) ∧
    (s.carries p x.owner = false → exec (.streamConsWrite t p k v) s = .next (blockAccess p (x.base + 4) true (s.advance t))))

/-! ## Calibration runs and references (09) -/

/-- Rows CALIBRATION_RUN_END, REFERENCE_LEG_END and CANDIDATE_EXPIRY. A RUNNING candidate whose last cadence has been seen ends: READY with new sets and the instant, or another final status without any. A leg whose cadences are over returns its spoke; one whose halves agree records REF_RESP, any other is
broken. A READY candidate that is not committed within 3,600 s is gone. Before that, and without a candidate, nothing changes. -/
def Obligations.CandidateRows : Prop :=
  (∀ (c g : Nat) (k : Cand) (s : State), s.cand c g = some k → k.status = .running → k.runEnd ≤ k.seen + 1 →
    ∃ (u : State) (j : Cand), exec (.calibrationRunEnd c g) s = .next u ∧ u.cand c g = some j ∧ j.status ≠ .running ∧
      (j.status = .ready → j.readyAt = some s.now ∧ j.new0.isSome = k.spokePath ∧ j.new1.isSome = k.jockeyPath) ∧
      (j.status ≠ .ready → j.readyAt = none ∧ j.new0 = none ∧ j.new1 = none) ∧
      (k.broken = true → j.status = .failed) ∧ (∀ d, d ≠ c → u.channel d = s.channel d) ∧ u = { s with chan := u.chan }) ∧
  (∀ (c g : Nat) (s : State), (∀ k ∈ s.cand c g, k.status ≠ .running ∨ k.seen + 1 < k.runEnd) → exec (.calibrationRunEnd c g) s = .next s) ∧
  (∀ (c g : Nat) (k : Cand) (s : State), s.cand c g = some k → k.status = .running → k.leg = true → k.bc + 18 ≤ s.time.bnd →
    ((s.wheel (c / 8)).slice (c % 8)).state = .service → (s.wheel (c / 8)).ret = none → k.seen + 1 < k.bc + 18 →
    exec (.referenceLegEnd c g) s = .next (returnPass (c / 8) (c % 8) s)) ∧
  (∀ (c g : Nat) (k : Cand) (s : State), s.cand c g = some k → k.status = .running → k.leg = true → k.bc + 18 ≤ k.seen + 1 → k.refResp = none → k.broken = false →
    ((s.wheel (c / 8)).slice (c % 8)).state ≠ .service →
    ∃ (u : State) (j : Cand), exec (.referenceLegEnd c g) s = .next u ∧ u.cand c g = some j ∧ (j.broken = true ∨ j.refResp.isSome = true) ∧
      (k.legHalves.means = none → j.broken = true) ∧ j.status = .running) ∧
  (∀ (c g : Nat) (s : State), (∀ k ∈ s.cand c g, k.status ≠ .running ∨ k.leg = false) → exec (.referenceLegEnd c g) s = .next s) ∧
  (∀ (t c g a : Nat) (k : Cand) (s : State), s.cand c g = some k → k.readyAt = some a → k.status = .ready → a + seconds 3600 ≤ (s.advance t).now →
    exec (.candidateExpiry t c g) s = .next ((s.advance t).modChannel c fun ch => { ch with cand := Tab.erase ch.cand g })) ∧
  (∀ (t c g a : Nat) (k : Cand) (s : State), s.cand c g = some k → k.readyAt = some a → (s.advance t).now < a + seconds 3600 →
    exec (.candidateExpiry t c g) s = .next (s.advance t))

/-- Rows REFERENCE_RATIO_MEAN and REFERENCE_FAILURE, and the handover. At the boundary that begins a second the means are evaluated, to 0.1 ppm of the mean of a reference's samples (the rounding is log 126's), the selected one 1 to itself, a failed reference without one; at no other. A present reference that fails is FAILED and its event is set where it is enabled; the selected one orders its handover and its samples are LOST meanwhile.
After a handover the reference chosen is selected, no handover is due, nothing is LOST, and the state is NORMAL. -/
def Obligations.ReferenceRows : Prop :=
  (∀ (r : RatioIn) (s : State), s.time.off = 0 → s.time.cad % 125 = 0 →
    ∃ u, exec (.referenceRatioMean r) s = .next u ∧ u.refs.ratios = s.refs.means r.samples ∧
      u.refs.sel = s.refs.sel ∧ u.refs.kRef = s.refs.kRef ∧ u.chan = s.chan ∧ u.mem = s.mem) ∧
  (∀ (r : RatioIn) (s : State), (s.time.off ≠ 0 ∨ s.time.cad % 125 ≠ 0) → exec (.referenceRatioMean r) s = .next s) ∧
  (∀ (l : Tab (List Rat)) (r : Refs) (x : Nat), x < 3 →
    (r.failed.contains x = true → (r.means l).find x = none) ∧
    (r.failed.contains x = false → x = r.sel → (r.means l).find x = some 1) ∧
    (r.failed.contains x = false → x ≠ r.sel → l.get [] x = [] → (r.means l).find x = none) ∧
    (r.failed.contains x = false → x ≠ r.sel → l.get [] x ≠ [] →
      (r.means l).find x = some ((roundEven (10000000 * (sumRat (l.get [] x) / ((l.get [] x).length : Rat))) : Rat) / 10000000))) ∧
  (∀ (t x : Nat) (s : State), x < 3 → s.refs.failed.contains x = false →
    ∃ u, exec (.referenceFailure t x) s = .next u ∧ u.refs.failed.contains x = true ∧
      u.refs.lost = (s.refs.lost || decide (x = s.refs.sel)) ∧ u.refs.handoverDue = (s.refs.handoverDue || decide (x = s.refs.sel)) ∧
      u.refs.sel = s.refs.sel ∧ (s.evt.disabled.getLsbD 643 = false → u.evt.pending.getLsbD 643 = true)) ∧
  (∀ (t x : Nat) (s : State), (3 ≤ x ∨ s.refs.failed.contains x = true) → exec (.referenceFailure t x) s = .next (s.advance t)) ∧
  (∀ (n : Nat) (s : State), s.refs.handoverDue = true → ({ s.refs.slew with handed := false } : Refs).target = some n →
    (refPass s).refs.sel = n ∧ (refPass s).refs.handoverDue = false ∧ (refPass s).refs.lost = false ∧ (refPass s).refs.state = .normal ∧
    (refPass s).refs.kRef = s.refs.slew.kRef * s.refs.ratios.get 1 n)

/-! ## Tariffs, billing, tamper criteria and readings (10) -/

/-- Rows CALENDAR_ACTIVATION, DEFERRED_CALENDAR_ACTIVATION, DEMAND_SUBINTERVAL_CLOSE, BILLING_DATE_CLOSE and DEFERRED_BILLING_DATE_CLOSE. At a boundary that begins a second, with the clock trusted, an activation due then, or one whose second has passed, exchanges the two calendars and is pending no more; else nothing
changes. A demand quantity whose sub-interval ends closes it, once a boundary; where the local offset moves every one closes, short. A billing date is done once its close has taken place, which takes each meter that follows the calendar into its next period; with the clock untrusted it waits and the deferred row closes
it when the clock is trusted again. -/
def Obligations.TariffRows : Prop :=
  (∀ (p : Nat) (s : State), (s.tariff p).pendingT = some s.second → s.tariffTurn = true → s.trusted = true →
    ∃ u, exec (.calendarActivation p) s = .next u ∧ (u.tariff p).active = (s.tariff p).passive ∧ (u.tariff p).passive = (s.tariff p).active ∧
      (u.tariff p).pendingT = none ∧ (∀ q, q ≠ p → u.tariff q = s.tariff q) ∧ u.time = s.time ∧ u.mem = s.mem ∧ u.mtr = s.mtr ∧ u.book = s.book) ∧
  (∀ (p x : Nat) (s : State), (s.tariff p).pendingT = some x → x < s.second → s.tariffTurn = true → s.trusted = true →
    ∃ u, exec (.deferredCalendarActivation p) s = .next u ∧ (u.tariff p).active = (s.tariff p).passive ∧ (u.tariff p).passive = (s.tariff p).active ∧
      (u.tariff p).pendingT = none ∧ (∀ q, q ≠ p → u.tariff q = s.tariff q) ∧ u.time = s.time ∧ u.mem = s.mem ∧ u.mtr = s.mtr ∧ u.book = s.book) ∧
  (∀ (p : Nat) (s : State), ((∀ x ∈ (s.tariff p).pendingT, x ≠ s.second) ∨ s.tariffTurn = false ∨ s.trusted = false) →
    exec (.calendarActivation p) s = .next s) ∧
  (∀ (p : Nat) (s : State), ((∀ x ∈ (s.tariff p).pendingT, s.second ≤ x) ∨ s.tariffTurn = false ∨ s.trusted = false) →
    exec (.deferredCalendarActivation p) s = .next s) ∧
  (∀ (m k : Nat) (s : State), s.beginsSecond = true → (s.ledger m).subAt ≠ some s.b → (s.meter m).state ≠ .undefined →
    s.bookingDue = false → (s.ledger m).ops = [] → k < 4 → k < (s.ledger m).demand.length →
    let d := (s.ledger m).demand.getD k Demand.unused
    let moved := offsetMoves s (s.meter m).def_.owner
    d.cfg.q ≠ 0xFF → (moved = true ∨ (s.tariff (s.meter m).def_.owner).active.localAt s.second % ((60 * d.cfg.l : Nat) : Int) = 0) →
    ∃ u, exec (.demandSubintervalClose m) s = .next u ∧ ((u.ledger m).demand.getD k Demand.unused).acc = 0 ∧
      ((u.ledger m).demand.getD k Demand.unused).closes = d.closes + 1 ∧ ((u.ledger m).demand.getD k Demand.unused).short = moved ∧
      ((u.ledger m).demand.getD k Demand.unused).hist = ((d.acc, d.short || moved) :: d.hist).take 14 ∧ (u.ledger m).subAt = some s.b ∧
      (u.ledger m).total = (s.ledger m).total ∧ (∀ n, n ≠ m → u.ledger n = s.ledger n) ∧ u = { s with led := u.led }) ∧
  (∀ (m : Nat) (s : State), (s.beginsSecond = false ∨ (s.ledger m).subAt = some s.b ∨ (s.meter m).state = .undefined) →
    exec (.demandSubintervalClose m) s = .next s) ∧
  (∀ (p key : Nat) (s : State), (s.tariff p).active.billKey s.second = some key → (∀ k ∈ (s.tariff p).billDone, k < key) → s.beginsSecond = true →
    (s.tariff p).billWait = false → s.trusted = true →
    ∃ u, exec (.billingDateClose p) s = .next u ∧ (u.tariff p).billDone = some key ∧ (u.tariff p).billWait = false ∧
      ((s.mtr.map (·.1)).Nodup → s.bookingDue = false → ∀ m ∈ mode0Of s p, (s.ledger m).ops = [] →
        (u.ledger m).period = ((s.ledger m).period + 1) % 2 ^ 32 ∧ (u.ledger m).total = (s.ledger m).total) ∧
      (∀ m, m ∉ mode0Of s p → u.ledger m = s.ledger m) ∧ u = { s with tar := u.tar, led := u.led }) ∧
  (∀ (p key : Nat) (s : State), (s.tariff p).active.billKey s.second = some key → (∀ k ∈ (s.tariff p).billDone, k < key) → s.beginsSecond = true →
    (s.tariff p).billWait = false → s.trusted = false → exec (.billingDateClose p) s = .next (s.modTariff p fun t => { t with billWait := true })) ∧
  (∀ (p key : Nat) (s : State), (s.tariff p).active.billKey s.second = some key → s.beginsSecond = true → (s.tariff p).billWait = true → s.trusted = true →
    ∃ u, exec (.deferredBillingDateClose p) s = .next u ∧ (u.tariff p).billDone = some key ∧ (u.tariff p).billWait = false ∧
      ((s.mtr.map (·.1)).Nodup → s.bookingDue = false → ∀ m ∈ mode0Of s p, (s.ledger m).ops = [] →
        (u.ledger m).period = ((s.ledger m).period + 1) % 2 ^ 32 ∧ (u.ledger m).total = (s.ledger m).total) ∧
      (∀ m, m ∉ mode0Of s p → u.ledger m = s.ledger m) ∧ u = { s with tar := u.tar, led := u.led }) ∧
  (∀ (p : Nat) (s : State), s.beginsSecond = false → exec (.billingDateClose p) s = .next s ∧ exec (.deferredBillingDateClose p) s = .next s)

/-- A close takes the period's totals and rates into the snapshot of its number, clears the maxima and the sticky bits of the period, and opens the next period at its instant; the registers go on. A sub-interval's close may raise its maximum: to the demand of the last S sub-intervals, where none of them
is short and there are S of them, and never down. -/
def Obligations.PeriodsAndDemand : Prop :=
  (∀ (l : Ledger) (cause stamp : Nat), let u := l.closePeriod cause stamp
    u.total = l.total ∧ u.rate = l.rate ∧ u.period = (l.period + 1) % 2 ^ 32 ∧ u.periodOpen = stamp ∧ u.stickyPeriod = 0 ∧ u.stickyRead = l.stickyRead ∧
    u.md = l.md.map (fun _ => (0, 0)) ∧
    (u.snap.find (l.period % 12)).map (fun x => (x.period, x.cause, x.open_, x.close, x.tot, x.rate, x.sflags)) =
      some (l.period, cause, l.periodOpen, stamp, l.total.map (fun v => v / 2 ^ 16 % 2 ^ 64), l.rate.map (fun v => v / 2 ^ 16 % 2 ^ 64), l.stickyPeriod)) ∧
  (∀ (l : Ledger) (k stamp : Nat) (e st : Bool), k < l.md.length → ((l.closeSub k stamp e st).md.getD k (0, 0)).1 ≥ (l.md.getD k (0, 0)).1) ∧
  (∀ (l : Ledger) (k stamp : Nat) (st : Bool), (l.demand.getD k Demand.unused).cfg.q ≠ 0xFF → 
    (l.closeSub k stamp true st).total = l.total ∧ (l.closeSub k stamp true st).period = l.period ∧
    (0 < (l.demand.getD k Demand.unused).cfg.s → (l.closeSub k stamp true st).md.getD k (0, 0) = l.md.getD k (0, 0))) ∧
  (∀ (l : Ledger) (k stamp : Nat) (e st : Bool), (l.demand.getD k Demand.unused).cfg.q = 0xFF → l.closeSub k stamp e st = l)

/-- Rows TAMPER_CRITERION_START and _END, READING_COMPOSITION and READING_SIGNED. A criterion that has been met for T_ON consecutive cadences, and is not fused off, becomes active, counted and stamped with the boundary that closed the last of them; one not met for T_OFF ends; each sets the meter's event where it is
enabled. The oldest queued reading is composed when the signer is free and the device may sign. Its signature ends it: READ_SEQ is that of the record, STICKY_READ is clear and the nonce is journaled. -/
def Obligations.TamperAndReadingRows : Prop :=
  (∀ (m k : Nat) (s : State), m < 256 → k < 5 → k < (s.ledger m).tamper.length →
    let e := (s.ledger m).tamper.getD k TamperEnt.zero
    e.active = false → (s.ledger m).cfg.tOn ≤ e.onRun → s.guard.fuses.getLsbD (19 + criterionOf k) = false →
    ∃ u, exec (.tamperCriterionStart m k) s = .next u ∧
      (u.ledger m).tamper.getD k TamperEnt.zero =
        { e with active := true, count := e.count + 1, lastStart := stampOf (((s.ledger m).booked + 1) * cadenceClocks) } ∧
      (u.ledger m).total = (s.ledger m).total ∧ (∀ n, n ≠ m → u.ledger n = s.ledger n) ∧
      (s.evt.disabled.getLsbD (256 + m) = false → u.evt.pending.getLsbD (256 + m) = true) ∧ u.mem = s.mem ∧ u.time = s.time) ∧
  (∀ (m k : Nat) (s : State), (5 ≤ k ∨ s.guard.fuses.getLsbD (19 + criterionOf k) = true ∨ ((s.ledger m).tamper.getD k TamperEnt.zero).active = true ∨
      ((s.ledger m).tamper.getD k TamperEnt.zero).onRun < (s.ledger m).cfg.tOn) → exec (.tamperCriterionStart m k) s = .next s) ∧
  (∀ (m k : Nat) (s : State), m < 256 → k < 5 → k < (s.ledger m).tamper.length →
    let e := (s.ledger m).tamper.getD k TamperEnt.zero
    e.active = true → (s.ledger m).cfg.tOff ≤ e.offRun →
    ∃ u, exec (.tamperCriterionEnd m k) s = .next u ∧ (u.ledger m).tamper.getD k TamperEnt.zero = { e with active := false } ∧
      (∀ n, n ≠ m → u.ledger n = s.ledger n) ∧ (s.evt.disabled.getLsbD (256 + m) = false → u.evt.pending.getLsbD (256 + m) = true)) ∧
  (∀ (t : Nat) (q : SignReq) (rest : List SignReq) (s : State), s.sign.busy = none → s.sign.queue = q :: rest →
    (s.maySign = true → exec (.readingComposition t) s = .next { s.advance t with sign := { queue := rest, busy := some {
        held := q.held, meter := q.req.meter, seq := (s.ledger q.req.meter).readSeq + 1
        record := readingRecord q.req (s.ledger q.req.meter).owner ((s.ledger q.req.meter).readSeq + 1) (s.advance t)
        signKey := (s.polder (s.ledger q.req.meter).owner).signKey } } }) ∧
    (s.maySign = false → exec (.readingComposition t) s =
      .next (({ s.advance t with sign := { s.sign with queue := rest } } : State).finish q.held stBusyRetry [] false))) ∧
  (∀ (t : Nat) (s : State), (s.sign.busy.isSome = true ∨ s.sign.queue = []) → exec (.readingComposition t) s = .next (s.advance t)) ∧
  (∀ (t : Nat) (r : SignRec) (s : State), s.sign.busy = some r →
    ∃ u, exec (.readingSigned t) s = .next u ∧ u.sign.busy = none ∧ (u.ledger r.meter).readSeq = r.seq ∧ (u.ledger r.meter).stickyRead = 0 ∧
      (r.held.nonce ≠ 0 → r.held.nonce ∈ (u.polder r.held.polder).journal) ∧ (∀ n, n ≠ r.meter → u.ledger n = s.ledger n)) ∧
  (∀ (t : Nat) (s : State), s.sign.busy = none → exec (.readingSigned t) s = .next (s.advance t))

/-! ## Sluices, completions and restarts (12, 11) -/

/-- A completion whose result fits its entry is written as the 64 bytes of its slot, and no other byte of memory changes; POSTED advances, a final one frees its ticket and no other, and the sluice's event is set where it is enabled. Every other sluice is as before. -/
def Obligations.CompletionWritten : Prop :=
  ∀ (k : Completion) (s : State), k.sluice < 32 → k.result.length ≤ 40 →
    let base := 0x01000000 + k.sluice * 0x10000 + 0x4000 + 64 * ((s.sluice k.sluice).posts % 256)
    let u := s.writeCompletion k
    (completionBytes k ((s.sluice k.sluice).posts + 1)).length = 64 ∧
    (s.mem.wf = true → u.mem.readAll base 64 = completionBytes k ((s.sluice k.sluice).posts + 1)) ∧
    (s.mem.wf = true → ∀ a, (a < base ∨ base + 64 ≤ a) → u.mem.read a = s.mem.read a) ∧
    (u.sluice k.sluice).posts = (s.sluice k.sluice).posts + 1 ∧ (u.sluice k.sluice).posted = (s.sluice k.sluice).posted + 1 ∧
    (∀ n, n ≠ k.sluice → u.sluice n = s.sluice n) ∧
    u.out = { s.out with held := if k.final then s.out.held.filter (fun h => some h.order != k.order) else s.out.held } ∧
    (s.evt.disabled.getLsbD (512 + k.sluice) = false → u.evt.pending.getLsbD (512 + k.sluice) = true) ∧
    u.time = s.time ∧ u.led = s.led ∧ u.whl = s.whl ∧ u.mtr = s.mtr

/-- Rows DOORBELL, COMPLETION_ACKNOWLEDGE and DEFERRED_COMPLETION_POST. A doorbell with another epoch is stale and one for more than 256 entries overruns: each is recorded and told and takes nothing; one for nothing new changes nothing; one for one entry takes it from the ring slot. A CONS within POSTED is taken, another is
ignored. A completion that falls due is written when nothing waits and the ring has room, else it waits behind the others; the oldest that waits is written once there is room. -/
def Obligations.DoorbellRows : Prop :=
  (∀ (t p n : Nat) (v : BitVec 32) (s : State), s.observes p n = true → v.toNat / 2 ^ 16 ≠ (s.sluice n).epoch.toNat →
    exec (.doorbell t p n v) s =
      .next (((s.advance t).modSluice n fun x => { x with staleDb := true }).signal (544 + n) 2 v (s.advance t).stamp)) ∧
  (∀ (t p n : Nat) (v : BitVec 32) (s : State), s.observes p n = true → v.toNat / 2 ^ 16 = (s.sluice n).epoch.toNat →
    256 < (v.setWidth 16 - (s.sluice n).taken).toNat →
    exec (.doorbell t p n v) s = .next (((s.advance t).modSluice n fun x => { x with overrun := true }).signal (544 + n) 3 v (s.advance t).stamp)) ∧
  (∀ (t p n : Nat) (v : BitVec 32) (s : State), s.observes p n = true → v.toNat / 2 ^ 16 = (s.sluice n).epoch.toNat →
    (v.setWidth 16 = (s.sluice n).taken → exec (.doorbell t p n v) s = .next (s.advance t)) ∧
    (v.setWidth 16 = (s.sluice n).taken + 1 → exec (.doorbell t p n v) s =
      .next (takeEntry 0 (readEntry p n (s.sluice n).taken.toNat (s.advance t)) (s.advance t)))) ∧
  (∀ (t p n : Nat) (v : BitVec 32) (s : State), s.observes p n = false → exec (.doorbell t p n v) s = .next (s.advance t)) ∧
  (∀ (t p n : Nat) (v : BitVec 32) (s : State), s.pwr.portsReady = true → p < 2 → n < 32 →
    exec (.completionAcknowledge t p n v) s = .next (
      if (v.setWidth 16 - (s.sluice n).cons).toNat ≤ ((s.sluice n).posted - (s.sluice n).cons).toNat
      then (s.advance t).modSluice n fun x => { x with cons := v.setWidth 16 } else s.advance t)) ∧
  (∀ (k : Completion) (s : State), k.final = false →
    s.postCompletion k = (if (s.sluice k.sluice).waiting.isEmpty && (s.sluice k.sluice).room then s.writeCompletion k
      else s.modSluice k.sluice fun x => { x with waiting := x.waiting ++ [k] })) ∧
  (∀ (t n : Nat) (k : Completion) (rest : List Completion) (s : State), (s.sluice n).waiting = k :: rest →
    exec (.deferredCompletionPost t n) s = .next (if (s.sluice n).room
      then ((s.advance t).modSluice n fun x => { x with waiting := rest }).writeCompletion k else s.advance t)) ∧
  (∀ (t n : Nat) (s : State), (s.sluice n).waiting = [] → exec (.deferredCompletionPost t n) s = .next (s.advance t))

/-- An enabled source that fires adds one entry to its owner's queue, at its end; a queue of 256 entries loses its oldest for it, stays at 256, and counts the drop; the first drop since the last `event.read` fires EV0704 + p with CODE 1, whose own entry is the queue's last where it is enabled, and a later drop does not. `event.read` reports the count and
starts it anew. -/
def Obligations.EventQueueFull : Prop :=
  (∀ (s : State) (e code stamp : Nat) (data : BitVec 32), s.evt.disabled.getLsbD e = false → sourceExists e = true →
    let p := s.owner e
    let q := s.polder p
    let r := (s.post e code data stamp).polder p
    (q.queue.length < 256 → r.queue = q.queue ++ [⟨stamp, e, code, data⟩] ∧ r.dropped = q.dropped) ∧
    (q.queue.length = 256 → r.queue = q.queue.drop 1 ++ [⟨stamp, e, code, data⟩] ∧ r.dropped = q.dropped + 1 ∧ r.queue.length = 256)) ∧
  (∀ (s : State) (e code stamp : Nat) (data : BitVec 32), s.evt.disabled.getLsbD e = false → sourceExists e = true →
    let p := s.owner e
    p < 16 → (s.polder p).queue.length = 256 →
    ((s.polder p).overflow = false → s.evt.disabled.getLsbD (704 + p) = false →
      ((s.signal e code data stamp).polder p).queue.getLast? = some ⟨s.stamp, 704 + p, 1, BitVec.ofNat 32 ((s.polder p).dropped + 1)⟩ ∧
      ((s.signal e code data stamp).polder p).overflow = true ∧ (s.signal e code data stamp).evt.pending.getLsbD (704 + p) = true) ∧
    ((s.polder p).overflow = true → ((s.signal e code data stamp).polder p).queue.getLast? = some ⟨stamp, e, code, data⟩)) ∧
  (∀ (p n : Nat) (s : State), (eventRead p n s).1.take 8 = leBytes 4 ((s.polder p).queue.length - ((s.polder p).queue.take n).length) ++ leBytes 4 (s.polder p).dropped ∧
    ((eventRead p n s).2.polder p).dropped = 0 ∧ ((eventRead p n s).2.polder p).overflow = false ∧ ((eventRead p n s).2.polder p).queue = (s.polder p).queue.drop n)

/-- Rows LOCKSTEP_MISMATCH, WET_RESTART_COMPLETE and WET_TRIAL_EXPIRY. A lockstep mismatch of a running dry side restarts it: no channel keeps a candidate, no wheel a run, open sub-intervals are lost, and time goes on. A wet restart that is complete is in progress no more; the host ports answer again where the dry side's first results are out or its image failed, and stay asleep in HUSH. A trial that has lasted 600 s ends with a restart into the former copy, the host ports not ready. Otherwise nothing changes. -/
def Obligations.RestartRows : Prop :=
  (∀ (t : Nat) (s : State), s.dryRuns = true → ∃ u, exec (.lockstepMismatch t) s = .next u ∧ (∀ c, (u.channel c).cand = []) ∧
    (∀ w, w < 16 → (u.wheel w).calRun = none) ∧ (∀ m, ∀ d ∈ (u.ledger m).demand, d.short = true ∧ d.acc = 0) ∧ u.time = (s.advance t).time) ∧
  (∀ (t : Nat) (s : State), s.dryRuns = false → exec (.lockstepMismatch t) s = .next (s.advance t)) ∧
  (∀ (t : Nat) (ok : Bool) (x : Nat × Bool) (s : State), s.flash.restarting = some x →
    ∃ u, exec (.wetRestartComplete t ok) s = .next u ∧ u.flash.restarting = none ∧
      (s.pwr.state ≠ .hush → u.pwr.portsReady = (!s.pwr.startBoundary && (!s.pwr.dryOk || s.pwr.firstPub)) ∧ u.irqKick = (s.irqKick && !s.pwr.dryOk)) ∧
      (s.pwr.state = .hush → ok = true → u.pwr.portsReady = false ∧ u.irqKick = s.irqKick) ∧
      (ok = true → u.pwr.wetActive = s.pwr.wetActive ∧ (u.flash.trial.map (·.2)) = s.flash.trial.map (·.2)) ∧
      (ok = false → u.flash.trial = none)) ∧
  (∀ (t : Nat) (ok : Bool) (s : State), s.flash.restarting = none → exec (.wetRestartComplete t ok) s = .next (s.advance t)) ∧
  (∀ (a : Nat) (former : Bool) (s : State), s.flash.trial = some (a, former) → s.flash.restarting = none → a + seconds 600 ≤ s.now →
    ∃ u, exec .wetTrialExpiry s = .next u ∧ u.pwr.portsReady = false ∧ u.pwr.wetActive = former ∧ u.flash.trial = none ∧
      u.flash.restarting = some (0, false) ∧ u.out.staged = [] ∧ u.out.refusals = []) ∧
  (∀ s : State, (s.flash.trial = none ∨ s.flash.restarting.isSome = true ∨ ∀ x ∈ s.flash.trial, s.now < x.1 + seconds 600) →
    exec .wetTrialExpiry s = .next s)

/-! ## Host ports and registers (14) -/

/-- Rows BAD_INSTRUCTION, UNALIGNED_ADDRESS, BLOCKED_ACCESS, REGISTER_WRITE and SLUICE_WINDOW_WRITE, on a port that is ready. A wrong instruction and an unaligned address set their error flags and do nothing else. An access of the aperture that the port may not make is counted and flagged, a read of it returns zero, and memory stays. A
one-word write of a register does what that register does; an address without a writable register takes nothing. A word in a sluice window lands at its address, but not in the completion ring. While the ports are not ready no host row does anything. -/
def Obligations.HostTransfers : Prop :=
  (∀ (t p : Nat) (i : Byte) (s : State), s.pwr.portsReady = true → p < 2 → exec (.badInstruction t p i) s = .next (
    if goodInstruction (s.port p).qpi i then s.advance t else (s.advance t).portError p fun q => { q with badInstr := true })) ∧
  (∀ (t p a : Nat) (s : State), s.pwr.portsReady = true → p < 2 → exec (.unalignedAddress t p a) s = .next (
    if a % 4 = 0 then s.advance t else (s.advance t).portError p fun q => { q with unaligned := true })) ∧
  (∀ (t p a : Nat) (write : Bool) (s : State), s.pwr.portsReady = true → p < 2 → inAperture a = true → s.permitted p a write = false →
    ∃ u, exec (.blockedAccess t p a write) s = .next u ∧ (u.port p).blocked = true ∧ (u.port p).blockCount = (s.port p).blockCount + 1 ∧
      (write = false → (u.port p).rdata = 0) ∧ (∀ n, n ≠ p → u.port n = s.port n) ∧ u.mem = s.mem ∧ u.pq = s.pq ∧ u.out = s.out ∧ u.evt = s.evt) ∧
  (∀ (t p a : Nat) (write : Bool) (s : State), (inAperture a = false ∨ s.permitted p a write = true) →
    exec (.blockedAccess t p a write) s = .next (s.advance t)) ∧
  (∀ (t p a : Nat) (v : BitVec 32) (s : State), s.pwr.portsReady = true → p < 2 → a < 0x10000 → a % 4 = 0 →
    (¬ (0x6400 ≤ a ∧ a < 0x6600 ∧ a % 16 = 0) → exec (.registerWrite t p a (leBytes 4 v.toNat)) s = .next (registerWord p a v (s.advance t))) ∧
    (0x6400 ≤ a ∧ a < 0x6600 ∧ a % 16 = 0 →
      exec (.registerWrite t p a (leBytes 4 v.toNat)) s = .next (doorbell p ((a - 0x6400) / 16) v (s.advance t)))) ∧
  (∀ (t p a : Nat) (data : List Byte) (s : State), s.pwr.portsReady = true → p < 2 → a % 4 ≠ 0 →
    exec (.registerWrite t p a data) s = .next ((s.advance t).portError p fun q => { q with unaligned := true })) ∧
  (∀ (p a : Nat) (v : BitVec 32) (s : State), (a < 0x2000 ∧ a ≠ 0x114) ∨ (0x3000 ≤ a ∧ a < 0x5000) ∨ (0x5014 ≤ a ∧ a < 0x6000) → registerWord p a v s = s) ∧
  (∀ (t p n off : Nat) (v : BitVec 32) (s : State), s.pwr.portsReady = true → p < 2 → n < 32 → off < 0x10000 → off % 4 = 0 →
    ∃ u, exec (.sluiceWindowWrite t p n off (leBytes 4 v.toNat)) s = .next u ∧ u.pwr.hold = false ∧
      (0x4000 ≤ off ∧ off < 0x8000 → u.mem = s.mem) ∧
      (off < 0x4000 ∨ 0x8000 ≤ off → u.mem = s.mem.writeAll (0x01000000 + n * 0x10000 + off) (leBytes 4 v.toNat)) ∧
      u = { s.advance t with mem := u.mem, pwr := { s.pwr with hold := false } }) ∧
  (∀ (t p n a : Nat) (v : BitVec 32) (data : List Byte) (i : Byte) (w : Bool) (s : State), s.pwr.portsReady = false →
    ∀ c ∈ [Instr.badInstruction t p i, .unalignedAddress t p a, .blockedAccess t p a w, .registerWrite t p a data, .sluiceWindowWrite t p n a data,
      .hptSlstatRead t p n, .hptStatRead t p n, .sysOccStatsRead t p, .evtStatRead t p n, .evtSeqWrite t p n v, .evtCtrlWrite t p v, .evtCtrlRead t p,
      .evtModeWrite t p v, .rtcLoRead t p a, .rtcWakeRead t p, .parCtrlWrite t p v, .parRawWrite t p, .parRawRead t p, .parCheckedRead t p, .parScrubPass t p,
      .parOpOverlap t p v, .parStatRead t p, .whlTestCfgWrite t p n v, .wheelTestStart t p n, .wheelTestClear t p n, .whlTestCtrlRead t p n,
      .broadcastWrite t p a v, .broadcastRead t p a, .whlBstatRead t p, .completionAcknowledge t p n v, .streamConsWrite t p n v, .firstSluiceAccess t p n,
      .doorbell t p n v], exec c s = .next (s.advance t))

/-- Row EVT_STAT_READ, on either port and in either mode: the word returned holds exactly the pending bits of the group's sources whose owner the port carries; the group's 16-bit counter advances by one, no other group's does; and the port keeps the new number with the bits returned as its last read of the group. -/
def Obligations.EventStatusRead : Prop :=
  ∀ (t p g : Nat) (s : State), s.pwr.portsReady = true → p < 2 → g < 32 →
    ∃ u, exec (.evtStatRead t p g) s = .next u ∧
      (∀ i, i < 32 → (u.port p).rdata.getLsbD i = (s.evt.pending.getLsbD (32 * g + i) && (s.port p).perm.getLsbD (s.owner (32 * g + i)) && decide (s.owner (32 * g + i) < 16))) ∧
      u.evt.seq.get 0 g = s.evt.seq.get 0 g + 1 ∧ (∀ h, h ≠ g → u.evt.seq.get 0 h = s.evt.seq.get 0 h) ∧
      (u.port p).lastRead.find g = some { seq := s.evt.seq.get 0 g + 1, bits := (u.port p).rdata, fired := 0 }

/-- Rows EVT_SEQ_WRITE, EVT_CTRL_WRITE, EVT_CTRL_READ, EVT_MODE_WRITE, RTC_LO_READ, RTC_WAKE_READ, HPT_SLSTAT_READ, HPT_STAT_READ, SYS_OCC_STATS_READ, BROADCAST_READ and WHL_BSTAT_READ, on a port that is ready. A matching sequence number in sequence-clear mode clears the bits of the last read that have not fired since, and no
other bit; any other write clears none. EVT_MODE is written only with ENABLE 0. A read of RTC_LO freezes the clock's copy and RTC_WAKE releases it. Flags that a read clears are zero after it. -/
def Obligations.EventAndClockRegisters : Prop :=
  ∀ (t p : Nat) (s : State), s.pwr.portsReady = true → p < 2 →
    (∀ (g : Nat) (v : BitVec 32) (r : LastRead), (s.port p).lastRead.find g = some r → g < 32 → s.evt.mode.getLsbD g = true → v.setWidth 16 = r.seq →
      ∃ u, exec (.evtSeqWrite t p g v) s = .next u ∧ u = { s.advance t with evt := { s.evt with pending := u.evt.pending } } ∧
        (∀ e, e < 1024 → u.evt.pending.getLsbD e =
          (s.evt.pending.getLsbD e && !(decide (e / 32 = g) && r.bits.getLsbD (e % 32) && !r.fired.getLsbD (e % 32))))) ∧
    (∀ (g : Nat) (v : BitVec 32), (s.evt.mode.getLsbD g = false ∨ (s.port p).lastRead.find g = none ∨ ∀ r ∈ (s.port p).lastRead.find g, v.setWidth 16 ≠ r.seq) →
      exec (.evtSeqWrite t p g v) s = .next (s.advance t)) ∧
    (∀ v : BitVec 32, exec (.evtCtrlWrite t p v) s = .next { s.advance t with evt := { s.evt with enable := v.getLsbD 0 } }) ∧
    (∃ u, exec (.evtCtrlRead t p) s = .next u ∧ u.evt = { s.evt with whileOn := false } ∧ (u.port p).rdata = BitVec.ofNat 32 (bit s.evt.enable + 256 * bit s.evt.whileOn)) ∧
    (∀ v : BitVec 32, (s.evt.enable = false → exec (.evtModeWrite t p v) s = .next { s.advance t with evt := { s.evt with mode := v } }) ∧
      (s.evt.enable = true → v = s.evt.mode → exec (.evtModeWrite t p v) s = .next (s.advance t)) ∧
      (s.evt.enable = true → v ≠ s.evt.mode →
        exec (.evtModeWrite t p v) s = .next (({ s.advance t with evt := { s.evt with whileOn := true } } : State).fire 651 1 0))) ∧
    (∀ age : Nat, ∃ u, exec (.rtcLoRead t p age) s = .next u ∧ (u.port p).frozen = true ∧ (u.port p).shadow = (s.advance t).rtcCopy age true ∧
      (u.port p).rdata = BitVec.ofNat 32 ((s.advance t).stamp - Nat.min age 511)) ∧
    (∃ u, exec (.rtcWakeRead t p) s = .next u ∧ (u.port p).frozen = false ∧ ((s.port p).frozen = true → (u.port p).rdata = (s.port p).shadow.getD 3 0) ∧
      ((s.port p).frozen = false → (u.port p).rdata = BitVec.ofNat 32 (bit s.time.alarmOn + 2 * bit s.time.periodicOn + 4 * s.time.periodicK))) ∧
    (∀ n : Nat, n < 32 → ∃ u, exec (.hptSlstatRead t p n) s = .next u ∧ u.sluice n = { s.sluice n with staleDb := false, overrun := false } ∧
      (u.port p).rdata = BitVec.ofNat 32 ((s.sluice n).epoch.toNat + 2 ^ 16 * (s.heldBy n).length + 2 ^ 25 * bit (s.sluice n).staleDb + 2 ^ 26 * bit (s.sluice n).overrun
        + 2 ^ 27 * bit (!(s.sluice n).waiting.isEmpty))) ∧
    (∀ n : Nat, n < 2 → ∃ u, exec (.hptStatRead t p n) s = .next u ∧ (u.port n).badInstr = false ∧ (u.port n).unaligned = false ∧ (u.port n).cross = false ∧
      (u.port n).partialWord = false ∧ (u.port n).blocked = false ∧ (u.port n).blockCount = (s.port n).blockCount ∧ (u.port n).perm = (s.port n).perm) ∧
    (∃ u, exec (.sysOccStatsRead t p) s = .next u ∧ u.fab = { s.fab with peak := 0 } ∧ (u.port p).rdata = BitVec.ofNat 32 (s.fab.avg % 2048 + 2 ^ 16 * s.fab.peak)) ∧
    (∀ off : Nat, off < 0x400 → ∃ u, exec (.broadcastRead t p off) s = .next u ∧ u.bc = { s.bc with bcastRead := true } ∧ (u.port p).rdata = 0) ∧
    (∃ u, exec (.whlBstatRead t p) s = .next u ∧ u.bc = { s.bc with bcastRead := false } ∧ (u.port p).rdata = BitVec.ofNat 32 (bit s.bc.bcastRead))

/-- Rows PAR_CTRL_WRITE, PAR_RAW_WRITE, PAR_RAW_READ, PAR_CHECKED_READ, PAR_SCRUB_PASS, PAR_OP_OVERLAP, PAR_OPERATION_COMPLETE, PAR_STAT_READ, WHL_TEST_CFG_WRITE, WHEEL_TEST_START, WHEEL_TEST_CLEAR, WHL_TEST_CTRL_READ, WHEEL_TEST_DONE and BROADCAST_WRITE. An operation of the parity block runs in test mode when none is in progress; one written meanwhile only
sets OVERLAP. A test begins at the next boundary on a wheel that is free, else it is ABORTED; it ends after 32 cadences with its results, all nine slices stale. A broadcast write reaches the wheels of the mask and no other. Scrub counts above 255 are free values. -/
def Obligations.ParityAndWheelTests : Prop :=
  (∀ (t p : Nat) (v : BitVec 32) (s : State), s.pwr.portsReady = true → p < 2 → s.par.enable = false →
    exec (.parCtrlWrite t p v) s = .next { s.advance t with par := { s.par with bank := BitVec.extractLsb' 1 2 v, enable := v.getLsbD 0 } }) ∧
  (∀ (t p : Nat) (v : BitVec 32) (s : State), s.pwr.portsReady = true → p < 2 → s.par.enable = true →
    exec (.parCtrlWrite t p v) s = .next (if BitVec.extractLsb' 1 2 v = s.par.bank then { s.advance t with par := { s.par with enable := v.getLsbD 0 } }
      else ({ s.advance t with par := { s.par with enable := v.getLsbD 0, whileOn := true } } : State).fire 651 1 0)) ∧
  (∀ (t p : Nat) (s : State), s.pwr.portsReady = true → p < 2 → s.par.enable = true → s.par.op = none →
    exec (.parRawWrite t p) s = .next { s.advance t with par := { s.par with
      rows := s.par.rows.put (s.par.bank.toNat * 256 + s.par.word.toNat) (s.par.data, s.par.chk), op := some 1 } } ∧
    exec (.parRawRead t p) s = .next { s.advance t with par := { s.par with
      data := (s.par.row s.par.word.toNat).1, chk := (s.par.row s.par.word.toNat).2, op := some 2 } } ∧
    exec (.parCheckedRead t p) s = .next { s.advance t with par := { s.par.checkedRead with op := some 3 } } ∧
    (∃ u, exec (.parScrubPass t p) s = .next u ∧ u.par.op = some 4 ∧ u.par.err = (s.par.err || decide (s.par.badWords ≠ 0)) ∧
      (s.par.badWords < 256 → u.par.scrubErr = s.par.badWords) ∧ u.par.rows = s.par.rows)) ∧
  (∀ (t p op : Nat) (v : BitVec 32) (s : State), s.pwr.portsReady = true → p < 2 → s.par.enable = true → s.par.op = some op →
    ∀ c ∈ [Instr.parRawWrite t p, .parRawRead t p, .parCheckedRead t p, .parOpOverlap t p v],
      exec c s = .next { s.advance t with par := { s.par with overlap := true } }) ∧
  (∀ (t : Nat) (s : State), exec (.parOperationComplete t) s = .next { s.advance t with par := { s.par with op := none } }) ∧
  (∀ (t p : Nat) (s : State), s.pwr.portsReady = true → p < 2 → ∃ u, exec (.parStatRead t p) s = .next u ∧
    u.par = { s.par with err := false, errBytes := 0, overlap := false, whileOn := false, scrubErr := 0 } ∧
    (u.port p).rdata = BitVec.ofNat 32 (bit s.par.op.isSome + 2 * bit s.par.err + 4 * s.par.errBytes.toNat + 64 * bit s.par.overlap + 256 * bit s.par.whileOn + 2 ^ 16 * s.par.scrubErr)) ∧
  (∀ (t p w : Nat) (v : BitVec 32) (s : State), s.pwr.portsReady = true → p < 2 → w < 16 → (s.wheel w).test.enable = false →
    exec (.whlTestCfgWrite t p w v) s = .next ((s.advance t).modWheel w fun y => { y with test := y.test.setCfg v }) ∧
    exec (.wheelTestStart t p w) s = .next (if s.testFree w
      then (s.advance t).modWheel w fun y => { y with test := { y.test with enable := true, startAt := some (s.time.bnd + 1) } }
      else (s.advance t).modWheel w fun y => { y with test := { y.test with enable := true, aborted := true } })) ∧
  (∀ (t p w : Nat) (s : State), s.pwr.portsReady = true → p < 2 → w < 16 →
    exec (.wheelTestClear t p w) s = .next ((s.advance t).modWheel w fun y => { y with test := { y.test with enable := false, done := false, aborted := false } })) ∧
  (∀ (t p w : Nat) (s : State), s.pwr.portsReady = true → p < 2 → w < 16 → ∃ u, exec (.whlTestCtrlRead t p w) s = .next u ∧
    (u.wheel w).test = { (s.wheel w).test with whileOn := false } ∧
    (u.port p).rdata = BitVec.ofNat 32 (bit (s.wheel w).test.enable + 2 * bit (s.wheel w).test.done + 4 * bit (s.wheel w).test.aborted + 256 * bit (s.wheel w).test.whileOn)) ∧
  (∀ (w b : Nat) (r : TestIn) (s : State), (s.wheel w).test.startAt = some b → b + 32 ≤ s.time.bnd → ∃ u, exec (.wheelTestDone w r) s = .next u ∧
    (u.wheel w).test.done = true ∧ (u.wheel w).test.startAt = none ∧ (u.wheel w).test.pass = r.pass ∧ (u.wheel w).test.refcapOk = r.refcapOk ∧
    (u.wheel w).test.openFound = r.openFound ∧ (∀ k, k < 9 → ((u.wheel w).slice k).stale = true)) ∧
  (∀ (w : Nat) (r : TestIn) (s : State), (∀ b ∈ (s.wheel w).test.startAt, s.time.bnd < b + 32) → exec (.wheelTestDone w r) s = .next s) ∧
  (∀ (t p : Nat) (v : BitVec 32) (s : State), s.pwr.portsReady = true → p < 2 → ∃ u, exec (.broadcastWrite t p 0x40 v) s = .next u ∧
    (∀ w, w < 16 → s.bc.mask.getLsbD w = true → (s.wheel w).test.enable = false → (u.wheel w).test = (s.wheel w).test.setCfg v) ∧
    (∀ w, s.bc.mask.getLsbD w = false → u.wheel w = s.wheel w))

/-! ## Memory integrity, logs, supply monitors, tamper inputs, the floodgate (17) -/

/-- Rows SRAM_PARITY_ERROR, FLASH_ECC_ERROR, FLASH_PATROL, MRAM_ECC_ERROR and LOG_COMPROMISED. A parity error of a bank that holds its contents is counted for its bank, up to 0xFFFF, and for its row, which a spare row replaces at the second one while there is one; in a sluice's memory the sluice starts a new epoch and the event fires. A corrected
flash error fires EV0649 CODE 1; one that cannot be corrected has the other copy used where the region is held twice, else it marks its granule, and in the running dry image the device stops metering with every CF output in kickstand. A patrol is due each 24 h. A corrected MRAM error
changes nothing; one that cannot be corrected loses the records of its meter, closes its polder's nonces, takes its log location out of use, or fails the crest log. The compromise shows from the boundary on.
How the two copies of a flash region are held is the model's (log 128). -/
def Obligations.IntegrityRows : Prop :=
  (∀ (t : Nat) (e : ParityIn) (s : State), e.bank < 4 → 0x01000000 ≤ e.address → e.address < 0x02000000 → s.pwr.porstHigh = true → s.pwr.state ≠ .nap →
    ∃ u, exec (.sramParityError t e) s = .next u ∧ u.par.liveErrors.get 0 e.bank = Nat.min 0xFFFF (s.par.liveErrors.get 0 e.bank + 1) ∧
      (s.par.rowErrors.get 0 (e.bank * 4096 + e.row) = 0 ∨ 64 ≤ s.par.spares.get 0 e.bank →
        u.par.rowErrors.get 0 (e.bank * 4096 + e.row) = s.par.rowErrors.get 0 (e.bank * 4096 + e.row) + 1) ∧
      (0 < s.par.rowErrors.get 0 (e.bank * 4096 + e.row) → s.par.spares.get 0 e.bank < 64 →
        u.par.rowErrors.get 0 (e.bank * 4096 + e.row) = 0 ∧ u.par.remap.find (e.bank * 4096 + e.row) = some (s.par.spares.get 0 e.bank) ∧
        u.par.spares.get 0 e.bank = s.par.spares.get 0 e.bank + 1) ∧
      (e.address < 0x01200000 → (u.sluice ((e.address - 0x01000000) / 0x10000)).epoch = (s.sluice ((e.address - 0x01000000) / 0x10000)).epoch + 1 ∧
        (s.evt.disabled.getLsbD 648 = false → u.evt.pending.getLsbD 648 = true))) ∧
  (∀ (t : Nat) (e : ParityIn) (s : State), (4 ≤ e.bank ∨ e.address < 0x01000000 ∨ 0x02000000 ≤ e.address ∨ s.pwr.porstHigh = false ∨ s.pwr.state = .nap) →
    exec (.sramParityError t e) s = .next (s.advance t)) ∧
  (∀ (t : Nat) (e : FlashIn) (s : State), e.corrected = true → exec (.flashEccError t e) s =
    .next (({ s.advance t with flash := { s.flash with corrected := s.flash.corrected + 1 } } : State).fire 649 1 (BitVec.ofNat 32 e.address))) ∧
  (∀ (t : Nat) (e : FlashIn) (s : State), e.corrected = false → 0x600000 ≤ e.address → e.address < 0x7C0000 →
    ∃ u r second, exec (.flashEccError t e) s = .next u ∧ doubleAt (e.address / 16 * 16) = some (r, second) ∧
      (second = false → (u.double r).a.bad = true ∧ (u.double r).b = (s.double r).b ∧ (u.double r).inUse = true) ∧
      (second = true → (u.double r).b.bad = true ∧ (u.double r).a = (s.double r).a ∧ ((s.double r).a.bad = false → (u.double r).inUse = false)) ∧
      u.flash = s.flash ∧ u.mem = s.mem ∧ u.led = s.led ∧ (s.evt.disabled.getLsbD 649 = false → u.evt.pending.getLsbD 649 = true)) ∧
  (∀ (t : Nat) (e : FlashIn) (s : State), e.corrected = false → (e.address < 0x600000 ∨ 0x7C0000 ≤ e.address) →
    ∃ u, exec (.flashEccError t e) s = .next u ∧ e.address / 16 * 16 ∈ u.flash.bad ∧ (∀ g ∈ s.flash.bad, g ∈ u.flash.bad) ∧
      (e.address < 0x100000 → s.dryRuns = true → u.pwr.dryOk = false ∧ u.cf = s.cf.map fun (n, x) => (n, x.toKick))) ∧
  (∀ (t : Nat) (l : List FlashIn) (s : State), s.dryRuns = true → s.flash.patrolAt + seconds 86400 ≤ (s.advance t).now →
    ∃ u, exec (.flashPatrol t l) s = .next u ∧ u.flash.patrolAt = (s.advance t).now) ∧
  (∀ (t : Nat) (l : List FlashIn) (s : State), (s.dryRuns = false ∨ (s.advance t).now < s.flash.patrolAt + seconds 86400) →
    exec (.flashPatrol t l) s = .next (s.advance t)) ∧
  (∀ (t : Nat) (e : MramIn) (s : State), e.corrected = true → exec (.mramEccError t e) s = .next (s.advance t)) ∧
  (∀ (t : Nat) (e : MramIn) (s : State), e.corrected = false →
    ∃ u, exec (.mramEccError t e) s = .next u ∧ u.time = (s.advance t).time ∧ u.mem = s.mem ∧ u.whl = s.whl ∧ u.chan = s.chan ∧ u.mtr = s.mtr ∧
      (∀ m w, e.part = .record m w → m ∈ u.log.lost ∧ ∀ n, n ≠ m → u.ledger n = s.ledger n) ∧
      (∀ p, e.part = .journal p → (u.polder p).journalAll = true ∧ u.led = s.led) ∧
      (∀ loc, e.part = .log loc → s.log.failed = false → loc ∈ u.log.failedLocs ∧ u.led = s.led) ∧
      (e.part = .crest → u.log.crestFailed = true ∧
        (s.log.crestFailed = false → u.log.compromisedDue = true ∨ u.log.compromised = true))) ∧
  (∀ s : State, s.log.compromisedDue = true →
    exec .logCompromised s = .next { s with log := { s.log with compromised := true, compromisedDue := false } }) ∧
  (∀ s : State, s.log.compromisedDue = false → exec .logCompromised s = .next s)

/-- Rows SUPPLY_GLITCH, SLOW_EXCURSION, MONITOR_ARM, TAMPER_INPUT_ACTIVE, TAMPER_INPUT_INACTIVE and FLOODGATE_CLOSE. An armed monitor that is not fused off sets its latch, and a close response makes the floodgate's closing due; one not armed does nothing. A monitor is armed while its supply and the
device run, from 2 ms after the start on, and of AON from 2 ms after its return to VDDAON. An input changes when its last 8 samples, 1/1,024 s apart and all since its last change, agree. An input that is sampled and becomes active is recorded at once while the dry side runs, else latched with the first instant and a count of further ones up to 255; an input that becomes inactive reads so. At the boundary the floodgate closes where a close response fell due: every CF output goes to kickstand
and EV0681 is set where it is enabled. -/
def Obligations.TamperRows : Prop :=
  (∀ (t k : Nat) (s : State), k < 4 → s.tmp.armed.getLsbD k = true → s.fused (8 + k) = false →
    ∃ u, exec (.supplyGlitch t k) s = .next u ∧ u.tmp = { s.tmp with glitch := s.tmp.glitch ||| (1#4 <<< k) } ∧ u.time = (s.advance t).time ∧ u.led = s.led ∧
      u.mem = s.mem ∧ (s.dryRuns = true → (s.response (8 + k)).response = 2 → u.guard.due = s.guard.due ++ [8 + k])) ∧
  (∀ (t k : Nat) (s : State), k < 4 → s.tmp.armed.getLsbD k = true → s.fused (12 + k) = false →
    ∃ u, exec (.slowExcursion t k) s = .next u ∧ u.tmp = { s.tmp with slow := s.tmp.slow ||| (1#4 <<< k) } ∧ u.time = (s.advance t).time ∧ u.led = s.led ∧
      u.mem = s.mem ∧ (s.dryRuns = true → (s.response (12 + k)).response = 2 → u.guard.due = s.guard.due ++ [12 + k])) ∧
  (∀ (t k : Nat) (s : State), (4 ≤ k ∨ s.tmp.armed.getLsbD k = false) →
    exec (.supplyGlitch t k) s = .next (s.advance t) ∧ exec (.slowExcursion t k) s = .next (s.advance t)) ∧
  (∀ (t k : Nat) (s : State), k < 4 → s.pwr.porstHigh = true → s.pwr.aonLost = false → s.pwr.state ≠ .nap → s.pwr.pfail = false →
    s.pwr.startAt + 98304 ≤ (s.advance t).now → (k ≠ 3 ∨ (s.pwr.aonVbat = false ∧ s.tmp.aonBack + 98304 ≤ (s.advance t).now)) →
    exec (.monitorArm t k) s = .next { s.advance t with tmp := { s.tmp with armed := s.tmp.armed ||| (1#4 <<< k) } }) ∧
  (∀ (t k : Nat) (s : State), (4 ≤ k ∨ s.pwr.pfail = true ∨ s.pwr.state = .nap ∨ (s.advance t).now < s.pwr.startAt + 98304 ∨
    (k = 3 ∧ (s.pwr.aonVbat = true ∨ (s.advance t).now < s.tmp.aonBack + 98304))) → exec (.monitorArm t k) s = .next (s.advance t)) ∧
  (∀ (t i : Nat) (l : List Bool) (s : State), (s.advance t).tamperHeld i true l = true → s.sampled i = true → s.tmp.active.getLsbD i = false → s.pwr.state ≠ .nap →
    (s.pwr.state = .hush → s.pwr.held = .run ∨ s.pwr.held = .trim) →
    ∃ u, exec (.tamperInputActive t ⟨i, l⟩) s = .next u ∧ u.tmp.changed.find i = some (s.advance t).now ∧ u.tmp.active = s.tmp.active ||| (1#8 <<< i) ∧ u.time = (s.advance t).time ∧ u.led = s.led ∧ u.mem = s.mem ∧
      u.tmp.glitch = s.tmp.glitch ∧ u.tmp.slow = s.tmp.slow ∧ u.tmp.armed = s.tmp.armed ∧
      (s.dryRuns = true → u.tmp.latch = s.tmp.latch ∧ u.tmp.vbat = s.tmp.vbat ∧
        ((s.response i).response = 2 → u.guard.due = s.guard.due ++ [i])) ∧
      (s.dryRuns = false → u.tmp.latch = s.tmp.latch ||| (1#8 <<< i) ∧ u.tmp.vbat.find i = some (match s.tmp.vbat.find i with
        | some v => { v with further := Nat.min 255 (v.further + 1) }
        | none => { time := (s.advance t).stamp, further := 0 }))) ∧
  (∀ (t i : Nat) (l : List Bool) (s : State), ((s.advance t).tamperHeld i true l = false ∨ s.sampled i = false ∨ s.tmp.active.getLsbD i = true) →
    exec (.tamperInputActive t ⟨i, l⟩) s = .next (s.advance t)) ∧
  (∀ (t i : Nat) (l : List Bool) (s : State), i < 8 → (s.advance t).tamperHeld i false l = true → s.tmp.active.getLsbD i = true →
    ∃ u, exec (.tamperInputInactive t ⟨i, l⟩) s = .next u ∧ u.tmp.changed.find i = some (s.advance t).now ∧ u.tmp.active = s.tmp.active &&& ~~~(1#8 <<< i) ∧ u.tmp.latch = s.tmp.latch ∧ u.time = (s.advance t).time ∧
      u.led = s.led ∧ u.guard = s.guard) ∧
  (∀ (t i : Nat) (l : List Bool) (s : State), ((s.advance t).tamperHeld i false l = false ∨ s.tmp.active.getLsbD i = false) →
    exec (.tamperInputInactive t ⟨i, l⟩) s = .next (s.advance t)) ∧
  (∀ (i : Nat) (on : Bool) (l : List Bool) (s : State), s.tamperHeld i on l = true →
    8 ≤ l.length ∧ (∀ h ∈ l.drop (l.length - 8), h = ((s.response i).param.getLsbD 0 == on)) ∧ (∀ x, s.tmp.changed.find i = some x → x + 8 * 48000 ≤ s.now)) ∧
  (∀ (g : Nat) (rest : List Nat) (s : State), s.guard.due = g :: rest → s.guard.closed = false → s.dryRuns = true →
    ∃ u, exec .floodgateClose s = .next u ∧ u.guard = { s.guard with due := [], closed := true } ∧ u.cf = s.cf.map (fun (n, x) => (n, x.toKick)) ∧
      u.led = s.led ∧ u.mem = s.mem ∧ u.time = s.time ∧ (s.evt.disabled.getLsbD 681 = false → u.evt.pending.getLsbD 681 = true)) ∧
  (∀ s : State, (s.guard.closed = true ∨ s.dryRuns = false) → exec .floodgateClose s = .next { s with guard := { s.guard with due := [] } }) ∧
  (∀ s : State, s.guard.due = [] → exec .floodgateClose s = .next s)

/-! ## Timekeeping (16) -/

/-- Rows PPS_EDGE, PPS_LOSS, STEP, SLEW_COMPLETE, STEERING_WORD_STORE, CLOCK_TRUST_CHANGE, ALARM and PERIODIC_WAKE. PPS is the source while it is valid and its check has not failed; else a beacon source while PPS is not valid; else holdover after a lock. A valid edge is stamped and, with PPS in use, gives the whole second nearest less the
stamp as the last offset. A sample slews, decides a step of whole cadences, or counts toward a failed check. A decided step renumbers the cadence that opens, slews the remainder, and clears the beacon stamps. A slew is complete once 20 ppm of the cadence so far cover what remains of it. A cause detected takes effect at the boundary. The alarm and the periodic wake fire at their instants. -/
def Obligations.TimeRows : Prop :=
  (∀ s : State,
    (s.time.ppsValid = true → s.time.disqPps = false → (sourcePass true s).time.source = 1) ∧
    (s.time.ppsValid = false → s.time.beaconOk = true → s.time.disqBeacon = false → (sourcePass true s).time.source = 2) ∧
    ((s.time.ppsValid = false ∨ s.time.disqPps = true) → (s.time.ppsValid = true ∨ s.time.beaconOk = false ∨ s.time.disqBeacon = true) →
      (sourcePass true s).time.source = if s.time.everLocked then 3 else 0) ∧
    ((sourcePass true s).time.source ≠ s.time.source → (sourcePass true s).time.locked = false ∧
      (s.evt.disabled.getLsbD 646 = false → (sourcePass true s).evt.pending.getLsbD 646 = true))) ∧
  (∀ (t : Nat) (s : State), s.pwr.state ≠ .nap → s.pwr.porstHigh = true →
    (∀ e, s.time.ppsEdge = some e → s.time.ppsFresh = true ∨ s.time.ppsValid = false ∨
      ((s.advance t).now ≤ e + 49152000 + 9830 ∧ e + 49152000 ≤ (s.advance t).now + 9830)) →
    ∃ u, exec (.ppsEdge t) s = .next u ∧ u.time.ppsEdge = some (s.advance t).now ∧ u.time.ppsValid = true ∧ u.time.ppsFresh = false ∧ u.time.cad = s.time.cad ∧
      u.mem = s.mem ∧ u.led = s.led ∧
      (s.time.disqPps = false → s.time.source ≠ 2 →
        let mc := s.time.cad * cadenceClocks + (s.advance t).time.off
        u.time.lastOffset = (((roundDiv mc 49152000 * 49152000 : Nat) : Rat) - ((mc : Nat) : Rat)) * 128 / 375)) ∧
  (∀ (t e : Nat) (s : State), (s.pwr.state = .nap ∨ s.pwr.porstHigh = false ∨ (s.time.ppsEdge = some e ∧ s.time.ppsFresh = false ∧ s.time.ppsValid = true ∧
      (e + 49152000 + 9830 < (s.advance t).now ∨ (s.advance t).now + 9830 < e + 49152000))) → exec (.ppsEdge t) s = .next (s.advance t)) ∧
  (∀ (t e : Nat) (s : State), s.time.ppsEdge = some e → s.time.ppsValid = true →
    (e + 73728000 ≤ (s.advance t).now → ∃ u, exec (.ppsLoss t) s = .next u ∧ u.time.ppsValid = false ∧ u.time.ppsFresh = true ∧ u.time.source ≠ 1 ∧ u.mem = s.mem) ∧
    ((s.advance t).now < e + 73728000 → exec (.ppsLoss t) s = .next (s.advance t))) ∧
  (∀ (o : Rat) (s : State), s.rtcHolds o = true →
    (absRat o ≤ fourMs → (offsetSample o s).time.slew = o ∧ (offsetSample o s).time.stepDue = s.time.stepDue ∧ (offsetSample o s).time.bigRun = 0) ∧
    (fourMs < absRat o → (absRat o ≤ hundredMs ∨ s.trusted = false) → (offsetSample o s).time.stepDue = some (splitOffset o) ∧ (offsetSample o s).time.bigRun = 0) ∧
    (hundredMs < absRat o → s.trusted = true →
      (offsetSample o s).time.stepDue = s.time.stepDue ∧ (offsetSample o s).time.slew = s.time.slew ∧
      (s.time.bigRun + 1 ≠ 3 → (offsetSample o s).time.bigRun = s.time.bigRun + 1) ∧
      (s.time.bigRun + 1 = 3 → (offsetSample o s).time.causesDue = s.time.causesDue ||| 2 ∧
        (s.time.source = 1 → (offsetSample o s).time.disqPps = true) ∧ (s.time.source = 2 → (offsetSample o s).time.disqBeacon = true)))) ∧
  (∀ o : Rat, (splitOffset o).2 = o - ((splitOffset o).1 : Rat) * (2 ^ 24 : Nat) / 125 ∧ absRat (splitOffset o).2 ≤ ((2 ^ 24 : Nat) : Rat) / 250 ∧
    (absRat o ≤ ((2 ^ 24 : Nat) : Rat) / 250 → (splitOffset o).1 = 0)) ∧
  (∀ (k : Int) (rest : Rat) (s : State), s.time.off = 0 → s.time.stepDue = some (k, rest) → s.time.stepped = false → s.dryRuns = true →
    s.rtcHolds ((k : Rat) * (2 ^ 24 : Nat) / 125 + rest) = true → (s.pwr.state = .hush → s.pwr.held = .run ∨ s.pwr.held = .trim) →
    ∃ u, exec .step s = .next u ∧ u.time.cad = ((s.time.cad : Int) + k).toNat ∧ u.time.off = 0 ∧ u.time.bnd = s.time.bnd ∧ u.time.stepped = true ∧
      u.time.stepDue = none ∧ u.time.slew = rest ∧ u.time.locked = false ∧ u.time.ppsFresh = true ∧ u.pq.recs = s.pq.recs ∧
      (∀ e ∈ u.plc.neigh, e.2.stamps = []) ∧ u.whl = s.whl ∧ u.chan = s.chan) ∧
  (∀ s : State, (s.time.off ≠ 0 ∨ s.time.stepDue = none ∨ s.dryRuns = false) → exec .step s = .next s) ∧
  (∀ (t : Nat) (s : State), absRat s.time.slew ≤ (((s.advance t).time.off : Nat) : Rat) * 128 / 375 * 20 / 1000000 →
    exec (.slewComplete t) s = .next { s.advance t with time := { (s.advance t).time with slew := 0 } }) ∧
  (∀ (t : Nat) (s : State), (((s.advance t).time.off : Nat) : Rat) * 128 / 375 * 20 / 1000000 < absRat s.time.slew →
    exec (.slewComplete t) s = .next (s.advance t)) ∧
  (∀ (t : Nat) (s : State), s.time.locked = true → (s.time.steerStored = none ∨ s.time.steerAt + 450000 ≤ s.time.bnd) →
    exec (.steeringWordStore t) s = .next ({ s.advance t with time := { (s.advance t).time with steerStored := some s.time.steer, steerAt := s.time.bnd } }.touch 2)) ∧
  (∀ (t : Nat) (w : Int) (s : State), (s.time.locked = false ∨ (s.time.steerStored = some w ∧ s.time.bnd < s.time.steerAt + 450000)) →
    exec (.steeringWordStore t) s = .next (s.advance t)) ∧
  (∀ s : State, s.time.off = 0 → s.time.causesDue ≠ 0 →
    ∃ u, exec .clockTrustChange s = .next u ∧ u.time = { s.time with causes := s.time.causes ||| s.time.causesDue, causesDue := 0 } ∧ u.mem = s.mem ∧ u.led = s.led ∧
      (s.trusted = true → s.evt.disabled.getLsbD 646 = false → u.evt.pending.getLsbD 646 = true)) ∧
  (∀ s : State, (s.time.off ≠ 0 ∨ s.time.causesDue = 0) → exec .clockTrustChange s = .next s) ∧
  (∀ (t : Nat) (s : State), s.time.alarmOn = true → (s.advance t).time.off = 0 → s.time.cad % 125 = 0 → s.time.matches s.second = true →
    s.time.alarmAt ≠ some s.second → s.pwr.state ≠ .nap → (s.pwr.state = .hush → s.pwr.held = .run ∨ s.pwr.held = .trim) →
    ∃ u, exec (.alarm t) s = .next u ∧ u.time = { (s.advance t).time with alarmAt := some s.second } ∧ u.mem = s.mem ∧ u.led = s.led ∧
      (s.evt.disabled.getLsbD 646 = false → u.evt.pending.getLsbD 646 = true)) ∧
  (∀ (t : Nat) (s : State), (s.time.alarmOn = false ∨ (s.advance t).time.off ≠ 0 ∨ s.time.cad % 125 ≠ 0 ∨ s.time.matches s.second = false ∨
    s.time.alarmAt = some s.second) → exec (.alarm t) s = .next (s.advance t)) ∧
  (∀ (t : Nat) (s : State), s.time.periodicOn = true → (s.time.cad * cadenceClocks + (s.advance t).time.off) % (192000 * 2 ^ s.time.periodicK) = 0 →
    exec (.periodicWake t) s = .next (if s.pwr.wakeCfg.getLsbD 7 then wake 3 (s.advance t) else s.advance t)) ∧
  (∀ (t : Nat) (s : State), (s.time.periodicOn = false ∨ (s.time.cad * cadenceClocks + (s.advance t).time.off) % (192000 * 2 ^ s.time.periodicK) ≠ 0) →
    exec (.periodicWake t) s = .next (s.advance t))

/-! ## The powerline link (15) -/

/-- Rows PRIORITY_RESOLUTION, CONTENTION_SLOT, CARRIER_SENSE_BUSY, EXTENDED_GAP_END, SACK_TRANSMIT, SACK_RECEIVED, NO_SACK, FRAME_RECEIVED, TONE_MAP_ISSUE, TONE_MAP_EXPIRY, BEACON_SEND, SEARCH_TIMEOUT, BEACON_LOCK_LOSS, ROUTE_ADVERTISEMENT, ROUTE_EXPIRY, DELIVERY_TIMEOUT and ZERO_CROSSING_EDGE.
A frame withdraws from a higher class, else contends; an idle slot that is over counts its backoff down, and at zero the frame goes out; a busy medium freezes it. A SACK that is due leaves 30.72 us after the EOF. A full acknowledgement ends the hop and waits for the confirmation; a frame not fully acknowledged is sent again up to 8 times. A frame of another network
is not for this device; one for it is counted and answered, discarded if its tag fails, and delivered to its polder else. Maps live 30 s, routes and neighbours 35 s. One beacon goes in each second at the cadence of the node's number. A transmission that has ended is off the line before any of this.
The model's choices: what the receiver's decoder brings (log 57), the layouts and orders that chapter 15 leaves open (log 109), and that a map's row names its number (log 129). -/
def Obligations.PlcRows : Prop :=
  (∀ (x : OnAir) (s : State), s.plc.tx = some x →
    (x.done = true ∨ s.now < x.stop → plcTick s = s) ∧
    (x.done = false → x.stop ≤ s.now → (plcTick s).plc.tx = some { x with done := true } ∧
      (controlOk 1 x.control = true → (plcTick s).plc.eof = some x.stop) ∧ (controlOk 1 x.control = false → (plcTick s).plc.eof = s.plc.eof) ∧
      (∀ c, s.plc.cur = some c → c.sent = true → c.next = 0xFFFF → (plcTick s).plc.cur = none))) ∧
  (∀ s : State, s.plc.tx = none → plcTick s = s) ∧
  (∀ (t heard : Nat) (c : TxCur) (s : State), let a := plcTick (s.advance t)
    a.plcRuns = true → a.resolvable = true → a.plc.cur = some c → c.sent = false → c.contending = false →
    ((c.frame.cls < 2 ∧ heard.testBit 1 = true) ∨ (c.frame.cls % 2 = 0 ∧ heard.testBit 0 = true) →
      exec (.priorityResolution t heard) s = .next (a.modPlc fun p => { p with busy := false, slots0 := some a.now, slots := 0 })) ∧
    (∀ n, c.backoff = some n → 0 < n → ¬((c.frame.cls < 2 ∧ heard.testBit 1 = true) ∨ (c.frame.cls % 2 = 0 ∧ heard.testBit 0 = true)) →
      exec (.priorityResolution t heard) s =
        .next (a.modPlc fun p => { p with busy := false, slots0 := some a.now, slots := 0, cur := some { c with contending := true } }))) ∧
  (∀ (t k n e : Nat) (c : TxCur) (s : State), let a := plcTick (s.advance t)
    a.plcRuns = true → a.plc.busy = false → a.plc.slots0 = some e → reached e (1792 * (a.plc.slots + 1)) a.now = true → a.plc.cur = some c →
    c.contending = true → c.backoff = some n →
    (1 < n → exec (.contentionSlot t k) s = .next (a.modPlc fun p => { p with slots := p.slots + 1, cur := some { c with backoff := some (n - 1) } })) ∧
    (n ≤ 1 → ∃ u x, exec (.contentionSlot t k) s = .next u ∧ u.plc.txFrames = a.plc.txFrames + 1 ∧ u.plc.busy = true ∧ u.plc.tx = some x ∧ x.start = a.now ∧
      x.done = false ∧ u.plc.cur = some { c with try_ := c.try_ + 1, total := c.total + 1, backoff := none, contending := false, sent := true } ∧
      u.mem = a.mem ∧ u.led = a.led)) ∧
  (∀ (t k : Nat) (s : State), let a := plcTick (s.advance t)
    (a.plc.busy = true ∨ a.plc.slots0 = none ∨ ∀ e, a.plc.slots0 = some e → reached e (1792 * (a.plc.slots + 1)) a.now = false) →
    exec (.contentionSlot t k) s = .next a) ∧
  (∀ (t : Nat) (pre : Bool) (s : State), let a := plcTick (s.advance t)
    a.plcRuns = true →
    (a.plc.sending = true → exec (.carrierSenseBusy t pre) s = .next a) ∧
    (a.plc.sending = false → exec (.carrierSenseBusy t pre) s = .next (a.modPlc fun p =>
      { p with busy := true, busyAt := a.now, gap := true, slots0 := none, cur := p.cur.map fun c => { c with contending := false } }))) ∧
  (∀ (t : Nat) (s : State), let a := plcTick (s.advance t)
    a.plcRuns = true →
    (a.plc.gap = true → a.plc.busyAt + 73728 ≤ a.now →
      exec (.extendedGapEnd t) s = .next (a.modPlc fun p => { p with busy := false, gap := false, eof := some (a.now - sampleClocks 7168) })) ∧
    (a.plc.gap = false ∨ a.now < a.plc.busyAt + 73728 → exec (.extendedGapEnd t) s = .next a)) ∧
  (∀ (t x : Nat) (pre : Bool) (f : FrameIn) (k : SackIn) (s : State), (plcTick (s.advance t)).plcRuns = false →
    ∀ c ∈ [Instr.priorityResolution t x, .contentionSlot t x, .carrierSenseBusy t pre, .extendedGapEnd t, .frameReceived t f, .sackTransmit t, .sackReceived t k, .noSack t],
      exec c s = .next (plcTick (s.advance t))) ∧
  (∀ (t e node : Nat) (m : BitVec 16) (busy : Bool) (n : Net) (s : State), let a := plcTick (s.advance t)
    a.plcRuns = true → a.plc.sackDue = some (node, m, busy) → a.plc.net = some n → a.plc.eof = some e →
    (e + 1495 ≤ a.now → a.now ≤ e + 1525 → ∃ u x, exec (.sackTransmit t) s = .next u ∧ u.plc.sackDue = none ∧ u.plc.tx = some x ∧ x.start = a.now ∧
      x.control = frameControl 2 (bit busy) (netHash n.name) 0 n.node node m.toNat ∧ x.payload = [] ∧ u.mem = a.mem ∧ u.led = a.led) ∧
    (a.now < e + 1495 ∨ e + 1525 < a.now → exec (.sackTransmit t) s = .next a)) ∧
  (∀ (t e : Nat) (k : SackIn) (c : TxCur) (n : Net) (s : State), let a := plcTick (s.advance t)
    a.plcRuns = true → a.plc.cur = some c → c.sent = true → c.next ≠ 0xFFFF → a.plc.sending = false → a.plc.net = some n → a.plc.eof = some e →
    (samplesIn (a.now - e) + 1 < 6624 ∨ 6945 < samplesIn (a.now - e) ∨ controlOk 2 k.control = false ∨ field k.control 2 1 ≠ (netHash n.name).toNat ∨
      field k.control 6 2 ≠ n.node ∨ field k.control 4 2 ≠ c.next → exec (.sackReceived t k) s = .next a) ∧
    (6624 ≤ samplesIn (a.now - e) + 1 → samplesIn (a.now - e) ≤ 6945 → controlOk 2 k.control = true → field k.control 2 1 = (netHash n.name).toNat →
      field k.control 6 2 = n.node → field k.control 4 2 = c.next →
      exec (.sackReceived t k) s = .next (hopOutcome (if (field k.control 1 1).testBit 0 then 0 else BitVec.ofNat 16 (field k.control 8 2)) a)) ∧
    (6944 ≤ samplesIn (a.now - e) + 1 → exec (.noSack t) s = .next (hopOutcome 0 (a.modPlc fun p => { p with ackFail := p.ackFail + 1 }))) ∧
    (samplesIn (a.now - e) + 1 < 6944 → exec (.noSack t) s = .next a)) ∧
  (∀ (t : Nat) (k : SackIn) (s : State), let a := plcTick (s.advance t)
    (a.plc.cur.any fun c => c.sent && c.next != 0xFFFF) = false → exec (.sackReceived t k) s = .next a ∧ exec (.noSack t) s = .next a) ∧
  (∀ (m : BitVec 16) (c : TxCur) (s : State), s.plc.cur = some c →
    let acked := c.acked.zipIdx.map fun (b, i) => b || (c.left.zipIdx.any fun (l, j) => l == i && m.getLsbD j)
    (acked.all id = true → (hopOutcome m s).plc.cur = none ∧ (hopOutcome m s).mem = s.mem ∧ (hopOutcome m s).led = s.led ∧ (hopOutcome m s).out = s.out ∧
      (∀ o, c.frame.order = some o → ∃ a, (hopOutcome m s).plc.awaiting = s.plc.awaiting ++ [a] ∧ a.order = o ∧ a.tries = c.total ∧ a.since = some s.now ∧
        a.mseq = c.frame.mseq)) ∧
    (acked.all id = false → c.try_ < 8 → (hopOutcome m s).plc.cur = some { c with acked := acked, sent := false } ∧ (hopOutcome m s).plc.awaiting = s.plc.awaiting)) ∧
  (∀ (t : Nat) (f : FrameIn) (n : Net) (s : State), let a := plcTick (s.advance t)
    let first := a.now - sampleClocks (frameSamples (field f.control 8 2))
    let stx := field f.control 4 2
    let srx := field f.control 6 2
    let grid := a.modPlc fun p => { p with busy := true, busyAt := a.now, gap := false, eof := some a.now, slots0 := none, cur := p.cur.map fun c => { c with contending := false } }
    a.plcRuns = true → a.plc.net = some n →
    ((controlOk 1 f.control = false ∨ (a.plc.tx.any fun x => decide (first < x.stop + sampleClocks 100)) = true) → exec (.frameReceived t f) s = .next a) ∧
    (controlOk 1 f.control = true → (a.plc.tx.any fun x => decide (first < x.stop + sampleClocks 100)) = false →
      (field f.control 2 1 ≠ (netHash n.name).toNat → exec (.frameReceived t f) s = .next grid) ∧
      (field f.control 2 1 = (netHash n.name).toNat → srx ≠ n.node → srx ≠ 0xFFFF → exec (.frameReceived t f) s = .next (heardFrom stx f [] grid)) ∧
      (field f.control 2 1 = (netHash n.name).toNat → srx = n.node → (f.mac = none ∨ (a.plc.neighbour stx).decodes f.control a.now = false) →
        ∃ u m, exec (.frameReceived t f) s = .next u ∧ u.plc.rxFrames = a.plc.rxFrames + 1 ∧ u.plc.sackDue = some (stx, m, false) ∧ u.plc.seen = a.plc.seen ∧
          u.plc.discCount = a.plc.discCount ∧ u.pol = a.pol) ∧
      (∀ m, field f.control 2 1 = (netHash n.name).toNat → srx = n.node → f.mac = some m → (a.plc.neighbour stx).decodes f.control a.now = true →
        (a.frameBusy (macHeader f.control m) = true →
          ∃ u, exec (.frameReceived t f) s = .next u ∧ u.plc.rxFrames = a.plc.rxFrames + 1 ∧ u.plc.sackDue = some (stx, 0, true) ∧ u.pol = a.pol ∧ u.plc.relay = a.plc.relay) ∧
        (a.frameBusy (macHeader f.control m) = false → (macOpen n f.control m = none ∨ ∃ l, a.plc.seen.find stx = some l ∧ macPn m ≤ l) →
          ∃ u, exec (.frameReceived t f) s = .next u ∧ u.plc.rxFrames = a.plc.rxFrames + 1 ∧ u.plc.discCount = a.plc.discCount + 1 ∧ u.plc.seen = a.plc.seen ∧
            u.plc.relay = a.plc.relay ∧ u.pol = a.pol) ∧
        (∀ x, macOpen n f.control m = some x → (∀ l, a.plc.seen.find stx = some l → l < macPn m) → x.type = 1 → x.final = n.node → n.node ≠ 0xFFFF →
          a.polderExists x.destPolder = true → (a.polder x.destPolder).rxq.length < 32 →
          ∃ u r, exec (.frameReceived t f) s = .next u ∧ (u.polder x.destPolder).rxq = (a.polder x.destPolder).rxq ++ [r] ∧ r.data = x.body ∧ r.src = x.orig ∧
            r.stamp = a.stampAt first ∧ u.plc.seen.find stx = some (macPn m) ∧ ∃ y, u.plc.mgmt = a.plc.mgmt ++ [y] ∧ y.type = 2 ∧ y.final = x.orig)))) ∧
  (∀ (t node : Nat) (n : Neigh) (high : Bool) (codes : List Nat) (s : State), Tab.find s.plc.neigh node = some n → s.plc.state = 2 → s.plc.silent = false →
    (s.advance t).plcServes = true → n.snrs ≠ [] → n.mapDue (s.advance t).now = true → chooseMap n.snr = some (high, codes) → 103 ≤ mapBits high codes ∧
    ∃ u f, exec (.toneMapIssue t node (n.mapNum % 7 + 1)) s = .next u ∧ u.plc.mgmt = s.plc.mgmt ++ [f] ∧ f.type = 3 ∧ f.final = node ∧ f.cls = 3 ∧
      (u.plc.neighbour node).mapNum = n.mapNum % 7 + 1 ∧
      (u.plc.neighbour node).mapsIn = ({ num := n.mapNum % 7 + 1, high, codes, issued := (s.advance t).now, snr := n.snr } :: n.mapsIn).take 2) ∧
  (∀ (t node num : Nat) (s : State), (s.plc.state ≠ 2 ∨ s.plc.silent = true ∨ (s.advance t).plcServes = false ∨
      ∀ n, Tab.find s.plc.neigh node = some n → n.snrs = [] ∨ n.mapDue (s.advance t).now = false ∨ chooseMap n.snr = none ∨ num ≠ n.mapNum % 7 + 1) →
    exec (.toneMapIssue t node num) s = .next (s.advance t)) ∧
  (∀ (t node : Nat) (n : Neigh) (s : State), Tab.find s.plc.neigh node = some n → ∃ u, exec (.toneMapExpiry t node) s = .next u ∧
    (u.plc.neighbour node).mapOut = n.mapOut.filter (fun m => (s.advance t).now < m.issued + seconds 30) ∧
    (u.plc.neighbour node).mapsIn = n.mapsIn.filter (fun m => (s.advance t).now < m.issued + seconds 30) ∧ (∀ k, k ≠ node → u.plc.neighbour k = s.plc.neighbour k)) ∧
  (∀ (t node : Nat) (s : State), Tab.find s.plc.neigh node = none → exec (.toneMapExpiry t node) s = .next (s.advance t)) ∧
  (∀ (t : Nat) (s : State), (s.advance t).plcServes = true → (s.plc.state = 2 ∨ s.plc.isCoordinator = true ∨ s.plc.silent = true) → (s.advance t).time.off = 0 →
    s.time.cad % 125 = s.plc.node % 125 → s.plc.beaconSec ≠ some s.second →
    ∃ u f, exec (.beaconSend t) s = .next u ∧ u.plc.mgmt = s.plc.mgmt ++ [f] ∧ f.type = 5 ∧ f.final = 0xFFFF ∧ f.cls = 3 ∧ f.mode = 2 ∧ f.body.length = 56 ∧
      u.plc.bseq = (s.plc.bseq + 1) % 2 ^ 16 ∧ u.plc.beaconSec = some s.second) ∧
  (∀ (t : Nat) (s : State), ((s.advance t).plcServes = false ∨ (s.plc.state ≠ 2 ∧ s.plc.isCoordinator = false ∧ s.plc.silent = false) ∨ (s.advance t).time.off ≠ 0 ∨
    s.time.cad % 125 ≠ s.plc.node % 125 ∨ s.plc.beaconSec = some s.second) → exec (.beaconSend t) s = .next (s.advance t)) ∧
  (∀ (t : Nat) (s : State), s.plc.state = 2 → s.plc.isCoordinator = false → s.plc.lastBeacon + seconds 35 ≤ (s.advance t).now →
    ∃ u, exec (.searchTimeout t) s = .next u ∧ u.plc = { s.plc with state := 1 } ∧ u.mem = s.mem ∧ (s.evt.disabled.getLsbD 645 = false → u.evt.pending.getLsbD 645 = true)) ∧
  (∀ (t : Nat) (s : State), (s.plc.state ≠ 2 ∨ s.plc.isCoordinator = true ∨ (s.advance t).now < s.plc.lastBeacon + seconds 35) → exec (.searchTimeout t) s = .next (s.advance t)) ∧
  (∀ (t : Nat) (s : State), s.plc.lock = true → (∀ n b, s.plc.chosen = some n → (s.plc.neighbour n).beaconAt = some b → b + seconds 3 ≤ (s.advance t).now) →
    ∃ u, exec (.beaconLockLoss t) s = .next u ∧ u.plc.lock = false ∧ u.time.beaconOk = false ∧ (s.evt.disabled.getLsbD 645 = false → u.evt.pending.getLsbD 645 = true)) ∧
  (∀ (t : Nat) (s : State), (s.plc.lock = false ∨ ∃ n b, s.plc.chosen = some n ∧ (s.plc.neighbour n).beaconAt = some b ∧ (s.advance t).now < b + seconds 3) →
    exec (.beaconLockLoss t) s = .next (s.advance t)) ∧
  (∀ (t : Nat) (s : State), s.plc.state = 2 → s.plc.silent = false → (s.advance t).plcServes = true → s.plc.advAt ≤ (s.advance t).now →
    ∃ u l, exec (.routeAdvertisement t) s = .next u ∧ u.plc.ownSeq = s.plc.ownSeq + 1 ∧ u.plc.mgmt = s.plc.mgmt ++ l ∧ l ≠ [] ∧
      (∀ f ∈ l, f.type = 4 ∧ f.final = 0xFFFF ∧ f.cls = 3 ∧ f.body.length ≤ 1496) ∧
      (s.advance t).now + seconds 10 ≤ u.plc.advAt ∧ u.plc.advAt < (s.advance t).now + seconds 11) ∧
  (∀ (t : Nat) (s : State), (s.plc.state ≠ 2 ∨ s.plc.silent = true ∨ (s.advance t).plcServes = false ∨ (s.advance t).now < s.plc.advAt) →
    exec (.routeAdvertisement t) s = .next (s.advance t)) ∧
  (∀ (t : Nat) (s : State), ∃ u, exec (.routeExpiry t) s = .next u ∧ u.plc.routes = s.plc.routes.filter (fun e => (s.advance t).now < e.2.heard + seconds 35) ∧
    u.plc.neigh = s.plc.neigh.filter (fun e => (s.advance t).now < e.2.heard + seconds 35) ∧ u.plc.chosen = u.plc.choose) ∧
  (∀ (t : Nat) (s : State), ∃ u, exec (.deliveryTimeout t) s = .next u ∧
    u.plc.awaiting = s.plc.awaiting.filter (fun a => !(s.plc.awaiting.any fun b => b.order = a.order && b.since.any fun x => x + b.hops * 12288000 ≤ (s.advance t).now))) ∧
  (∀ (t : Nat) (s : State), (∀ a ∈ s.plc.awaiting, ∀ x, a.since = some x → (s.advance t).now < x + a.hops * 12288000) → exec (.deliveryTimeout t) s = .next (s.advance t)) ∧
  (∀ (t : Nat) (s : State), (s.advance t).domOn 15 = true → exec (.zeroCrossingEdge t) s = .next ((s.advance t).modPlc fun p =>
    { p with zcAt := some (s.advance t).stamp, zcPeriod := (p.zcAt.map fun z => (s.advance t).stamp - z).getD 0 })) ∧
  (∀ (t : Nat) (s : State), (s.advance t).domOn 15 = false → exec (.zeroCrossingEdge t) s = .next (s.advance t))

/-! ## Tandem operation (18) -/

/-- Rows LINK_TRAINING, LANE_ERROR_RETRAIN, HEARTBEAT_SEND, _RECEIVED, _ACKNOWLEDGED, _MISSED and _UNACKNOWLEDGED, TANDEM_TAKEOVER, STAND_DOWN, YIELD, CLAIM_RECEIVED, PREPARE_FRAME, JOURNAL_FRAME, JOURNAL_ACKNOWLEDGEMENT, FRAME_RESEND, CHECKPOINT_BLOCK_RECEIVED, _CAPTURE and _COMPLETE,
HANDOVER_EXECUTION and HANDOVER_ABANDONED. At the first training the lower term, on equal terms the preferred device, becomes captain next. A stoker that suspects its captain, preferred or with WITNESS high, takes captaincy with a term above every term seen; a captain without acknowledgements that is not preferred and sees WITNESS
low, or that has yielded, leaves it. One heartbeat goes in each cadence, in its window. Frames are taken once each, in order, and answered. A captain captures one checkpoint a second.
Which frames the numbers count is the model's choice (log 124). -/
def Obligations.TandemRows : Prop :=
  (∀ (t : Nat) (l : TrainIn) (s : State), s.tdm.enabled = true → (s.advance t).domOn 16 = true →
    (l.strapsEqual = false → l.identityOk = true → l.lanes ≠ 0 → ∃ u, exec (.linkTraining t l) s = .next u ∧ u.tdm.link = true ∧ u.tdm.lanes = l.lanes ∧
      u.tdm.trainings = s.tdm.trainings + 1 ∧ u.tdm.seenTerm = maxTerm s.tdm.seenTerm l.term ∧ u.tdm.role = s.tdm.role ∧
      (s.tdm.everUp = false → u.tdm.roleNext = some (if l.term < s.tdm.term ∨ (l.term = s.tdm.term ∧ s.pwr.tiebreak = true) then .captain else .neither)) ∧
      (s.tdm.everUp = true → u.tdm.roleNext = s.tdm.roleNext) ∧ u.mem = s.mem ∧ u.led = s.led) ∧
    ((l.strapsEqual = true ∨ l.identityOk = false ∨ l.lanes = 0) → ∃ u, exec (.linkTraining t l) s = .next u ∧ u.tdm.link = false ∧ u.tdm.role = s.tdm.role ∧
      (s.evt.disabled.getLsbD 644 = false → u.evt.pending.getLsbD 644 = true))) ∧
  (∀ (t k : Nat) (s : State), (s.advance t).tdmUp = true → ∃ u, exec (.laneErrorRetrain t k) s = .next u ∧ u.tdm = { s.tdm with retraining := true, link := false, lanes := 0 }) ∧
  (∀ (t k : Nat) (w : Bool) (h : HeartIn) (m : MirrorIn) (c : CkptIn) (x : BitVec 32) (d : List Byte) (s : State), (s.advance t).tdmUp = false →
    exec (.laneErrorRetrain t k) s = .next (s.advance t) ∧ exec (.heartbeatSend ⟨t, w⟩) s = .next (s.advance t) ∧ exec (.heartbeatReceived t h) s = .next (s.advance t) ∧
    exec (.claimReceived t x) s = .next (s.advance t) ∧ exec (.prepareFrame t m) s = .next (s.advance t) ∧ exec (.journalFrame t m) s = .next (s.advance t) ∧
    exec (.journalAcknowledgement t x) s = .next (s.advance t) ∧ exec (.frameResend t) s = .next (s.advance t) ∧
    exec (.checkpointBlockReceived t x k d) s = .next (s.advance t) ∧ exec (.checkpointComplete t c) s = .next (s.advance t)) ∧
  (∀ (t : Nat) (w : Bool) (s : State), (s.advance t).tdmUp = true →
    (s.tdm.hbSent = false → 12288 ≤ (s.advance t).time.off → (s.advance t).time.off ≤ 24576 → ∃ h : HeartOut,
      exec (.heartbeatSend ⟨t, w⟩) s = .next ((s.advance t).modTdm fun x => { x with hbSent := true, hbOut := some h }) ∧ h.term = s.tdm.term ∧ h.cadence = s.time.cad ∧
      h.role = s.tdm.role ∧ h.preferred = s.pwr.tiebreak ∧ h.witness = w ∧ h.floodgate = s.guard.closed ∧ h.commits = s.tdm.commits ∧
      h.bcount = BitVec.ofNat 32 s.book.count ∧ h.digest = s.tdm.digest) ∧
    (s.tdm.hbSent = true ∨ (s.advance t).time.off < 12288 ∨ 24576 < (s.advance t).time.off → exec (.heartbeatSend ⟨t, w⟩) s = .next (s.advance t))) ∧
  (∀ (t : Nat) (h : HeartIn) (s : State), (s.advance t).tdmUp = true →
    (h.cadence ≠ s.time.cad ∨ 49152 < (s.advance t).time.off → exec (.heartbeatReceived t h) s = .next ((s.advance t).modTdm fun x => x.see h.term)) ∧
    (h.cadence = s.time.cad → (s.advance t).time.off ≤ 49152 → ∃ u, exec (.heartbeatReceived t h) s = .next u ∧ u.tdm.hbGot = true ∧ u.tdm.missedRun = 0 ∧
      u.tdm.suspect = false ∧ u.tdm.seenTerm = maxTerm s.tdm.seenTerm h.term ∧ u.tdm.role = s.tdm.role ∧
      (h.role = .captain → s.tdm.role = .captain → s.tdm.term < h.term ∨ (s.tdm.term = h.term ∧ s.pwr.tiebreak = false) → u.tdm.yieldTo = some h.term) ∧
      (h.role = .captain → s.tdm.role = .stoker → (h.commits ≠ s.tdm.commits ∨ h.digest ≠ s.tdm.digest) → u.tdm.roleNext = some .neither))) ∧
  (∀ (t : Nat) (s : State), s.tdm.hbSent = true → (s.advance t).time.off ≤ 98304 → s.tdm.unackDone = false → exec (.heartbeatAcknowledged t) s =
    .next ((s.advance t).modTdm fun x => { x with acks := true :: x.acks.drop 1, unackRun := 0, linkDown := false })) ∧
  (∀ (t : Nat) (s : State), s.tdm.enabled = true → s.tdm.unackDone = false → s.tdm.acks.headD true = false → 98304 ≤ (s.advance t).time.off → s.tdm.role = .captain →
    ∃ u, exec (.heartbeatUnacknowledged t) s = .next u ∧ u.tdm.unackRun = s.tdm.unackRun + 1 ∧ u.tdm.unackDone = true ∧ (s.tdm.unackRun = 1 → u.tdm.linkDown = true)) ∧
  (∀ (t : Nat) (s : State), s.tdm.enabled = true → s.tdm.everUp = true → s.tdm.hbGot = false → s.tdm.missDone = false → 49152 ≤ (s.advance t).time.off →
    ∃ u, exec (.heartbeatMissed t) s = .next u ∧ u.tdm.missedRun = s.tdm.missedRun + 1 ∧ (1 ≤ s.tdm.missedRun → s.tdm.role = .stoker → u.tdm.suspect = true) ∧
      (s.evt.disabled.getLsbD 644 = false → u.evt.pending.getLsbD 644 = true)) ∧
  (∀ (t : Nat) (s : State), s.tdm.enabled = false → exec (.heartbeatMissed t) s = .next (s.advance t) ∧ exec (.heartbeatUnacknowledged t) s = .next (s.advance t)) ∧
  (∀ (w : Bool) (s : State), s.time.off = 0 → s.tdm.role = .stoker → s.tdm.suspect = true → (s.pwr.tiebreak = true ∨ w = true) →
    ∃ u, exec (.tandemTakeover w) s = .next u ∧ u.tdm.role = .captain ∧ u.tdm.term = maxTerm s.tdm.term s.tdm.seenTerm + 1 ∧ u.tdm.suspect = false ∧ ((∀ n, (s.sluice n).waiting = []) → u.out.staged = [])) ∧
  (∀ (w : Bool) (s : State), (s.time.off ≠ 0 ∨ s.tdm.role ≠ .stoker ∨ s.tdm.suspect = false ∨ (s.pwr.tiebreak = false ∧ w = false)) →
    exec (.tandemTakeover w) s = .next s) ∧
  (∀ (w : Bool) (s : State), s.time.off = 0 → s.tdm.role = .captain → 2 ≤ s.tdm.unackRun → s.pwr.tiebreak = false → w = false →
    ∃ u, exec (.standDown w) s = .next u ∧ u.tdm.role = .neither ∧ u.tdm.term = s.tdm.term ∧ ((∀ n, (s.sluice n).waiting = []) → u.out.staged = [])) ∧
  (∀ (w : Bool) (s : State), (s.time.off ≠ 0 ∨ s.tdm.role ≠ .captain ∨ s.tdm.unackRun < 2 ∨ s.pwr.tiebreak = true ∨ w = true) → exec (.standDown w) s = .next s) ∧
  (∀ (x : BitVec 32) (s : State), s.time.off = 0 → s.tdm.role = .captain → s.tdm.yieldTo = some x →
    ∃ u, exec .yield s = .next u ∧ u.tdm.role = .neither ∧ u.tdm.yieldTo = none ∧ ((∀ n, (s.sluice n).waiting = []) → u.out.staged = [])) ∧
  (∀ s : State, (s.time.off ≠ 0 ∨ s.tdm.role ≠ .captain ∨ s.tdm.yieldTo = none) → exec .yield s = .next s) ∧
  (∀ (t : Nat) (x : BitVec 32) (s : State), (s.advance t).tdmUp = true → ∃ u, exec (.claimReceived t x) s = .next u ∧ u.tdm.seenTerm = maxTerm s.tdm.seenTerm x ∧
    u.tdm.role = s.tdm.role ∧ u.tdm.yieldTo = (if s.tdm.role = .captain ∧ (s.tdm.term < x ∨ (s.tdm.term = x ∧ s.pwr.tiebreak = false)) then some x else s.tdm.yieldTo)) ∧
  (∀ (t : Nat) (m : MirrorIn) (s : State), (s.advance t).tdmUp = true → s.tdm.role ≠ .captain →
    (s.tdm.rxSeq < m.seq → ∃ u v x, exec (.prepareFrame t m) s = .next u ∧ u.tdm.rxSeq = m.seq ∧ u.tdm.mirrors = s.tdm.mirrors ++ [x] ∧ x.cmd = m.cmd ∧ x.nonce = m.nonce ∧
      x.due = some (s.time.bnd + (m.due - s.time.cad)) ∧ u.led = s.led ∧ u.mtr = s.mtr ∧ exec (.journalFrame t m) s = .next v ∧ (m.nonce ≠ 0 → (v.polder m.polder).journal.contains m.nonce = true ∨
        s.journaled m.polder m.nonce = true)) ∧
    (m.seq ≤ s.tdm.rxSeq → exec (.prepareFrame t m) s = .next (s.advance t) ∧ exec (.journalFrame t m) s = .next (s.advance t))) ∧
  (∀ (t : Nat) (x : BitVec 32) (s : State), (s.advance t).tdmUp = true → (∀ f ∈ s.tdm.unacked, x < f.seq) → exec (.journalAcknowledgement t x) s = .next (s.advance t)) ∧
  (∀ (t : Nat) (x : BitVec 32) (f : TdmFrame) (g : Staged) (s : State), (s.advance t).tdmUp = true → s.tdm.unacked = [f] → f.seq ≤ x → f.prepare = true →
    (s.out.staged.find? fun g => g.held.order == f.order) = some g → ∃ u v : State, exec (.journalAcknowledgement t x) s = .next u ∧ u.tdm.unacked = [] ∧
      v.out.staged = (s.out.staged.map fun (g : Staged) => if g.held.order == f.order then { g with unacked := false } else g) ∧ u = v.postStaged g) ∧
  (∀ (t : Nat) (s : State), (s.advance t).tdmUp = true → exec (.frameResend t) s = .next ((s.advance t).modTdm fun x =>
    { x with unacked := x.unacked.map fun f => if f.sent + 2458 ≤ (s.advance t).now then { f with sent := (s.advance t).now } else f })) ∧
  (∀ (t k : Nat) (x : BitVec 32) (d : List Byte) (s : State), (s.advance t).tdmUp = true → (s.tdm.role = .stoker ∨ s.tdm.role = .neither) →
    ∃ u b, exec (.checkpointBlockReceived t x k d) s = .next u ∧ u.tdm.incoming = some (x, b) ∧ Tab.find b k = some d ∧
      (∀ b₀ n, s.tdm.incoming = some (x, b₀) → n ≠ k → Tab.find b n = Tab.find b₀ n) ∧ u.tdm.ckpt = s.tdm.ckpt) ∧
  (∀ s : State, s.tdm.enabled = true → s.beginsSecond = true → s.tdm.role = .captain → s.tdm.captainAt ≠ some s.time.bnd →
    ∃ u a, exec .checkpointCapture s = .next u ∧ u.tdm.epoch = s.tdm.epoch + 1 ∧ u.tdm.outgoing = some (s.tdm.epoch + 1, a, s.time.bnd) ∧ a.ledgers = s.led ∧ a.polders = s.pol ∧
      a.term = s.tdm.term ∧ a.count = s.book.count) ∧
  (∀ s : State, (s.tdm.enabled = false ∨ s.beginsSecond = false) → exec .checkpointCapture s = .next s) ∧
  (∀ (t : Nat) (c : CkptIn) (s : State), (s.advance t).tdmUp = true → (s.tdm.role = .stoker ∨ s.tdm.role = .neither) →
    (c.hashOk = false → exec (.checkpointComplete t c) s = .next (s.advance t)) ∧
    (c.hashOk = true → ∃ u k, exec (.checkpointComplete t c) s = .next u ∧ u.tdm.ckpt = some k ∧ k.epoch = c.epoch ∧ k.content = c.content ∧ u.tdm.incoming = none ∧
      u.tdm.stokerDue = (s.tdm.stokerDue || s.tdm.role == .neither) ∧ (s.evt.disabled.getLsbD 644 = false → u.evt.pending.getLsbD 644 = true))) ∧
  (∀ s : State, s.time.off = 0 → s.tdm.role = .stoker → s.tdm.ckpt.isSome = true → s.tdm.link = true →
    ∃ u, exec .handoverExecution s = .next u ∧ u.tdm.role = .captain ∧ u.tdm.term = maxTerm s.tdm.term s.tdm.seenTerm + 1) ∧
  (∀ (b : Nat) (s : State), s.time.off = 0 → s.tdm.role = .captain → s.tdm.handover = some (b, true) →
    ∃ u, exec .handoverExecution s = .next u ∧ u.tdm.role = .stoker ∧ u.tdm.handover = none ∧ ((∀ n, (s.sluice n).waiting = []) → u.out.staged = [])) ∧
  (∀ (b : Nat) (s : State), s.tdm.handover = some (b, false) → (s.time.bnd < b + 125 → exec .handoverAbandoned s = .next s) ∧
    (b + 125 ≤ s.time.bnd → ∃ u, exec .handoverAbandoned s = .next u ∧ u.tdm = { s.tdm with handover := none })) ∧
  (∀ s : State, s.tdm.handover = none → exec .handoverAbandoned s = .next s)

/-! ## What committed commands change (13) -/

/-- What a staged command sets at its boundary, and what it leaves. Rows POWER_SET_DOMAINS and _STATE, WHEEL_SET_GEAR, _SET_JOCKEY, _SERVICE_SPOKE, _RETURN_SPOKE and _USE_RELIEF_*, CHAIN_SWITCH_BANK, CHAIN_SET_CHANNEL and _SET_TRIP, CAL_RUN, CAL_COMMIT, CAL_ANCHOR and CAL_SET_REFERENCE, TIME_SET_*, TIME_TRUST_*,
GUARD_SET_RESPONSE, TANDEM_ENABLE, _DISABLE and _HANDOVER, IMAGE_ACTIVATE_*. Each sets what its payload names for the channels, wheels, targets or sources its payload selects, and for no others. -/
def Obligations.CommitSettings : Prop :=
  (∀ (b : BoundaryIn) (x : Bool) (p : Nat) (r : PowerSetDomains) (s : State), let u := commitEffect b x p (.powerSetDomains r) s
    (u.polder p).on = r.on.setWidth 33 ∧ (u.polder p).off = r.off.setWidth 33 ∧ (∀ q, q ≠ p → u.polder q = s.polder q) ∧ u.pwr = s.pwr ∧ u.mem = s.mem) ∧
  (∀ (b : BoundaryIn) (x : Bool) (p : Nat) (r : PowerSetState) (s : State), let u := commitEffect b x p (.powerSetState r) s
    u.pwr.wakeCfg = r.wakeCfg.setWidth 10 ∧ u.led = s.led ∧ u.mem = s.mem ∧ u.whl = s.whl ∧
    (s.pwr.state ≠ .hush → (r.state = 0 → u.pwr.state = .run) ∧ (r.state = 1 → u.pwr.state = .trim) ∧ (r.state = 2 → u.pwr.hushWant = true ∧ u.pwr.state = s.pwr.state)) ∧
    (s.pwr.state = .hush → u.pwr.state = .hush ∧ (r.state = 0 → u.pwr.held = .run) ∧ (r.state = 1 → u.pwr.held = .trim)) ∧
    (r.state = 3 → u.pwr.pending = some .nap ∧ u.pwr.state = s.pwr.state)) ∧
  (∀ (b : BoundaryIn) (x : Bool) (p : Nat) (r : WheelSetGear) (s : State) (c : Nat), c < 128 → let u := commitEffect b x p (.wheelSetGear r) s
    (u.channel c).gearPolicy = (if r.channels.getLsbD c then r.policy else (s.channel c).gearPolicy) ∧ u.led = s.led ∧ u.mem = s.mem ∧ u.mtr = s.mtr) ∧
  (∀ (b : BoundaryIn) (x : Bool) (p : Nat) (r : WheelSetJockey) (s : State) (w : Nat), w < 16 → let u := commitEffect b x p (.wheelSetJockey r) s
    (u.wheel w).policy = (if r.wheels.getLsbD w then r.policy else (s.wheel w).policy) ∧ (u.wheel w).rel = (if r.wheels.getLsbD w then r.rel else (s.wheel w).rel) ∧
    (u.wheel w).floorPpm = (if r.wheels.getLsbD w then r.floorPpm else (s.wheel w).floorPpm) ∧ u.led = s.led ∧ u.mem = s.mem) ∧
  (∀ (b : BoundaryIn) (x : Bool) (p : Nat) (r : WheelServiceSpoke) (s : State), let u := commitEffect b x p (.wheelServiceSpoke r) s
    (u.wheel r.wheel).takeover = some { spoke := r.spoke, action := r.action, bt := s.time.bnd + 1, auto := false } ∧
    ((s.wheel r.wheel).jockeyAt ≠ some r.spoke → (u.wheel r.wheel).jockeyAt = some r.spoke ∧ (u.wheel r.wheel).jockey.state = .settling) ∧
    (∀ v, v ≠ r.wheel → u.wheel v = s.wheel v) ∧ u.led = s.led) ∧
  (∀ (b : BoundaryIn) (x : Bool) (p : Nat) (r : WheelReturnSpoke) (s : State), let u := commitEffect b x p (.wheelReturnSpoke r) s
    ((s.wheel r.wheel).jockeyServes = some r.spoke → ((u.wheel r.wheel).slice r.spoke).state = .settling ∧
      ∃ y, (u.wheel r.wheel).ret = some y ∧ y.spoke = r.spoke ∧ y.br = s.time.bnd ∧ y.passed = 0) ∧
    ((s.wheel r.wheel).jockeyServes ≠ some r.spoke → ((u.wheel r.wheel).slice r.spoke).state = .serving ∧ ((u.wheel r.wheel).slice r.spoke).emergency = true ∧
      (u.wheel r.wheel).ret = none) ∧ (∀ v, v ≠ r.wheel → u.wheel v = s.wheel v)) ∧
  (∀ (b : BoundaryIn) (x : Bool) (p w m : Nat) (s : State), let u := commitEffect b x p (.wheelUseRelief w m) s
    u.relief.wheel = w ∧ u.relief.due = s.time.bnd + 1 ∧ u.relief.phase = (if m = 1 then .taking else .returning) ∧ u.relief.failed = s.relief.failed ∧
    u.wheel w = { s.wheel w with passRun := 0 } ∧ (∀ v, v ≠ w → u.wheel v = s.wheel v)) ∧
  (∀ (b : BoundaryIn) (x : Bool) (p : Nat) (r : ChainSwitchBank) (s : State) (w : Nat), w < 16 → let u := commitEffect b x p (.chainSwitchBank r) s
    (r.wheels.getLsbD w = true → (u.wheel w).activeB = !(s.wheel w).activeB ∧
      (u.wheel w).fade = if s.domOn (wheelDom w) then some { length := 16 * 2 ^ r.fade, from_ := s.time.bnd, over_ := false } else none) ∧
    (r.wheels.getLsbD w = false → (u.wheel w).activeB = (s.wheel w).activeB ∧ (u.wheel w).fade = (s.wheel w).fade) ∧
    (u.wheel w).bankA = (s.wheel w).bankA ∧ (u.wheel w).bankB = (s.wheel w).bankB ∧ u.chan = s.chan) ∧
  (∀ (b : BoundaryIn) (x : Bool) (p : Nat) (r : ChainSetChannel) (s : State), let u := commitEffect b x p (.chainSetChannel r) s
    let y := u.channel r.channel
    let o := s.channel r.channel
    y.scale = (if r.what.getLsbD 0 then r.scale else o.scale) ∧ y.corner = (if r.what.getLsbD 1 then r.corner else o.corner) ∧
    y.dcFreeze = (if r.what.getLsbD 2 then decide (r.dcFreeze ≠ 0) else o.dcFreeze) ∧ y.intEnable = (if r.what.getLsbD 3 then decide (r.intEnable ≠ 0) else o.intEnable) ∧
    y.cycleRef = (if r.what.getLsbD 4 then r.cycleRef else o.cycleRef) ∧ y.envAttack = (if r.what.getLsbD 5 then r.envAttack else o.envAttack) ∧
    y.envDecay = (if r.what.getLsbD 5 then r.envDecay else o.envDecay) ∧ y.trip = o.trip ∧ (∀ d, d ≠ r.channel → u.channel d = s.channel d) ∧ u.led = s.led ∧ u.mtr = s.mtr) ∧
  (∀ (b : BoundaryIn) (x : Bool) (p : Nat) (r : ChainSetTrip) (s : State), let u := commitEffect b x p (.chainSetTrip r) s
    let y := (u.channel r.channel).trip
    y.mode = r.mode ∧ y.tHi = r.tHi ∧ y.tLo = r.tLo ∧ y.count = r.count ∧ y.release = r.release ∧ y.latch = r.tflags.getLsbD 0 ∧ y.lostTrip = r.tflags.getLsbD 1 ∧
    y.outMask = r.outMask.setWidth 4 ∧ (u.channel r.channel).tripState = TripState.reset ∧ (∀ d, d ≠ r.channel → u.channel d = s.channel d) ∧ u.led = s.led) ∧
  (∀ (b : BoundaryIn) (x : Bool) (p : Nat) (r : CalRun) (s : State) (t : CalTarget), t ∈ r.targets.take r.ntarget → let u := commitEffect b x p (.calRun r) s
    ∃ k, u.cand t.channel t.gear = some k ∧ k.run = r ∧ k.gear = t.gear ∧ (k.status = .running ∨ k.status = .aborted)) ∧
  (∀ (b : BoundaryIn) (x : Bool) (p : Nat) (r : CalCommit) (t : CalTarget) (k : Cand) (n : CalSet) (s : State), r.targets.take r.ntarget = [t] →
    s.cand t.channel t.gear = some k → k.new0 = none → k.new1 = some n → let u := commitEffect b x p (.calCommit r) s
    u.cand t.channel t.gear = none ∧ ((u.channel t.channel).set t.gear 1).calCount = ((s.channel t.channel).set t.gear 1).calCount + 1 ∧
    ((u.channel t.channel).set t.gear 1).calTime = s.stamp ∧ ((u.channel t.channel).set t.gear 1).lastKind = k.run.kind ∧
    (u.channel t.channel).set t.gear 0 = (s.channel t.channel).set t.gear 0 ∧ (∀ d, d ≠ t.channel → u.channel d = s.channel d)) ∧
  (∀ (b : BoundaryIn) (x : Bool) (p : Nat) (s : State), let u := commitEffect b x p .calAnchor s
    u.refs.anchorSel = s.refs.sel ∧ u.refs.anchorK = s.refs.kRef ∧ u.refs.kTarget = s.refs.kRef ∧ u.refs.state = .normal ∧ u.refs.sel = s.refs.sel ∧
    u.refs.anchor = s.refs.ratios.filter (fun e => !s.refs.failed.contains e.1) ∧ u.chan = s.chan) ∧
  (∀ (b : BoundaryIn) (x : Bool) (p : Nat) (r : CalSetReference) (s : State), let u := commitEffect b x p (.calSetReference r) s
    u.refs.pref = r.preferred ∧ u.refs.autoHo = decide (r.auto ≠ 0) ∧ u.refs.sel = r.preferred ∧
    (s.refs.sel = r.preferred → u.refs.kRef = s.refs.kRef ∧ u.evt = s.evt) ∧
    (s.refs.sel ≠ r.preferred → u.refs.kRef = s.refs.kRef * s.refs.ratios.get 1 r.preferred ∧ (s.evt.disabled.getLsbD 643 = false → u.evt.pending.getLsbD 643 = true))) ∧
  (∀ (b : BoundaryIn) (x : Bool) (p : Nat) (r : TimeSet) (s : State), let u := commitEffect b x p (.timeSet r) s
    (s.rtcHolds (r.offset : Rat) = true → u.time.disqPps = false ∧ u.time.disqBeacon = false ∧ u.time.off = s.time.off ∧ u.time.bnd = s.time.bnd ∧
      (r.mode = 0 → u.time.cad = ((s.time.cad : Int) + (splitOffset (r.offset : Rat)).1).toNat ∧ u.time.slew = (splitOffset (r.offset : Rat)).2 ∧
        u.time.causes = s.time.causes &&& 4 ∧ u.time.stepped = true) ∧
      (r.mode ≠ 0 → u.time.cad = s.time.cad ∧ u.time.slew = (r.offset : Rat) ∧ u.time.causes = s.time.causes)) ∧
    (s.rtcHolds (r.offset : Rat) = false → u = s)) ∧
  (∀ (b : BoundaryIn) (x : Bool) (p a : Nat) (s : State), let u := commitEffect b x p (.timeTrust a) s
    u.time = { s.time with causes := if a = 0 then s.time.causes ||| 4 else s.time.causes &&& 3 } ∧ u.mem = s.mem ∧
    (s.trusted = true → a = 0 → s.evt.disabled.getLsbD 646 = false → u.evt.pending.getLsbD 646 = true)) ∧
  (∀ (b : BoundaryIn) (x : Bool) (p : Nat) (n : Nat) (e : GuardEntry) (s : State), let u := commitEffect b x p (.guardSetResponse ⟨n, [e]⟩) s
    u.response e.source = { response := e.response, param := BitVec.ofNat 8 e.param } ∧ (∀ g, g ≠ e.source → u.response g = s.response g) ∧
    u.guard.closed = s.guard.closed ∧ u.guard.fuses = s.guard.fuses ∧
    (e.source < 8 → e.response = 0 → u.tmp.active.getLsbD e.source = false ∧ u.tmp.level.getLsbD e.source = false) ∧
    (e.response ≠ 0 → u.tmp = { s.tmp with level := u.tmp.level } ∧ ((s.response e.source).response ≠ 0 ∨ 8 ≤ e.source ∨ e.param % 2 = 1 → u.tmp = s.tmp) ∧
      ((s.response e.source).response = 0 → e.source < 8 → e.param % 2 = 0 → u.tmp.level.getLsbD e.source = true))) ∧
  (∀ (b : BoundaryIn) (x : Bool) (p : Nat) (r : TandemEnable) (s : State), let u := commitEffect b x p (.tandemEnable r) s
    (r.enable = 1 → (s.tdm.enabled = false ∨ s.tdm.partnerId ≠ r.partnerId) → u.tdm.enabled = true ∧ u.tdm.partnerId = r.partnerId ∧ u.tdm.role = .neither ∧
      u.tdm.link = false ∧ u.tdm.term = s.tdm.term) ∧
    (r.enable = 1 → s.tdm.enabled = true → s.tdm.partnerId = r.partnerId → u = s) ∧
    (r.enable ≠ 1 → u.tdm.enabled = false ∧ u.tdm.role = .single ∧ u.tdm.link = false ∧ u.tdm.term = s.tdm.term)) ∧
  (∀ (b : BoundaryIn) (x : Bool) (p : Nat) (s : State), let u := commitEffect b x p .tandemHandover s
    u.tdm.handover = some (s.time.bnd, false) ∧ u.tdm.epoch = s.tdm.epoch + 1 ∧ u.tdm.role = s.tdm.role ∧ u.led = s.led) ∧
  (∀ (b : BoundaryIn) (x : Bool) (p : Nat) (s : State), let u := commitEffect b x p (.imageActivate 0) s
    u.pwr.portsReady = false ∧ u.pwr.wetActive = s.idleWet ∧ u.flash.restarting = some (p, true) ∧ u.flash.trial = some (s.now, s.pwr.wetActive) ∧ u.out.staged = [] ∧
    u.led = s.led ∧ u.mtr = s.mtr) ∧
  (∀ (b : BoundaryIn) (p : Nat) (s : State), let u := commitEffect b false p (.imageActivate 1) s
    u.flash.dry = s.flash.dryStaged ∧ u.flash.dryStaged = s.flash.dry ∧ u.pwr.startCount = s.pwr.startCount + 1 ∧ u.pwr.startBoundary = true ∧ u.pwr.portsReady = false ∧
    (u.tdm.role = if s.tdm.enabled then .neither else .single))

/-- What a staged command sets at its boundary, and what it leaves. Rows METER_DEFINE, METER_UNDEFINE, METER_MAP_CF and _CLEAR, PQ_SET_CHANNEL, PQ_SET_METER, TARIFF_SET_METER, LEDGER_SET_DEMAND, LEDGER_SET_TAMPER, LEDGER_CLOSE_PERIOD and POLDER_CREATE, _ASSIGN, _RELEASE, _CLOSE and _DISSOLVE. A new meter is PENDING with a
cleared ledger in period 1, and DEF_GEN advances once at a boundary; one that exists keeps its ledger and owner. A change of rate quantities or of demand closes the period, the same demand leaves the open sub-intervals short, once the cadence that closed there has been booked. A change of holders starts a new epoch on each sluice that moves and on no other; keys and generations are those of the rules. -/
def Obligations.CommitHoldings : Prop :=
  (∀ (b : BoundaryIn) (x : Bool) (p : Nat) (d : MeterDefine) (s : State), let u := commitEffect b x p (.meterDefine d) s
    (∀ n, n ≠ d.meter → u.meter n = s.meter n) ∧ (u.meter d.meter).defGen = (s.meter d.meter).defGen + (if s.time.off = 0 ∧ s.pwr.advanced.contains (EpochUnit.definition d.meter).no = true then 0 else 1) ∧ u.whl = s.whl ∧ u.chan = s.chan ∧
    ((s.meter d.meter).state = .undefined → (u.meter d.meter).state = .pending ∧ (u.meter d.meter).def_ = d ∧ (u.ledger d.meter).exists_ = true ∧
      (u.ledger d.meter).owner = d.owner ∧ (u.ledger d.meter).sealed = d.options.getLsbD 0 ∧ (u.ledger d.meter).period = 1 ∧
      (u.ledger d.meter).total = List.replicate 16 0 ∧ (u.ledger d.meter).rate = List.replicate 16 0 ∧ (u.ledger d.meter).readSeq = (s.ledger d.meter).readSeq) ∧
    ((s.meter d.meter).state ≠ .undefined → (u.meter d.meter).state = (s.meter d.meter).state ∧ (u.meter d.meter).def_ = { d with owner := (s.meter d.meter).def_.owner } ∧
      (u.ledger d.meter).total = (s.ledger d.meter).total ∧ (u.ledger d.meter).period = (s.ledger d.meter).period ∧ u.mem = s.mem)) ∧
  (∀ (b : BoundaryIn) (x : Bool) (p : Nat) (r : MeterUndefine) (s : State), let u := commitEffect b x p (.meterUndefine r) s
    (u.meter r.meter).state = .undefined ∧ (u.meter r.meter).former = some (s.meter r.meter).def_.owner ∧ (u.meter r.meter).defGen = (s.meter r.meter).defGen ∧
    (∀ n, n ≠ r.meter → u.meter n = s.meter n) ∧
    (∀ n y, (s.cfOut n).map = some y → (y.meter = r.meter → (u.cfOut n).map = none ∧ (u.cfOut n).kick = true) ∧ (y.meter ≠ r.meter → u.cfOut n = s.cfOut n)) ∧
    (s.bookingDue = false → (s.ledger r.meter).ops = [] → (u.ledger r.meter).period = ((s.ledger r.meter).period + 1) % 2 ^ 32 ∧
      (u.ledger r.meter).total = (s.ledger r.meter).total)) ∧
  (∀ (b : BoundaryIn) (x : Bool) (p : Nat) (r : MeterMapCf) (s : State), let u := commitEffect b x p (.meterMapCf r) s
    let m : Option CfMap := if r.q = 0xFF then none else some { meter := r.meter, q := r.q, k := r.k, width := r.width }
    (u.cfOut r.cf).map = m ∧ ((s.cfOut r.cf).map ≠ m → u.cfOut r.cf = { s.cfOut r.cf with map := m, acc := 0, carry := 0 }) ∧
    ((s.cfOut r.cf).map = m → u.cfOut r.cf = s.cfOut r.cf) ∧ (∀ n, n ≠ r.cf → u.cfOut n = s.cfOut n) ∧ u.led = s.led) ∧
  (∀ (b : BoundaryIn) (x : Bool) (p : Nat) (r : PqSetChannel) (s : State), let u := commitEffect b x p (.pqSetChannel r) s
    (u.channel r.channel).pq = { enable := decide (r.enable ≠ 0), kind := r.kind, fNom := r.fNom, ref := r.ref, udin := r.udin, dip := r.dip, swell := r.swell
                                 intr := r.intr, hyst := r.hyst, harm := decide (r.harm ≠ 0), iharm := decide (r.iharm ≠ 0) } ∧
    (u.channel r.channel).scale = (s.channel r.channel).scale ∧ (∀ d, d ≠ r.channel → u.channel d = s.channel d)) ∧
  (∀ (b : BoundaryIn) (x : Bool) (p : Nat) (r : PqSetMeter) (s : State), let u := commitEffect b x p (.pqSetMeter r) s
    (u.meter r.meter).unbOn = decide (r.enable ≠ 0) ∧ (u.meter r.meter).state = (s.meter r.meter).state ∧ (∀ n, n ≠ r.meter → u.meter n = s.meter n) ∧ u.led = s.led) ∧
  (∀ (b : BoundaryIn) (x : Bool) (p : Nat) (r : TariffSetMeter) (s : State), let u := commitEffect b x p (.tariffSetMeter r) s
    let l := s.ledger r.meter
    (u.ledger r.meter).mode = r.mode ∧ (u.ledger r.meter).fixedRate = r.rate ∧ (r.mode = 1 → (u.ledger r.meter).activeRate = r.rate) ∧
    (u.ledger r.meter).total = l.total ∧ (∀ n, n ≠ r.meter → u.ledger n = s.ledger n) ∧
    (l.rateQ0 = r.rateQ0 → l.rateQ1 = r.rateQ1 → (u.ledger r.meter).period = l.period ∧ (u.ledger r.meter).rate = l.rate) ∧
    ((l.rateQ0 ≠ r.rateQ0 ∨ l.rateQ1 ≠ r.rateQ1) → s.bookingDue = false → l.ops = [] → (u.ledger r.meter).period = (l.period + 1) % 2 ^ 32 ∧
      (u.ledger r.meter).rateQ0 = r.rateQ0 ∧ (u.ledger r.meter).rateQ1 = r.rateQ1 ∧ (u.ledger r.meter).rate = l.rate.map fun _ => 0)) ∧
  (∀ (b : BoundaryIn) (x : Bool) (p : Nat) (r : LedgerSetDemand) (s : State), let u := commitEffect b x p (.ledgerSetDemand r) s
    let l := s.ledger r.meter
    (l.demand.map (·.cfg) = r.entries → s.bookingDue = false → l.ops = [] → (u.ledger r.meter).demand = l.demand.map (fun d => { d with short := true }) ∧
      (u.ledger r.meter).period = l.period ∧ (u.ledger r.meter).total = l.total) ∧ (∀ n, n ≠ r.meter → u.ledger n = s.ledger n) ∧
    (l.demand.map (·.cfg) ≠ r.entries → s.bookingDue = false → l.ops = [] → (u.ledger r.meter).demand.map (·.cfg) = r.entries ∧
      (u.ledger r.meter).period = (l.period + 1) % 2 ^ 32 ∧ (u.ledger r.meter).total = l.total)) ∧
  (∀ (b : BoundaryIn) (x : Bool) (p : Nat) (r : LedgerSetTamper) (s : State), let u := commitEffect b x p (.ledgerSetTamper r) s
    (u.ledger r.meter).cfg = r.cfg ∧ (∀ e ∈ (u.ledger r.meter).tamper, e.onRun = 0 ∧ e.offRun = 0) ∧
    (u.ledger r.meter).tamper.map (·.count) = (s.ledger r.meter).tamper.map (·.count) ∧ (u.ledger r.meter).total = (s.ledger r.meter).total ∧
    (∀ n, n ≠ r.meter → u.ledger n = s.ledger n)) ∧
  (∀ (b : BoundaryIn) (x : Bool) (p : Nat) (r : BitVec 256) (s : State) (m : Nat), m < 256 → let u := commitEffect b x p (.ledgerClosePeriod r) s
    (r.getLsbD m = false → u.ledger m = s.ledger m) ∧ (u.ledger m).total = (s.ledger m).total ∧
    (r.getLsbD m = true → (s.ledger m).ops = [] → (s.bookingDue = false → (u.ledger m).period = ((s.ledger m).period + 1) % 2 ^ 32) ∧
      (s.bookingDue = true → (u.ledger m).period = (s.ledger m).period ∧ (u.ledger m).ops = [(s.time.bnd, .periodClose 2 s.stamp)]))) ∧
  (∀ (b : BoundaryIn) (x : Bool) (p : Nat) (r : PolderCreate) (s : State), let u := commitEffect b x p (.polderCreate r) s
    let q := u.polder r.record.polder
    let o := s.polder r.record.polder
    q.state = 1 ∧ q.sluices = r.record.sluices ∧ q.tickets = r.record.tickets ∧ q.priv = r.record.priv ∧ q.evt = r.record.evt ∧ q.authKey = r.authKey ∧
    q.sessKey = r.sessionKey ∧ q.keyGen = o.keyGen + 1 ∧ q.keyId = o.keyId + 1 ∧ q.journal = [] ∧ q.rekeyed = false ∧
    (∀ n, n ≠ r.record.polder → (u.polder n).state = (s.polder n).state ∧ (u.polder n).sluices = (s.polder n).sluices ∧ (u.polder n).keyGen = (s.polder n).keyGen)) ∧
  (∀ (b : BoundaryIn) (x : Bool) (p k : Nat) (r : PolderRecord) (s : State), let u := commitEffect b x p (.polderAssign k [r]) s
    let q := u.polder r.polder
    let o := s.polder r.polder
    q.state = o.state ∧ q.sluices = r.sluices ∧ q.tickets = r.tickets ∧ q.priv = r.priv ∧ q.evt = r.evt ∧ q.domains = r.domains.setWidth 33 ∧
    q.on = o.on &&& r.domains.setWidth 33 ∧ q.keyGen = o.keyGen ∧ q.journal = o.journal ∧
    (∀ n, n ≠ r.polder → (u.polder n).sluices = (s.polder n).sluices ∧ (u.polder n).priv = (s.polder n).priv) ∧
    (∀ n, n < 32 → (u.sluice n).epoch = (s.sluice n).epoch + (if s.sluiceHolder n = u.sluiceHolder n then 0 else 1))) ∧
  (∀ (b : BoundaryIn) (x : Bool) (p : Nat) (r : PolderRecord) (s : State), p ≠ 0 → let u := commitEffect b x p (.polderRelease r) s
    (u.polder p).sluices = (s.polder p).sluices &&& ~~~r.sluices ∧ (u.polder 0).sluices = (s.polder 0).sluices ||| r.sluices ∧
    (u.polder p).priv = (s.polder p).priv &&& ~~~r.priv ∧ (u.polder p).state = (s.polder p).state ∧ (u.polder p).keyGen = (s.polder p).keyGen) ∧
  (∀ (b : BoundaryIn) (x : Bool) (p : Nat) (s : State), let u := commitEffect b x p .polderClose s
    (u.polder p).state = 2 ∧ (u.polder p).keyId = (s.polder p).keyId + 1 ∧ (u.polder p).keyGen = (s.polder p).keyGen ∧ (u.polder p).sluices = (s.polder p).sluices ∧
    (∀ n, n ≠ p → (u.polder n).state = (s.polder n).state ∧ (u.polder n).keyId = (s.polder n).keyId)) ∧
  (∀ (b : BoundaryIn) (x : Bool) (p n : Nat) (s : State), n ≠ 0 → let u := commitEffect b x p (.polderDissolve n) s
    (u.polder n).state = 0 ∧ (u.polder n).sluices = 0 ∧ (u.polder n).keyGen = (s.polder n).keyGen ∧ (u.polder n).keyId = (s.polder n).keyId ∧
    (u.polder 0).sluices = (s.polder 0).sluices ||| (s.polder n).sluices ∧ u.tariff n = Tariff.reset ∧ (∀ m, (u.meter m).former ≠ some n))

/-- Results have the catalogue's lengths; a command that only reports leaves the state, but for free bytes it draws. What each other command of AcceptedRunsNow changes: banks, latches, captures, streams, candidates, calendars, keys, event queues and masks, the powerline settings, alarm and periodic wake, the stores, the floodgate's unlocking and
key, staged images and the trial. Rows PLC_SEND and LEDGER_READ_SIGNED, accepted: the frame joins its polder's queue, the request the signer's, and the completion waits. An accepted authority command of a captain, not staged and no reading, waits for the partner's acknowledgement of its journal frame. -/
def Obligations.CompletionEffects : Prop :=
  (∀ (p n w m k : Nat) (d : List Byte) (t : CalTarget) (r : CalRead) (a : PolderReadAudit) (g : StoreRead) (s : State),
    (∀ c ∈ [Cmd.devInfo, .devIdentity, .devEcho d, .powerStatus, .chainStatus n, .pqStatus k, .calRead r, .tariffStatus, .ledgerStatus m, .polderStatus n,
      .polderReadAudit a, .plcStatus, .timeStatus, .storeRead g, .tandemStatus, .imageStatus], (applyNow p c s).2 = s) ∧
    (∀ c ∈ [Cmd.wheelStatus w, .meterStatus m, .calStatus t, .polderGetKey], ∃ f, (applyNow p c s).2 = { s with fresh := f }) ∧
    (∀ x ∈ [(Cmd.devInfo, 36), (.powerStatus, 16), (.wheelStatus w, 232), (.chainStatus n, 32), (.meterStatus m, 88), (.pqStatus k, 24), (.calStatus t, 120), (.calRead r, 224),
      (.tariffStatus, 20), (.ledgerStatus m, 48), (.polderStatus n, 256), (.polderGetKey, 152), (.plcStatus, 24), (.timeStatus, 20), (.storeRead g, g.len), (.tandemStatus, 32),
      (.imageStatus, 32), (.pqTrigger k, 12)], (applyNow p x.1 s).1.length = x.2) ∧
    (applyNow p (.devEcho d) s).1 = d) ∧
  (∀ (p : Nat) (r : ChainLoadBank) (k : Bank) (s : State) (w : Nat), parseBank r.set = some k → w < 16 → let u := (applyNow p (.chainLoadBank r) s).2
    (u.wheel w).activeB = (s.wheel w).activeB ∧ (u.wheel w).bank = (s.wheel w).bank ∧ (u.wheel w).otherBank = (if r.wheels.getLsbD w then k else (s.wheel w).otherBank)) ∧
  (∀ (p : Nat) (m : BitVec 128) (s : State) (c : Nat), c < 128 → let u := (applyNow p (.chainClearTrip m) s).2
    (u.channel c).tripState = (if m.getLsbD c && (s.channel c).tripState.latched then TripState.reset else (s.channel c).tripState) ∧ (u.channel c).trip = (s.channel c).trip) ∧
  (∀ (p k : Nat) (r : PqSetCapture) (s : State), (r.nseg = 0 → ((applyNow p (.pqSetCapture r) s).2.pq.captures.find r.capture) = none) ∧
    (r.nseg ≠ 0 → s.captureNumber r.capture = some k → ∃ c, (applyNow p (.pqSetCapture r) s).2.pq.captures.find k = some c ∧ c.owner = p ∧ c.cfg = { r with capture := k } ∧
      c.enabled = false ∧ c.segs = []) ∧ (applyNow p (.pqSetCapture r) s).1.length = 68) ∧
  (∀ (p k a : Nat) (c : Capture) (s : State), s.pq.captures.find k = some c → ∃ y, (applyNow p (.pqArm k a) s).2.pq.captures.find k = some y ∧ y.cfg = c.cfg ∧
    y.enabled = decide (a = 1) ∧ (a ≠ 1 → y.inState .armed = []) ∧ (∀ i, (c.seg i).state = .frozen → y.seg i = c.seg i)) ∧
  (∀ (p : Nat) (r : PqRelease) (c : Capture) (s : State), s.pq.captures.find r.capture = some c → ∃ y, (applyNow p (.pqRelease r) s).2.pq.captures.find r.capture = some y ∧
    (∀ i, i < c.cfg.nseg → (c.seg i).state = .frozen → if r.segs.getLsbD i then (y.seg i).state = .free ∨ (y.seg i).state = .armed else y.seg i = c.seg i)) ∧
  (∀ (p k : Nat) (r : PqStreamOpen) (s : State), firstFrom (fun k => (s.pq.streams.find k).isNone) 16 0 = some k → let u := (applyNow p (.pqStreamOpen r) s).2
    ∃ y, u.pq.streams.find k = some y ∧ y.owner = p ∧ y.cfg = r ∧ y.prod = 0 ∧ y.cons = 0 ∧ y.dropped = 0 ∧ (∀ n, n ≠ k → u.pq.streams.find n = s.pq.streams.find n)) ∧
  (∀ (p k : Nat) (s : State), (applyNow p (.pqStreamClose k) s).2.pq.streams.find k = none ∧ (∀ n, n ≠ k →
    (applyNow p (.pqStreamClose k) s).2.pq.streams.find n = s.pq.streams.find n) ∧ (applyNow p (.pqStreamClose k) s).1.length = 8) ∧
  (∀ (p : Nat) (t : CalTarget) (s : State), let u := (applyNow p (.calDiscard t) s).2
    u.cand t.channel t.gear = none ∧ (∀ g, g ≠ t.gear → u.cand t.channel g = s.cand t.channel g) ∧ (∀ d, d ≠ t.channel → u.channel d = s.channel d)) ∧
  (∀ (p : Nat) (b : List Byte) (c : Calendar) (s : State), parseCalendar b = some c → let u := (applyNow p (.tariffStageCalendar b) s).2
    (u.tariff p).passive = c ∧ (u.tariff p).active = (s.tariff p).active ∧ (u.tariff p).pendingT = none ∧ (∀ q, q ≠ p → u.tariff q = s.tariff q)) ∧
  (∀ (p : Nat) (t : BitVec 64) (s : State), let u := (applyNow p (.tariffActivateAt t) s).2
    u.tariff p = { s.tariff p with pendingT := if t = 0 then none else some t.toNat } ∧ (∀ q, q ≠ p → u.tariff q = s.tariff q)) ∧
  (∀ (p : Nat) (r : PolderRekey) (k : BitVec 256 × BitVec 256) (s : State), rekeyKeys p r = some k → let u := (applyNow p (.polderRekey r) s).2
    (u.polder p).authKey = k.1 ∧ (u.polder p).sessKey = k.2 ∧ (u.polder p).keyGen = (s.polder p).keyGen + 1 ∧ (u.polder p).rekeyed = true ∧
    (u.polder p).journal = (if r.options.getLsbD 3 then [] else (s.polder p).journal) ∧ (u.polder p).sluices = (s.polder p).sluices ∧
    (r.options.getLsbD 0 = true → (u.polder p).keyId = (s.polder p).keyId + 1) ∧ (∀ q, q ≠ p → (u.polder q).authKey = (s.polder q).authKey)) ∧
  (∀ (p n : Nat) (s : State), let u := (applyNow p (.eventRead n) s).2
    (u.polder p).queue = (s.polder p).queue.drop n ∧ (u.polder p).dropped = 0 ∧ (∀ q, q ≠ p → u.polder q = s.polder q) ∧ u.evt = s.evt) ∧
  (∀ (p : Nat) (r : EventMask) (s : State) (e : Nat), e < 1024 → let u := (applyNow p (.eventMask r) s).2
    u.evt.disabled.getLsbD e = (if e / 32 = r.group ∧ r.select.getLsbD (e % 32) = true then !r.enable.getLsbD (e % 32) else s.evt.disabled.getLsbD e) ∧
    u.evt.pending = s.evt.pending) ∧
  (∀ (p : Nat) (r : EventRoute) (s : State), let u := (applyNow p (.eventRoute r) s).2
    Tab.get u.evt.route 0 r.line = r.polders ∧ (∀ l, l ≠ r.line → Tab.get u.evt.route 0 l = Tab.get s.evt.route 0 l)) ∧
  (∀ (p : Nat) (r : PlcSetLink) (s : State), let u := (applyNow p (.plcSetLink r) s).2
    u.plc.link = r ∧ u.plc.net = s.plc.net ∧ (r.enable = 0 → u.plc.state = 0 ∧ u.plc.cur = none ∧ u.plc.txq = [])) ∧
  (∀ (p : Nat) (r : PlcSetNetwork) (s : State), let u := (applyNow p (.plcSetNetwork r) s).2
    u.plc.net = some { name := r.netName, node := r.node, coordinator := decide (r.role = 1), key := r.netKey } ∧ u.plc.neigh = [] ∧ u.plc.routes = [] ∧ u.plc.txq = [] ∧
    (∀ q, (u.polder q).rxq = []) ∧ ((∀ o, s.plc.net = some o → o.key ≠ r.netKey) → u.plc.pn = 0) ∧ (∀ o, s.plc.net = some o → o.key = r.netKey → u.plc.pn = s.plc.pn)) ∧
  (∀ (p : Nat) (r : PlcSetSpectrum) (s : State), let u := (applyNow p (.plcSetSpectrum r) s).2
    u.plc.notches = r.notches.take r.nnotch ∧ u.plc.psd = r.psd ∧ (∀ e ∈ u.plc.neigh, e.2.mapOut = none) ∧ u.plc.routes = s.plc.routes) ∧
  (∀ (p : Nat) (f : PlcFrame) (rest : List PlcFrame) (s : State), ((s.polder p).rxq = [] → applyNow p .plcRecv s = (zeros 16, s)) ∧
    ((s.polder p).rxq = f :: rest → (applyNow p .plcRecv s).1.length = 16 + f.data.length ∧ ((applyNow p .plcRecv s).2.polder p).rxq = rest ∧
      (∀ q, q ≠ p → (applyNow p .plcRecv s).2.polder q = s.polder q))) ∧
  (∀ (p : Nat) (r : TimeSetAlarm) (s : State), let u := (applyNow p (.timeSetAlarm r) s).2
    u.time.alarmOn = decide (r.enable ≠ 0) ∧ u.time.alarmSeconds = r.seconds.setWidth 40 ∧ u.time.alarmMask = r.mask.setWidth 40 ∧ u.time.cad = s.time.cad ∧ u.pwr = s.pwr) ∧
  (∀ (p : Nat) (r : TimeSetPeriodic) (s : State), let u := (applyNow p (.timeSetPeriodic r) s).2
    u.time = { s.time with periodicK := r.k, periodicOn := decide (r.enable ≠ 0) }) ∧
  (∀ (p : Nat) (r : StoreProgram) (s : State) (g : Nat), let u := (applyNow p (.storeProgram r) s).2
    let a := (p * 16384 + r.addr) / 16
    u.flash.store.find g = (if a ≤ g ∧ g < a + r.len / 16 then some (slice r.data (16 * (g - a)) 16) else s.flash.store.find g) ∧ u.flash.wear = s.flash.wear) ∧
  (∀ (p : Nat) (r : StoreErase) (s : State) (g : Nat), let u := (applyNow p (.storeErase r) s).2
    let a := 4 * p + r.addr / 4096
    u.flash.store.find g = (if a ≤ g / 256 ∧ g / 256 < a + r.count then none else s.flash.store.find g) ∧
    u.flash.wear.get 0 (1984 + g) = s.flash.wear.get 0 (1984 + g) + (if a ≤ g ∧ g < a + r.count then 1 else 0) ∧
    (g < 1984 → u.flash.wear.get 0 g = s.flash.wear.get 0 g)) ∧
  (∀ (p : Nat) (r : GuardUnlock) (s : State), let x := applyNow p (.guardUnlock r) s
    (r.step = 0 → x.1.length = 20 ∧ x.2.guard.challengeNo = s.guard.challengeNo + 1 ∧ (∃ c, x.2.guard.challenge = some c ∧ c.id = s.guard.challengeNo + 1 ∧ c.issued = s.now) ∧
      x.2.guard.closed = s.guard.closed) ∧
    (r.step ≠ 0 → x.1 = [] ∧ x.2.guard.challenge = none ∧ x.2.guard.closed = false ∧ (s.guard.closed = true → s.evt.disabled.getLsbD 681 = false → x.2.evt.pending.getLsbD 681 = true))) ∧
  (∀ (p : Nat) (k : List Byte) (s : State), let u := (applyNow p (.guardSetKey k) s).2
    u.guard.key = some k ∧ u.guard.resp = s.guard.resp ∧ u.guard.closed = s.guard.closed) ∧
  (∀ (p : Nat) (r : ImageStage) (s : State) (g : Nat), let u := (applyNow p (.imageStage r) s).2
    let old (c : ImageCopy) : Option (List Byte) := if r.offset / 16 ≤ g ∧ g < r.offset / 16 + r.data.length / 16 then some (slice r.data (16 * (g - r.offset / 16)) 16)
      else if r.offset = 0 then none else c.granules.find g
    u.flash.dry = s.flash.dry ∧ u.flash.wet s.pwr.wetActive = s.flash.wet s.pwr.wetActive ∧
    (r.kind = 1 → u.flash.dryStaged.granules.find g = old s.flash.dryStaged) ∧
    (r.kind ≠ 1 → (u.flash.wet s.idleWet).granules.find g = old (s.flash.wet s.idleWet))) ∧
  (∀ (p : Nat) (s : State), let u := (applyNow p .imageConfirm s).2
    u.flash = { s.flash with trial := none } ∧ u.pwr = s.pwr) ∧
  (∀ (i : Instr) (x : Submit) (r : PlcSend) (s : State), i.entry = some (x, .plcSend r) → let t := s.advance x.t
    let h := ticketOf x (.plcSend r) t
    accepted x (.plcSend r) t = true → ∃ u f, exec i s = .next u ∧ u.plc.txq.get [] h.polder = s.plc.txq.get [] h.polder ++ [f] ∧ f.order = some h.order ∧ f.final = r.dest ∧
      f.destPolder = r.destPolder ∧ f.srcPolder = h.polder ∧ f.cls = r.priority ∧ f.mode = r.mode ∧ f.body = r.data ∧ h ∈ u.out.held ∧ u.mem = s.mem) ∧
  (∀ (i : Instr) (x : Submit) (r : LedgerReadSigned) (s : State), i.entry = some (x, .ledgerReadSigned r) → let t := s.advance x.t
    let h := ticketOf x (.ledgerReadSigned r) t
    accepted x (.ledgerReadSigned r) t = true → ∃ u, exec i s = .next u ∧ u.sign.queue = s.sign.queue ++ [{ held := h, req := r }] ∧ h ∈ u.out.held ∧ u.led = s.led ∧ u.mem = s.mem) ∧
  (∀ (i : Instr) (x : Submit) (c : Cmd) (s : State), i.entry = some (x, c) → c.staged = false → (∀ r, c ≠ .ledgerReadSigned r) → let t := s.advance x.t
    let h := ticketOf x c t
    accepted x c t = true → unmirrored c t = false → ∃ u f, exec i s = .next u ∧ u.tdm.unacked = s.tdm.unacked ++ [f] ∧ f.order = h.order ∧ f.prepare = false ∧
      u.tdm.waiting = s.tdm.waiting ++ [(h, c, 0)] ∧ u.led = s.led ∧ u.tar = s.tar ∧ u.mem = s.mem)
end

