-- ==== Sys2Proof/Laws/Entries.lean ====
section
/-! SUPPORT. Mailbox rows and the course of a taken entry: each row runs its command through the one shared course, and what taking an
entry comes to. -/
namespace Sys2Proof.Machine

/-- Every mailbox row is its command, run through the shared course. -/
theorem exec_of_entry {i : Instr} {x : Submit} {c : Cmd} (h : i.entry = some (x, c)) (s : State) :
    exec i s = .next (runMailbox x c s) := by
  cases i <;> simp only [Instr.entry, Option.some.injEq, Prod.mk.injEq, reduceCtorEq] at h <;> obtain ⟨rfl, rfl⟩ := h <;> rfl

section
variable (x : Submit) (c : Cmd) (s : State)

@[simp] theorem entryOf_sluice : (entryOf x c s).sluice = x.sluice := by unfold entryOf; dsimp only; split <;> rfl
@[simp] theorem entryOf_port : (entryOf x c s).port = x.port := by unfold entryOf; dsimp only; split <;> rfl
@[simp] theorem entryOf_nonce : (entryOf x c s).nonce = x.nonce := by unfold entryOf; dsimp only; split <;> rfl
@[simp] theorem entryOf_tag : (entryOf x c s).tag = x.tag := by unfold entryOf; dsimp only; split <;> rfl
@[simp] theorem entryOf_roff : (entryOf x c s).roff = x.roff := by unfold entryOf; dsimp only; split <;> rfl
@[simp] theorem entryOf_rmax : (entryOf x c s).rmax = x.rmax := by unfold entryOf; dsimp only; split <;> rfl
@[simp] theorem entryOf_cmd : (entryOf x c s).cmd = some c := by unfold entryOf; dsimp only; split <;> rfl
@[simp] theorem entryOf_lengthOk : (entryOf x c s).lengthOk = c.sizeOk := by unfold entryOf; dsimp only; split <;> rfl
@[simp] theorem entryOf_fieldsOk : (entryOf x c s).fieldsOk = (x.roff % 8 == 0) := by unfold entryOf; dsimp only; split <;> rfl
@[simp] theorem entryOf_opcode_clear (h : x.sealing = .clear) : (entryOf x c s).opcode = c.opcode := by unfold entryOf; simp only [h]

/-- A doorbell that is not observed leaves time alone to go on. -/
theorem runMailbox_unobserved (h : (s.advance x.t).observes x.port x.sluice = false) : runMailbox x c s = s.advance x.t := by
  unfold runMailbox; dsimp only; rw [if_neg (by simp [h])]

/-- A doorbell that is observed takes its entry. -/
theorem runMailbox_observed (h : (s.advance x.t).observes x.port x.sluice = true) :
    runMailbox x c s = takeEntry 0 (entryOf x c (s.advance x.t)) (s.advance x.t) := by
  unfold runMailbox; dsimp only; rw [if_pos h]

/-- An entry for which a ticket is free and a refusal reason holds. -/
theorem takeEntry_refused (r : Nat) (ha : (s.allocate x.sluice).isSome = true)
    (hr : refusalOf (ticketOf x c s).polder (entryOf x c s) (ticketed x c s) = some r) :
    takeEntry 0 (entryOf x c s) s =
      (let u := (ticketed x c s).auditRefusal (ticketOf x c s) r (entryOf x c s).opcode
       { u with out := { u.out with refusals := u.out.refusals ++ [{ held := ticketOf x c s, due := u.now + refusalClocks }] } }) := by
  obtain ⟨k, hk⟩ := Option.isSome_iff_exists.mp ha
  unfold takeEntry
  simp only [entryOf_sluice, entryOf_port, entryOf_nonce, entryOf_tag, entryOf_roff, entryOf_rmax, hk, Option.isNone_some, Bool.false_eq_true, if_false]
  simp only [ticketOf, ticketed, hk] at hr ⊢
  rw [hr]

/-- An entry for which a ticket is free and no refusal reason holds goes on to the checks of acceptance. -/
theorem takeEntry_unrefused (ha : (s.allocate x.sluice).isSome = true)
    (hr : refusalOf (ticketOf x c s).polder (entryOf x c s) (ticketed x c s) = none) :
    takeEntry 0 (entryOf x c s) s = accept (ticketOf x c s) 0 (entryOf x c s) (ticketed x c s) := by
  obtain ⟨k, hk⟩ := Option.isSome_iff_exists.mp ha
  unfold takeEntry
  simp only [entryOf_sluice, entryOf_port, entryOf_nonce, entryOf_tag, entryOf_roff, entryOf_rmax, hk, Option.isNone_some, Bool.false_eq_true, if_false]
  simp only [ticketOf, ticketed, hk] at hr ⊢
  rw [hr]

end

/-- An accepted entry passes every check: it is staged, mirrored, or run. -/
theorem accept_accepted (x : Submit) (c : Cmd) (t : State) (h : accepted x c t = true) :
    accept (ticketOf x c t) 0 (entryOf x c t) (ticketed x c t) = stageOrRun (ticketOf x c t) 0 c (ticketed x c t) := by
  unfold accepted wellSubmitted unrefused othersOf at h
  simp only [Bool.and_eq_true, Bool.or_eq_true, Bool.not_eq_true', decide_eq_true_eq, beq_iff_eq] at h
  obtain ⟨⟨⟨⟨_, hw⟩, hj⟩, hf⟩, hs⟩ := h
  obtain ⟨⟨⟨⟨⟨⟨h1, h2⟩, h3⟩, h4⟩, h5⟩, h6⟩, h7⟩ := hw
  have ea : (Option.any Cmd.authority (some c) && !(ticketed x c t).acceptsAuthority) = false := by
    rcases h1 with h1 | h1 <;> simp [h1]
  have eb : (!c.sizeOk || decide (0x8000 < (ticketOf x c t).roff + (ticketOf x c t).rmax) || !resultFits (ticketOf x c t) c) = false := by
    have : ¬ (0x8000 < (ticketOf x c t).roff + (ticketOf x c t).rmax) := by show ¬ (0x8000 < x.roff + x.rmax); omega
    simp [h4, h6, this]
  have ec : (x.roff % 8 == 0) = true := by simp [h7]
  have hs' : (sealGated c (ticketed x c t) && !(ticketed x c t).seals.open_) = false := by rcases hs with h | h <;> simp [h]
  unfold accept
  simp only [entryOf_cmd, entryOf_lengthOk, entryOf_fieldsOk]
  rw [if_neg (by rw [ea]; simp), if_neg (by rw [h2]; simp), if_neg (by rw [h3]; simp), if_neg (by rw [eb]; simp), if_neg (by rw [ec]; simp), hj]
  simp only [hf, hs', Bool.false_eq_true, if_false]

/-- What acceptance has of the doorbell, the ticket and the refusal reasons. -/
theorem accepted_unrefused {x : Submit} {c : Cmd} {t : State} (h : accepted x c t = true) : t.observes x.port x.sluice = true ∧ (t.allocate x.sluice).isSome = true ∧
   refusalOf (ticketOf x c t).polder (entryOf x c t) (ticketed x c t) = none := by
  unfold accepted unrefused at h
  simp only [Bool.and_eq_true, Option.isNone_iff_eq_none] at h
  exact ⟨h.1.1.1.1.1.1, h.1.1.1.1.1.2, h.1.1.1.1.2⟩

/-- A mailbox row whose entry is accepted. -/
theorem exec_accepted {i : Instr} {x : Submit} {c : Cmd} (s : State) (hi : i.entry = some (x, c)) (h : accepted x c (s.advance x.t) = true) :
    exec i s = .next (stageOrRun (ticketOf x c (s.advance x.t)) 0 c (ticketed x c (s.advance x.t))) := by
  obtain ⟨a, b, d⟩ := accepted_unrefused h
  rw [exec_of_entry hi, runMailbox_observed _ _ _ a, takeEntry_unrefused _ _ _ b d, accept_accepted _ _ _ h]

end Sys2Proof.Machine
end

