-- ==== Sys2Proof/Laws/Tables.lean ====
section
/-! SUPPORT. Index tables: what an entry reads as after another has been put or erased. -/
namespace Sys2Proof

/-- The entry put is found. -/
@[simp] theorem Tab.find_put_same {α : Type} (t : Tab α) (i : Nat) (x : α) : Tab.find (Tab.put t i x) i = some x := by
  induction t with
  | nil => simp [Tab.put, Tab.find]
  | cons e t ih =>
    obtain ⟨j, y⟩ := e
    unfold Tab.put
    by_cases h : j = i
    · simp [h, Tab.find]
    · by_cases h2 : i < j
      · simp [h, h2, Tab.find]
      · simp only [h, h2, if_false, Tab.find]; exact ih

/-- Every other number is found as before. -/
theorem Tab.find_put_other {α : Type} (t : Tab α) {i k : Nat} (x : α) (h : k ≠ i) : Tab.find (Tab.put t i x) k = Tab.find t k := by
  have hi : ¬ i = k := fun e => h e.symm
  induction t with
  | nil => simp [Tab.put, Tab.find, hi]
  | cons e t ih =>
    obtain ⟨j, y⟩ := e
    unfold Tab.put
    by_cases h1 : j = i
    · subst h1; simp [Tab.find, hi]
    · by_cases h2 : i < j
      · simp [h1, h2, Tab.find, hi]
      · simp only [h1, h2, if_false, Tab.find]
        by_cases h3 : j = k
        · simp [h3]
        · simp only [h3, if_false]; exact ih

@[simp] theorem Tab.get_put_same {α : Type} (t : Tab α) (d : α) (i : Nat) (x : α) : Tab.get (Tab.put t i x) d i = x := by
  simp [Tab.get]

theorem Tab.get_put_other {α : Type} (t : Tab α) (d : α) {i k : Nat} (x : α) (h : k ≠ i) : Tab.get (Tab.put t i x) d k = Tab.get t d k := by
  simp [Tab.get, Tab.find_put_other t x h]

/-- Entries mapped one by one are found mapped. -/
theorem Tab.find_map {α β : Type} (t : Tab α) (f : Nat → α → β) (k : Nat) :
    Tab.find (t.map fun e => (e.1, f e.1 e.2)) k = (Tab.find t k).map (f k) := by
  induction t with
  | nil => rfl
  | cons e t ih =>
    obtain ⟨j, y⟩ := e
    simp only [List.map_cons, Tab.find]
    by_cases h : j = k
    · subst h; simp
    · simp only [h, if_false]; exact ih

/-- An erased number is found no more. -/
theorem Tab.find_erase_same {α : Type} (t : Tab α) (i : Nat) : Tab.find (Tab.erase t i) i = none := by
  induction t with
  | nil => rfl
  | cons e t ih =>
    obtain ⟨j, y⟩ := e
    unfold Tab.erase at ih ⊢
    rw [List.filter_cons]
    by_cases h : j = i
    · simp [h, ih]
    · simp [h, Tab.find, ih]

theorem Tab.find_erase_other {α : Type} (t : Tab α) {i k : Nat} (h : k ≠ i) : Tab.find (Tab.erase t i) k = Tab.find t k := by
  induction t with
  | nil => rfl
  | cons e t ih =>
    obtain ⟨j, y⟩ := e
    unfold Tab.erase at ih ⊢
    rw [List.filter_cons]
    by_cases h1 : j = i
    · have : ¬ j = k := fun e => h (e.symm.trans h1)
      simp [h1, Tab.find, ih]
      intro e; exact absurd e.symm h
    · simp only [bne_iff_ne, ne_eq, h1, not_false_eq_true, if_true, Tab.find, ih]

end Sys2Proof
end

