-- ==== Sys2Proof/Laws/State.lean ====
section
/-! SUPPORT. Each field of the state after each named update: the field that the update writes, every other as it was. -/
namespace Sys2Proof.Machine

section
variable (s : State)

/-! ### State.modWheel -/

@[simp] theorem State.modWheel_time (w : Nat) (f : Wheel → Wheel) : (s.modWheel w f).time = s.time := rfl
@[simp] theorem State.modWheel_pwr (w : Nat) (f : Wheel → Wheel) : (s.modWheel w f).pwr = s.pwr := rfl
@[simp] theorem State.modWheel_fab (w : Nat) (f : Wheel → Wheel) : (s.modWheel w f).fab = s.fab := rfl
@[simp] theorem State.modWheel_whl (w : Nat) (f : Wheel → Wheel) : (s.modWheel w f).whl = s.whl.put w (f (s.wheel w)) := rfl
@[simp] theorem State.modWheel_relief (w : Nat) (f : Wheel → Wheel) : (s.modWheel w f).relief = s.relief := rfl
@[simp] theorem State.modWheel_chan (w : Nat) (f : Wheel → Wheel) : (s.modWheel w f).chan = s.chan := rfl
@[simp] theorem State.modWheel_refs (w : Nat) (f : Wheel → Wheel) : (s.modWheel w f).refs = s.refs := rfl
@[simp] theorem State.modWheel_seals (w : Nat) (f : Wheel → Wheel) : (s.modWheel w f).seals = s.seals := rfl
@[simp] theorem State.modWheel_mtr (w : Nat) (f : Wheel → Wheel) : (s.modWheel w f).mtr = s.mtr := rfl
@[simp] theorem State.modWheel_cf (w : Nat) (f : Wheel → Wheel) : (s.modWheel w f).cf = s.cf := rfl
@[simp] theorem State.modWheel_led (w : Nat) (f : Wheel → Wheel) : (s.modWheel w f).led = s.led := rfl
@[simp] theorem State.modWheel_book (w : Nat) (f : Wheel → Wheel) : (s.modWheel w f).book = s.book := rfl
@[simp] theorem State.modWheel_tar (w : Nat) (f : Wheel → Wheel) : (s.modWheel w f).tar = s.tar := rfl
@[simp] theorem State.modWheel_sign (w : Nat) (f : Wheel → Wheel) : (s.modWheel w f).sign = s.sign := rfl
@[simp] theorem State.modWheel_pol (w : Nat) (f : Wheel → Wheel) : (s.modWheel w f).pol = s.pol := rfl
@[simp] theorem State.modWheel_slu (w : Nat) (f : Wheel → Wheel) : (s.modWheel w f).slu = s.slu := rfl
@[simp] theorem State.modWheel_out (w : Nat) (f : Wheel → Wheel) : (s.modWheel w f).out = s.out := rfl
@[simp] theorem State.modWheel_hp (w : Nat) (f : Wheel → Wheel) : (s.modWheel w f).hp = s.hp := rfl
@[simp] theorem State.modWheel_evt (w : Nat) (f : Wheel → Wheel) : (s.modWheel w f).evt = s.evt := rfl
@[simp] theorem State.modWheel_par (w : Nat) (f : Wheel → Wheel) : (s.modWheel w f).par = s.par := rfl
@[simp] theorem State.modWheel_bc (w : Nat) (f : Wheel → Wheel) : (s.modWheel w f).bc = s.bc := rfl
@[simp] theorem State.modWheel_pq (w : Nat) (f : Wheel → Wheel) : (s.modWheel w f).pq = s.pq := rfl
@[simp] theorem State.modWheel_plc (w : Nat) (f : Wheel → Wheel) : (s.modWheel w f).plc = s.plc := rfl
@[simp] theorem State.modWheel_tdm (w : Nat) (f : Wheel → Wheel) : (s.modWheel w f).tdm = s.tdm := rfl
@[simp] theorem State.modWheel_flash (w : Nat) (f : Wheel → Wheel) : (s.modWheel w f).flash = s.flash := rfl
@[simp] theorem State.modWheel_dbl (w : Nat) (f : Wheel → Wheel) : (s.modWheel w f).dbl = s.dbl := rfl
@[simp] theorem State.modWheel_log (w : Nat) (f : Wheel → Wheel) : (s.modWheel w f).log = s.log := rfl
@[simp] theorem State.modWheel_guard (w : Nat) (f : Wheel → Wheel) : (s.modWheel w f).guard = s.guard := rfl
@[simp] theorem State.modWheel_tmp (w : Nat) (f : Wheel → Wheel) : (s.modWheel w f).tmp = s.tmp := rfl
@[simp] theorem State.modWheel_mem (w : Nat) (f : Wheel → Wheel) : (s.modWheel w f).mem = s.mem := rfl
@[simp] theorem State.modWheel_closing (w : Nat) (f : Wheel → Wheel) : (s.modWheel w f).closing = s.closing := rfl
@[simp] theorem State.modWheel_older (w : Nat) (f : Wheel → Wheel) : (s.modWheel w f).older = s.older := rfl
@[simp] theorem State.modWheel_cut (w : Nat) (f : Wheel → Wheel) : (s.modWheel w f).cut = s.cut := rfl
@[simp] theorem State.modWheel_tripKick (w : Nat) (f : Wheel → Wheel) : (s.modWheel w f).tripKick = s.tripKick := rfl
@[simp] theorem State.modWheel_irqKick (w : Nat) (f : Wheel → Wheel) : (s.modWheel w f).irqKick = s.irqKick := rfl
@[simp] theorem State.modWheel_fresh (w : Nat) (f : Wheel → Wheel) : (s.modWheel w f).fresh = s.fresh := rfl
@[simp] theorem State.modWheel_pending (w : Nat) (f : Wheel → Wheel) : (s.modWheel w f).pending = s.pending := rfl

/-! ### State.modChannel -/

@[simp] theorem State.modChannel_time (c : Nat) (f : Chan → Chan) : (s.modChannel c f).time = s.time := rfl
@[simp] theorem State.modChannel_pwr (c : Nat) (f : Chan → Chan) : (s.modChannel c f).pwr = s.pwr := rfl
@[simp] theorem State.modChannel_fab (c : Nat) (f : Chan → Chan) : (s.modChannel c f).fab = s.fab := rfl
@[simp] theorem State.modChannel_whl (c : Nat) (f : Chan → Chan) : (s.modChannel c f).whl = s.whl := rfl
@[simp] theorem State.modChannel_relief (c : Nat) (f : Chan → Chan) : (s.modChannel c f).relief = s.relief := rfl
@[simp] theorem State.modChannel_chan (c : Nat) (f : Chan → Chan) : (s.modChannel c f).chan = s.chan.put c (f (s.channel c)) := rfl
@[simp] theorem State.modChannel_refs (c : Nat) (f : Chan → Chan) : (s.modChannel c f).refs = s.refs := rfl
@[simp] theorem State.modChannel_seals (c : Nat) (f : Chan → Chan) : (s.modChannel c f).seals = s.seals := rfl
@[simp] theorem State.modChannel_mtr (c : Nat) (f : Chan → Chan) : (s.modChannel c f).mtr = s.mtr := rfl
@[simp] theorem State.modChannel_cf (c : Nat) (f : Chan → Chan) : (s.modChannel c f).cf = s.cf := rfl
@[simp] theorem State.modChannel_led (c : Nat) (f : Chan → Chan) : (s.modChannel c f).led = s.led := rfl
@[simp] theorem State.modChannel_book (c : Nat) (f : Chan → Chan) : (s.modChannel c f).book = s.book := rfl
@[simp] theorem State.modChannel_tar (c : Nat) (f : Chan → Chan) : (s.modChannel c f).tar = s.tar := rfl
@[simp] theorem State.modChannel_sign (c : Nat) (f : Chan → Chan) : (s.modChannel c f).sign = s.sign := rfl
@[simp] theorem State.modChannel_pol (c : Nat) (f : Chan → Chan) : (s.modChannel c f).pol = s.pol := rfl
@[simp] theorem State.modChannel_slu (c : Nat) (f : Chan → Chan) : (s.modChannel c f).slu = s.slu := rfl
@[simp] theorem State.modChannel_out (c : Nat) (f : Chan → Chan) : (s.modChannel c f).out = s.out := rfl
@[simp] theorem State.modChannel_hp (c : Nat) (f : Chan → Chan) : (s.modChannel c f).hp = s.hp := rfl
@[simp] theorem State.modChannel_evt (c : Nat) (f : Chan → Chan) : (s.modChannel c f).evt = s.evt := rfl
@[simp] theorem State.modChannel_par (c : Nat) (f : Chan → Chan) : (s.modChannel c f).par = s.par := rfl
@[simp] theorem State.modChannel_bc (c : Nat) (f : Chan → Chan) : (s.modChannel c f).bc = s.bc := rfl
@[simp] theorem State.modChannel_pq (c : Nat) (f : Chan → Chan) : (s.modChannel c f).pq = s.pq := rfl
@[simp] theorem State.modChannel_plc (c : Nat) (f : Chan → Chan) : (s.modChannel c f).plc = s.plc := rfl
@[simp] theorem State.modChannel_tdm (c : Nat) (f : Chan → Chan) : (s.modChannel c f).tdm = s.tdm := rfl
@[simp] theorem State.modChannel_flash (c : Nat) (f : Chan → Chan) : (s.modChannel c f).flash = s.flash := rfl
@[simp] theorem State.modChannel_dbl (c : Nat) (f : Chan → Chan) : (s.modChannel c f).dbl = s.dbl := rfl
@[simp] theorem State.modChannel_log (c : Nat) (f : Chan → Chan) : (s.modChannel c f).log = s.log := rfl
@[simp] theorem State.modChannel_guard (c : Nat) (f : Chan → Chan) : (s.modChannel c f).guard = s.guard := rfl
@[simp] theorem State.modChannel_tmp (c : Nat) (f : Chan → Chan) : (s.modChannel c f).tmp = s.tmp := rfl
@[simp] theorem State.modChannel_mem (c : Nat) (f : Chan → Chan) : (s.modChannel c f).mem = s.mem := rfl
@[simp] theorem State.modChannel_closing (c : Nat) (f : Chan → Chan) : (s.modChannel c f).closing = s.closing := rfl
@[simp] theorem State.modChannel_older (c : Nat) (f : Chan → Chan) : (s.modChannel c f).older = s.older := rfl
@[simp] theorem State.modChannel_cut (c : Nat) (f : Chan → Chan) : (s.modChannel c f).cut = s.cut := rfl
@[simp] theorem State.modChannel_tripKick (c : Nat) (f : Chan → Chan) : (s.modChannel c f).tripKick = s.tripKick := rfl
@[simp] theorem State.modChannel_irqKick (c : Nat) (f : Chan → Chan) : (s.modChannel c f).irqKick = s.irqKick := rfl
@[simp] theorem State.modChannel_fresh (c : Nat) (f : Chan → Chan) : (s.modChannel c f).fresh = s.fresh := rfl
@[simp] theorem State.modChannel_pending (c : Nat) (f : Chan → Chan) : (s.modChannel c f).pending = s.pending := rfl

/-! ### State.modMeter -/

@[simp] theorem State.modMeter_time (m : Nat) (f : Meter → Meter) : (s.modMeter m f).time = s.time := rfl
@[simp] theorem State.modMeter_pwr (m : Nat) (f : Meter → Meter) : (s.modMeter m f).pwr = s.pwr := rfl
@[simp] theorem State.modMeter_fab (m : Nat) (f : Meter → Meter) : (s.modMeter m f).fab = s.fab := rfl
@[simp] theorem State.modMeter_whl (m : Nat) (f : Meter → Meter) : (s.modMeter m f).whl = s.whl := rfl
@[simp] theorem State.modMeter_relief (m : Nat) (f : Meter → Meter) : (s.modMeter m f).relief = s.relief := rfl
@[simp] theorem State.modMeter_chan (m : Nat) (f : Meter → Meter) : (s.modMeter m f).chan = s.chan := rfl
@[simp] theorem State.modMeter_refs (m : Nat) (f : Meter → Meter) : (s.modMeter m f).refs = s.refs := rfl
@[simp] theorem State.modMeter_seals (m : Nat) (f : Meter → Meter) : (s.modMeter m f).seals = s.seals := rfl
@[simp] theorem State.modMeter_mtr (m : Nat) (f : Meter → Meter) : (s.modMeter m f).mtr = s.mtr.put m (f (s.meter m)) := rfl
@[simp] theorem State.modMeter_cf (m : Nat) (f : Meter → Meter) : (s.modMeter m f).cf = s.cf := rfl
@[simp] theorem State.modMeter_led (m : Nat) (f : Meter → Meter) : (s.modMeter m f).led = s.led := rfl
@[simp] theorem State.modMeter_book (m : Nat) (f : Meter → Meter) : (s.modMeter m f).book = s.book := rfl
@[simp] theorem State.modMeter_tar (m : Nat) (f : Meter → Meter) : (s.modMeter m f).tar = s.tar := rfl
@[simp] theorem State.modMeter_sign (m : Nat) (f : Meter → Meter) : (s.modMeter m f).sign = s.sign := rfl
@[simp] theorem State.modMeter_pol (m : Nat) (f : Meter → Meter) : (s.modMeter m f).pol = s.pol := rfl
@[simp] theorem State.modMeter_slu (m : Nat) (f : Meter → Meter) : (s.modMeter m f).slu = s.slu := rfl
@[simp] theorem State.modMeter_out (m : Nat) (f : Meter → Meter) : (s.modMeter m f).out = s.out := rfl
@[simp] theorem State.modMeter_hp (m : Nat) (f : Meter → Meter) : (s.modMeter m f).hp = s.hp := rfl
@[simp] theorem State.modMeter_evt (m : Nat) (f : Meter → Meter) : (s.modMeter m f).evt = s.evt := rfl
@[simp] theorem State.modMeter_par (m : Nat) (f : Meter → Meter) : (s.modMeter m f).par = s.par := rfl
@[simp] theorem State.modMeter_bc (m : Nat) (f : Meter → Meter) : (s.modMeter m f).bc = s.bc := rfl
@[simp] theorem State.modMeter_pq (m : Nat) (f : Meter → Meter) : (s.modMeter m f).pq = s.pq := rfl
@[simp] theorem State.modMeter_plc (m : Nat) (f : Meter → Meter) : (s.modMeter m f).plc = s.plc := rfl
@[simp] theorem State.modMeter_tdm (m : Nat) (f : Meter → Meter) : (s.modMeter m f).tdm = s.tdm := rfl
@[simp] theorem State.modMeter_flash (m : Nat) (f : Meter → Meter) : (s.modMeter m f).flash = s.flash := rfl
@[simp] theorem State.modMeter_dbl (m : Nat) (f : Meter → Meter) : (s.modMeter m f).dbl = s.dbl := rfl
@[simp] theorem State.modMeter_log (m : Nat) (f : Meter → Meter) : (s.modMeter m f).log = s.log := rfl
@[simp] theorem State.modMeter_guard (m : Nat) (f : Meter → Meter) : (s.modMeter m f).guard = s.guard := rfl
@[simp] theorem State.modMeter_tmp (m : Nat) (f : Meter → Meter) : (s.modMeter m f).tmp = s.tmp := rfl
@[simp] theorem State.modMeter_mem (m : Nat) (f : Meter → Meter) : (s.modMeter m f).mem = s.mem := rfl
@[simp] theorem State.modMeter_closing (m : Nat) (f : Meter → Meter) : (s.modMeter m f).closing = s.closing := rfl
@[simp] theorem State.modMeter_older (m : Nat) (f : Meter → Meter) : (s.modMeter m f).older = s.older := rfl
@[simp] theorem State.modMeter_cut (m : Nat) (f : Meter → Meter) : (s.modMeter m f).cut = s.cut := rfl
@[simp] theorem State.modMeter_tripKick (m : Nat) (f : Meter → Meter) : (s.modMeter m f).tripKick = s.tripKick := rfl
@[simp] theorem State.modMeter_irqKick (m : Nat) (f : Meter → Meter) : (s.modMeter m f).irqKick = s.irqKick := rfl
@[simp] theorem State.modMeter_fresh (m : Nat) (f : Meter → Meter) : (s.modMeter m f).fresh = s.fresh := rfl
@[simp] theorem State.modMeter_pending (m : Nat) (f : Meter → Meter) : (s.modMeter m f).pending = s.pending := rfl

/-! ### State.modCf -/

@[simp] theorem State.modCf_time (n : Nat) (f : Cf → Cf) : (s.modCf n f).time = s.time := rfl
@[simp] theorem State.modCf_pwr (n : Nat) (f : Cf → Cf) : (s.modCf n f).pwr = s.pwr := rfl
@[simp] theorem State.modCf_fab (n : Nat) (f : Cf → Cf) : (s.modCf n f).fab = s.fab := rfl
@[simp] theorem State.modCf_whl (n : Nat) (f : Cf → Cf) : (s.modCf n f).whl = s.whl := rfl
@[simp] theorem State.modCf_relief (n : Nat) (f : Cf → Cf) : (s.modCf n f).relief = s.relief := rfl
@[simp] theorem State.modCf_chan (n : Nat) (f : Cf → Cf) : (s.modCf n f).chan = s.chan := rfl
@[simp] theorem State.modCf_refs (n : Nat) (f : Cf → Cf) : (s.modCf n f).refs = s.refs := rfl
@[simp] theorem State.modCf_seals (n : Nat) (f : Cf → Cf) : (s.modCf n f).seals = s.seals := rfl
@[simp] theorem State.modCf_mtr (n : Nat) (f : Cf → Cf) : (s.modCf n f).mtr = s.mtr := rfl
@[simp] theorem State.modCf_cf (n : Nat) (f : Cf → Cf) : (s.modCf n f).cf = s.cf.put n (f (s.cfOut n)) := rfl
@[simp] theorem State.modCf_led (n : Nat) (f : Cf → Cf) : (s.modCf n f).led = s.led := rfl
@[simp] theorem State.modCf_book (n : Nat) (f : Cf → Cf) : (s.modCf n f).book = s.book := rfl
@[simp] theorem State.modCf_tar (n : Nat) (f : Cf → Cf) : (s.modCf n f).tar = s.tar := rfl
@[simp] theorem State.modCf_sign (n : Nat) (f : Cf → Cf) : (s.modCf n f).sign = s.sign := rfl
@[simp] theorem State.modCf_pol (n : Nat) (f : Cf → Cf) : (s.modCf n f).pol = s.pol := rfl
@[simp] theorem State.modCf_slu (n : Nat) (f : Cf → Cf) : (s.modCf n f).slu = s.slu := rfl
@[simp] theorem State.modCf_out (n : Nat) (f : Cf → Cf) : (s.modCf n f).out = s.out := rfl
@[simp] theorem State.modCf_hp (n : Nat) (f : Cf → Cf) : (s.modCf n f).hp = s.hp := rfl
@[simp] theorem State.modCf_evt (n : Nat) (f : Cf → Cf) : (s.modCf n f).evt = s.evt := rfl
@[simp] theorem State.modCf_par (n : Nat) (f : Cf → Cf) : (s.modCf n f).par = s.par := rfl
@[simp] theorem State.modCf_bc (n : Nat) (f : Cf → Cf) : (s.modCf n f).bc = s.bc := rfl
@[simp] theorem State.modCf_pq (n : Nat) (f : Cf → Cf) : (s.modCf n f).pq = s.pq := rfl
@[simp] theorem State.modCf_plc (n : Nat) (f : Cf → Cf) : (s.modCf n f).plc = s.plc := rfl
@[simp] theorem State.modCf_tdm (n : Nat) (f : Cf → Cf) : (s.modCf n f).tdm = s.tdm := rfl
@[simp] theorem State.modCf_flash (n : Nat) (f : Cf → Cf) : (s.modCf n f).flash = s.flash := rfl
@[simp] theorem State.modCf_dbl (n : Nat) (f : Cf → Cf) : (s.modCf n f).dbl = s.dbl := rfl
@[simp] theorem State.modCf_log (n : Nat) (f : Cf → Cf) : (s.modCf n f).log = s.log := rfl
@[simp] theorem State.modCf_guard (n : Nat) (f : Cf → Cf) : (s.modCf n f).guard = s.guard := rfl
@[simp] theorem State.modCf_tmp (n : Nat) (f : Cf → Cf) : (s.modCf n f).tmp = s.tmp := rfl
@[simp] theorem State.modCf_mem (n : Nat) (f : Cf → Cf) : (s.modCf n f).mem = s.mem := rfl
@[simp] theorem State.modCf_closing (n : Nat) (f : Cf → Cf) : (s.modCf n f).closing = s.closing := rfl
@[simp] theorem State.modCf_older (n : Nat) (f : Cf → Cf) : (s.modCf n f).older = s.older := rfl
@[simp] theorem State.modCf_cut (n : Nat) (f : Cf → Cf) : (s.modCf n f).cut = s.cut := rfl
@[simp] theorem State.modCf_tripKick (n : Nat) (f : Cf → Cf) : (s.modCf n f).tripKick = s.tripKick := rfl
@[simp] theorem State.modCf_irqKick (n : Nat) (f : Cf → Cf) : (s.modCf n f).irqKick = s.irqKick := rfl
@[simp] theorem State.modCf_fresh (n : Nat) (f : Cf → Cf) : (s.modCf n f).fresh = s.fresh := rfl
@[simp] theorem State.modCf_pending (n : Nat) (f : Cf → Cf) : (s.modCf n f).pending = s.pending := rfl

/-! ### State.modLedger -/

@[simp] theorem State.modLedger_time (m : Nat) (f : Ledger → Ledger) : (s.modLedger m f).time = s.time := rfl
@[simp] theorem State.modLedger_pwr (m : Nat) (f : Ledger → Ledger) : (s.modLedger m f).pwr = s.pwr := rfl
@[simp] theorem State.modLedger_fab (m : Nat) (f : Ledger → Ledger) : (s.modLedger m f).fab = s.fab := rfl
@[simp] theorem State.modLedger_whl (m : Nat) (f : Ledger → Ledger) : (s.modLedger m f).whl = s.whl := rfl
@[simp] theorem State.modLedger_relief (m : Nat) (f : Ledger → Ledger) : (s.modLedger m f).relief = s.relief := rfl
@[simp] theorem State.modLedger_chan (m : Nat) (f : Ledger → Ledger) : (s.modLedger m f).chan = s.chan := rfl
@[simp] theorem State.modLedger_refs (m : Nat) (f : Ledger → Ledger) : (s.modLedger m f).refs = s.refs := rfl
@[simp] theorem State.modLedger_seals (m : Nat) (f : Ledger → Ledger) : (s.modLedger m f).seals = s.seals := rfl
@[simp] theorem State.modLedger_mtr (m : Nat) (f : Ledger → Ledger) : (s.modLedger m f).mtr = s.mtr := rfl
@[simp] theorem State.modLedger_cf (m : Nat) (f : Ledger → Ledger) : (s.modLedger m f).cf = s.cf := rfl
@[simp] theorem State.modLedger_led (m : Nat) (f : Ledger → Ledger) : (s.modLedger m f).led = s.led.put m (f (s.ledger m)) := rfl
@[simp] theorem State.modLedger_book (m : Nat) (f : Ledger → Ledger) : (s.modLedger m f).book = s.book := rfl
@[simp] theorem State.modLedger_tar (m : Nat) (f : Ledger → Ledger) : (s.modLedger m f).tar = s.tar := rfl
@[simp] theorem State.modLedger_sign (m : Nat) (f : Ledger → Ledger) : (s.modLedger m f).sign = s.sign := rfl
@[simp] theorem State.modLedger_pol (m : Nat) (f : Ledger → Ledger) : (s.modLedger m f).pol = s.pol := rfl
@[simp] theorem State.modLedger_slu (m : Nat) (f : Ledger → Ledger) : (s.modLedger m f).slu = s.slu := rfl
@[simp] theorem State.modLedger_out (m : Nat) (f : Ledger → Ledger) : (s.modLedger m f).out = s.out := rfl
@[simp] theorem State.modLedger_hp (m : Nat) (f : Ledger → Ledger) : (s.modLedger m f).hp = s.hp := rfl
@[simp] theorem State.modLedger_evt (m : Nat) (f : Ledger → Ledger) : (s.modLedger m f).evt = s.evt := rfl
@[simp] theorem State.modLedger_par (m : Nat) (f : Ledger → Ledger) : (s.modLedger m f).par = s.par := rfl
@[simp] theorem State.modLedger_bc (m : Nat) (f : Ledger → Ledger) : (s.modLedger m f).bc = s.bc := rfl
@[simp] theorem State.modLedger_pq (m : Nat) (f : Ledger → Ledger) : (s.modLedger m f).pq = s.pq := rfl
@[simp] theorem State.modLedger_plc (m : Nat) (f : Ledger → Ledger) : (s.modLedger m f).plc = s.plc := rfl
@[simp] theorem State.modLedger_tdm (m : Nat) (f : Ledger → Ledger) : (s.modLedger m f).tdm = s.tdm := rfl
@[simp] theorem State.modLedger_flash (m : Nat) (f : Ledger → Ledger) : (s.modLedger m f).flash = s.flash := rfl
@[simp] theorem State.modLedger_dbl (m : Nat) (f : Ledger → Ledger) : (s.modLedger m f).dbl = s.dbl := rfl
@[simp] theorem State.modLedger_log (m : Nat) (f : Ledger → Ledger) : (s.modLedger m f).log = s.log := rfl
@[simp] theorem State.modLedger_guard (m : Nat) (f : Ledger → Ledger) : (s.modLedger m f).guard = s.guard := rfl
@[simp] theorem State.modLedger_tmp (m : Nat) (f : Ledger → Ledger) : (s.modLedger m f).tmp = s.tmp := rfl
@[simp] theorem State.modLedger_mem (m : Nat) (f : Ledger → Ledger) : (s.modLedger m f).mem = s.mem := rfl
@[simp] theorem State.modLedger_closing (m : Nat) (f : Ledger → Ledger) : (s.modLedger m f).closing = s.closing := rfl
@[simp] theorem State.modLedger_older (m : Nat) (f : Ledger → Ledger) : (s.modLedger m f).older = s.older := rfl
@[simp] theorem State.modLedger_cut (m : Nat) (f : Ledger → Ledger) : (s.modLedger m f).cut = s.cut := rfl
@[simp] theorem State.modLedger_tripKick (m : Nat) (f : Ledger → Ledger) : (s.modLedger m f).tripKick = s.tripKick := rfl
@[simp] theorem State.modLedger_irqKick (m : Nat) (f : Ledger → Ledger) : (s.modLedger m f).irqKick = s.irqKick := rfl
@[simp] theorem State.modLedger_fresh (m : Nat) (f : Ledger → Ledger) : (s.modLedger m f).fresh = s.fresh := rfl
@[simp] theorem State.modLedger_pending (m : Nat) (f : Ledger → Ledger) : (s.modLedger m f).pending = s.pending := rfl

/-! ### State.modTariff -/

@[simp] theorem State.modTariff_time (p : Nat) (f : Tariff → Tariff) : (s.modTariff p f).time = s.time := rfl
@[simp] theorem State.modTariff_pwr (p : Nat) (f : Tariff → Tariff) : (s.modTariff p f).pwr = s.pwr := rfl
@[simp] theorem State.modTariff_fab (p : Nat) (f : Tariff → Tariff) : (s.modTariff p f).fab = s.fab := rfl
@[simp] theorem State.modTariff_whl (p : Nat) (f : Tariff → Tariff) : (s.modTariff p f).whl = s.whl := rfl
@[simp] theorem State.modTariff_relief (p : Nat) (f : Tariff → Tariff) : (s.modTariff p f).relief = s.relief := rfl
@[simp] theorem State.modTariff_chan (p : Nat) (f : Tariff → Tariff) : (s.modTariff p f).chan = s.chan := rfl
@[simp] theorem State.modTariff_refs (p : Nat) (f : Tariff → Tariff) : (s.modTariff p f).refs = s.refs := rfl
@[simp] theorem State.modTariff_seals (p : Nat) (f : Tariff → Tariff) : (s.modTariff p f).seals = s.seals := rfl
@[simp] theorem State.modTariff_mtr (p : Nat) (f : Tariff → Tariff) : (s.modTariff p f).mtr = s.mtr := rfl
@[simp] theorem State.modTariff_cf (p : Nat) (f : Tariff → Tariff) : (s.modTariff p f).cf = s.cf := rfl
@[simp] theorem State.modTariff_led (p : Nat) (f : Tariff → Tariff) : (s.modTariff p f).led = s.led := rfl
@[simp] theorem State.modTariff_book (p : Nat) (f : Tariff → Tariff) : (s.modTariff p f).book = s.book := rfl
@[simp] theorem State.modTariff_tar (p : Nat) (f : Tariff → Tariff) : (s.modTariff p f).tar = s.tar.put p (f (s.tariff p)) := rfl
@[simp] theorem State.modTariff_sign (p : Nat) (f : Tariff → Tariff) : (s.modTariff p f).sign = s.sign := rfl
@[simp] theorem State.modTariff_pol (p : Nat) (f : Tariff → Tariff) : (s.modTariff p f).pol = s.pol := rfl
@[simp] theorem State.modTariff_slu (p : Nat) (f : Tariff → Tariff) : (s.modTariff p f).slu = s.slu := rfl
@[simp] theorem State.modTariff_out (p : Nat) (f : Tariff → Tariff) : (s.modTariff p f).out = s.out := rfl
@[simp] theorem State.modTariff_hp (p : Nat) (f : Tariff → Tariff) : (s.modTariff p f).hp = s.hp := rfl
@[simp] theorem State.modTariff_evt (p : Nat) (f : Tariff → Tariff) : (s.modTariff p f).evt = s.evt := rfl
@[simp] theorem State.modTariff_par (p : Nat) (f : Tariff → Tariff) : (s.modTariff p f).par = s.par := rfl
@[simp] theorem State.modTariff_bc (p : Nat) (f : Tariff → Tariff) : (s.modTariff p f).bc = s.bc := rfl
@[simp] theorem State.modTariff_pq (p : Nat) (f : Tariff → Tariff) : (s.modTariff p f).pq = s.pq := rfl
@[simp] theorem State.modTariff_plc (p : Nat) (f : Tariff → Tariff) : (s.modTariff p f).plc = s.plc := rfl
@[simp] theorem State.modTariff_tdm (p : Nat) (f : Tariff → Tariff) : (s.modTariff p f).tdm = s.tdm := rfl
@[simp] theorem State.modTariff_flash (p : Nat) (f : Tariff → Tariff) : (s.modTariff p f).flash = s.flash := rfl
@[simp] theorem State.modTariff_dbl (p : Nat) (f : Tariff → Tariff) : (s.modTariff p f).dbl = s.dbl := rfl
@[simp] theorem State.modTariff_log (p : Nat) (f : Tariff → Tariff) : (s.modTariff p f).log = s.log := rfl
@[simp] theorem State.modTariff_guard (p : Nat) (f : Tariff → Tariff) : (s.modTariff p f).guard = s.guard := rfl
@[simp] theorem State.modTariff_tmp (p : Nat) (f : Tariff → Tariff) : (s.modTariff p f).tmp = s.tmp := rfl
@[simp] theorem State.modTariff_mem (p : Nat) (f : Tariff → Tariff) : (s.modTariff p f).mem = s.mem := rfl
@[simp] theorem State.modTariff_closing (p : Nat) (f : Tariff → Tariff) : (s.modTariff p f).closing = s.closing := rfl
@[simp] theorem State.modTariff_older (p : Nat) (f : Tariff → Tariff) : (s.modTariff p f).older = s.older := rfl
@[simp] theorem State.modTariff_cut (p : Nat) (f : Tariff → Tariff) : (s.modTariff p f).cut = s.cut := rfl
@[simp] theorem State.modTariff_tripKick (p : Nat) (f : Tariff → Tariff) : (s.modTariff p f).tripKick = s.tripKick := rfl
@[simp] theorem State.modTariff_irqKick (p : Nat) (f : Tariff → Tariff) : (s.modTariff p f).irqKick = s.irqKick := rfl
@[simp] theorem State.modTariff_fresh (p : Nat) (f : Tariff → Tariff) : (s.modTariff p f).fresh = s.fresh := rfl
@[simp] theorem State.modTariff_pending (p : Nat) (f : Tariff → Tariff) : (s.modTariff p f).pending = s.pending := rfl

/-! ### State.modPolder -/

@[simp] theorem State.modPolder_time (p : Nat) (f : Polder → Polder) : (s.modPolder p f).time = s.time := rfl
@[simp] theorem State.modPolder_pwr (p : Nat) (f : Polder → Polder) : (s.modPolder p f).pwr = s.pwr := rfl
@[simp] theorem State.modPolder_fab (p : Nat) (f : Polder → Polder) : (s.modPolder p f).fab = s.fab := rfl
@[simp] theorem State.modPolder_whl (p : Nat) (f : Polder → Polder) : (s.modPolder p f).whl = s.whl := rfl
@[simp] theorem State.modPolder_relief (p : Nat) (f : Polder → Polder) : (s.modPolder p f).relief = s.relief := rfl
@[simp] theorem State.modPolder_chan (p : Nat) (f : Polder → Polder) : (s.modPolder p f).chan = s.chan := rfl
@[simp] theorem State.modPolder_refs (p : Nat) (f : Polder → Polder) : (s.modPolder p f).refs = s.refs := rfl
@[simp] theorem State.modPolder_seals (p : Nat) (f : Polder → Polder) : (s.modPolder p f).seals = s.seals := rfl
@[simp] theorem State.modPolder_mtr (p : Nat) (f : Polder → Polder) : (s.modPolder p f).mtr = s.mtr := rfl
@[simp] theorem State.modPolder_cf (p : Nat) (f : Polder → Polder) : (s.modPolder p f).cf = s.cf := rfl
@[simp] theorem State.modPolder_led (p : Nat) (f : Polder → Polder) : (s.modPolder p f).led = s.led := rfl
@[simp] theorem State.modPolder_book (p : Nat) (f : Polder → Polder) : (s.modPolder p f).book = s.book := rfl
@[simp] theorem State.modPolder_tar (p : Nat) (f : Polder → Polder) : (s.modPolder p f).tar = s.tar := rfl
@[simp] theorem State.modPolder_sign (p : Nat) (f : Polder → Polder) : (s.modPolder p f).sign = s.sign := rfl
@[simp] theorem State.modPolder_pol (p : Nat) (f : Polder → Polder) : (s.modPolder p f).pol = s.pol.put p (f (s.polder p)) := rfl
@[simp] theorem State.modPolder_slu (p : Nat) (f : Polder → Polder) : (s.modPolder p f).slu = s.slu := rfl
@[simp] theorem State.modPolder_out (p : Nat) (f : Polder → Polder) : (s.modPolder p f).out = s.out := rfl
@[simp] theorem State.modPolder_hp (p : Nat) (f : Polder → Polder) : (s.modPolder p f).hp = s.hp := rfl
@[simp] theorem State.modPolder_evt (p : Nat) (f : Polder → Polder) : (s.modPolder p f).evt = s.evt := rfl
@[simp] theorem State.modPolder_par (p : Nat) (f : Polder → Polder) : (s.modPolder p f).par = s.par := rfl
@[simp] theorem State.modPolder_bc (p : Nat) (f : Polder → Polder) : (s.modPolder p f).bc = s.bc := rfl
@[simp] theorem State.modPolder_pq (p : Nat) (f : Polder → Polder) : (s.modPolder p f).pq = s.pq := rfl
@[simp] theorem State.modPolder_plc (p : Nat) (f : Polder → Polder) : (s.modPolder p f).plc = s.plc := rfl
@[simp] theorem State.modPolder_tdm (p : Nat) (f : Polder → Polder) : (s.modPolder p f).tdm = s.tdm := rfl
@[simp] theorem State.modPolder_flash (p : Nat) (f : Polder → Polder) : (s.modPolder p f).flash = s.flash := rfl
@[simp] theorem State.modPolder_dbl (p : Nat) (f : Polder → Polder) : (s.modPolder p f).dbl = s.dbl := rfl
@[simp] theorem State.modPolder_log (p : Nat) (f : Polder → Polder) : (s.modPolder p f).log = s.log := rfl
@[simp] theorem State.modPolder_guard (p : Nat) (f : Polder → Polder) : (s.modPolder p f).guard = s.guard := rfl
@[simp] theorem State.modPolder_tmp (p : Nat) (f : Polder → Polder) : (s.modPolder p f).tmp = s.tmp := rfl
@[simp] theorem State.modPolder_mem (p : Nat) (f : Polder → Polder) : (s.modPolder p f).mem = s.mem := rfl
@[simp] theorem State.modPolder_closing (p : Nat) (f : Polder → Polder) : (s.modPolder p f).closing = s.closing := rfl
@[simp] theorem State.modPolder_older (p : Nat) (f : Polder → Polder) : (s.modPolder p f).older = s.older := rfl
@[simp] theorem State.modPolder_cut (p : Nat) (f : Polder → Polder) : (s.modPolder p f).cut = s.cut := rfl
@[simp] theorem State.modPolder_tripKick (p : Nat) (f : Polder → Polder) : (s.modPolder p f).tripKick = s.tripKick := rfl
@[simp] theorem State.modPolder_irqKick (p : Nat) (f : Polder → Polder) : (s.modPolder p f).irqKick = s.irqKick := rfl
@[simp] theorem State.modPolder_fresh (p : Nat) (f : Polder → Polder) : (s.modPolder p f).fresh = s.fresh := rfl
@[simp] theorem State.modPolder_pending (p : Nat) (f : Polder → Polder) : (s.modPolder p f).pending = s.pending := rfl

/-! ### State.modSluice -/

@[simp] theorem State.modSluice_time (n : Nat) (f : Sluice → Sluice) : (s.modSluice n f).time = s.time := rfl
@[simp] theorem State.modSluice_pwr (n : Nat) (f : Sluice → Sluice) : (s.modSluice n f).pwr = s.pwr := rfl
@[simp] theorem State.modSluice_fab (n : Nat) (f : Sluice → Sluice) : (s.modSluice n f).fab = s.fab := rfl
@[simp] theorem State.modSluice_whl (n : Nat) (f : Sluice → Sluice) : (s.modSluice n f).whl = s.whl := rfl
@[simp] theorem State.modSluice_relief (n : Nat) (f : Sluice → Sluice) : (s.modSluice n f).relief = s.relief := rfl
@[simp] theorem State.modSluice_chan (n : Nat) (f : Sluice → Sluice) : (s.modSluice n f).chan = s.chan := rfl
@[simp] theorem State.modSluice_refs (n : Nat) (f : Sluice → Sluice) : (s.modSluice n f).refs = s.refs := rfl
@[simp] theorem State.modSluice_seals (n : Nat) (f : Sluice → Sluice) : (s.modSluice n f).seals = s.seals := rfl
@[simp] theorem State.modSluice_mtr (n : Nat) (f : Sluice → Sluice) : (s.modSluice n f).mtr = s.mtr := rfl
@[simp] theorem State.modSluice_cf (n : Nat) (f : Sluice → Sluice) : (s.modSluice n f).cf = s.cf := rfl
@[simp] theorem State.modSluice_led (n : Nat) (f : Sluice → Sluice) : (s.modSluice n f).led = s.led := rfl
@[simp] theorem State.modSluice_book (n : Nat) (f : Sluice → Sluice) : (s.modSluice n f).book = s.book := rfl
@[simp] theorem State.modSluice_tar (n : Nat) (f : Sluice → Sluice) : (s.modSluice n f).tar = s.tar := rfl
@[simp] theorem State.modSluice_sign (n : Nat) (f : Sluice → Sluice) : (s.modSluice n f).sign = s.sign := rfl
@[simp] theorem State.modSluice_pol (n : Nat) (f : Sluice → Sluice) : (s.modSluice n f).pol = s.pol := rfl
@[simp] theorem State.modSluice_slu (n : Nat) (f : Sluice → Sluice) : (s.modSluice n f).slu = s.slu.put n (f (s.sluice n)) := rfl
@[simp] theorem State.modSluice_out (n : Nat) (f : Sluice → Sluice) : (s.modSluice n f).out = s.out := rfl
@[simp] theorem State.modSluice_hp (n : Nat) (f : Sluice → Sluice) : (s.modSluice n f).hp = s.hp := rfl
@[simp] theorem State.modSluice_evt (n : Nat) (f : Sluice → Sluice) : (s.modSluice n f).evt = s.evt := rfl
@[simp] theorem State.modSluice_par (n : Nat) (f : Sluice → Sluice) : (s.modSluice n f).par = s.par := rfl
@[simp] theorem State.modSluice_bc (n : Nat) (f : Sluice → Sluice) : (s.modSluice n f).bc = s.bc := rfl
@[simp] theorem State.modSluice_pq (n : Nat) (f : Sluice → Sluice) : (s.modSluice n f).pq = s.pq := rfl
@[simp] theorem State.modSluice_plc (n : Nat) (f : Sluice → Sluice) : (s.modSluice n f).plc = s.plc := rfl
@[simp] theorem State.modSluice_tdm (n : Nat) (f : Sluice → Sluice) : (s.modSluice n f).tdm = s.tdm := rfl
@[simp] theorem State.modSluice_flash (n : Nat) (f : Sluice → Sluice) : (s.modSluice n f).flash = s.flash := rfl
@[simp] theorem State.modSluice_dbl (n : Nat) (f : Sluice → Sluice) : (s.modSluice n f).dbl = s.dbl := rfl
@[simp] theorem State.modSluice_log (n : Nat) (f : Sluice → Sluice) : (s.modSluice n f).log = s.log := rfl
@[simp] theorem State.modSluice_guard (n : Nat) (f : Sluice → Sluice) : (s.modSluice n f).guard = s.guard := rfl
@[simp] theorem State.modSluice_tmp (n : Nat) (f : Sluice → Sluice) : (s.modSluice n f).tmp = s.tmp := rfl
@[simp] theorem State.modSluice_mem (n : Nat) (f : Sluice → Sluice) : (s.modSluice n f).mem = s.mem := rfl
@[simp] theorem State.modSluice_closing (n : Nat) (f : Sluice → Sluice) : (s.modSluice n f).closing = s.closing := rfl
@[simp] theorem State.modSluice_older (n : Nat) (f : Sluice → Sluice) : (s.modSluice n f).older = s.older := rfl
@[simp] theorem State.modSluice_cut (n : Nat) (f : Sluice → Sluice) : (s.modSluice n f).cut = s.cut := rfl
@[simp] theorem State.modSluice_tripKick (n : Nat) (f : Sluice → Sluice) : (s.modSluice n f).tripKick = s.tripKick := rfl
@[simp] theorem State.modSluice_irqKick (n : Nat) (f : Sluice → Sluice) : (s.modSluice n f).irqKick = s.irqKick := rfl
@[simp] theorem State.modSluice_fresh (n : Nat) (f : Sluice → Sluice) : (s.modSluice n f).fresh = s.fresh := rfl
@[simp] theorem State.modSluice_pending (n : Nat) (f : Sluice → Sluice) : (s.modSluice n f).pending = s.pending := rfl

/-! ### State.modPort -/

@[simp] theorem State.modPort_time (n : Nat) (f : Port → Port) : (s.modPort n f).time = s.time := rfl
@[simp] theorem State.modPort_pwr (n : Nat) (f : Port → Port) : (s.modPort n f).pwr = s.pwr := rfl
@[simp] theorem State.modPort_fab (n : Nat) (f : Port → Port) : (s.modPort n f).fab = s.fab := rfl
@[simp] theorem State.modPort_whl (n : Nat) (f : Port → Port) : (s.modPort n f).whl = s.whl := rfl
@[simp] theorem State.modPort_relief (n : Nat) (f : Port → Port) : (s.modPort n f).relief = s.relief := rfl
@[simp] theorem State.modPort_chan (n : Nat) (f : Port → Port) : (s.modPort n f).chan = s.chan := rfl
@[simp] theorem State.modPort_refs (n : Nat) (f : Port → Port) : (s.modPort n f).refs = s.refs := rfl
@[simp] theorem State.modPort_seals (n : Nat) (f : Port → Port) : (s.modPort n f).seals = s.seals := rfl
@[simp] theorem State.modPort_mtr (n : Nat) (f : Port → Port) : (s.modPort n f).mtr = s.mtr := rfl
@[simp] theorem State.modPort_cf (n : Nat) (f : Port → Port) : (s.modPort n f).cf = s.cf := rfl
@[simp] theorem State.modPort_led (n : Nat) (f : Port → Port) : (s.modPort n f).led = s.led := rfl
@[simp] theorem State.modPort_book (n : Nat) (f : Port → Port) : (s.modPort n f).book = s.book := rfl
@[simp] theorem State.modPort_tar (n : Nat) (f : Port → Port) : (s.modPort n f).tar = s.tar := rfl
@[simp] theorem State.modPort_sign (n : Nat) (f : Port → Port) : (s.modPort n f).sign = s.sign := rfl
@[simp] theorem State.modPort_pol (n : Nat) (f : Port → Port) : (s.modPort n f).pol = s.pol := rfl
@[simp] theorem State.modPort_slu (n : Nat) (f : Port → Port) : (s.modPort n f).slu = s.slu := rfl
@[simp] theorem State.modPort_out (n : Nat) (f : Port → Port) : (s.modPort n f).out = s.out := rfl
@[simp] theorem State.modPort_hp (n : Nat) (f : Port → Port) : (s.modPort n f).hp = s.hp.put n (f (s.port n)) := rfl
@[simp] theorem State.modPort_evt (n : Nat) (f : Port → Port) : (s.modPort n f).evt = s.evt := rfl
@[simp] theorem State.modPort_par (n : Nat) (f : Port → Port) : (s.modPort n f).par = s.par := rfl
@[simp] theorem State.modPort_bc (n : Nat) (f : Port → Port) : (s.modPort n f).bc = s.bc := rfl
@[simp] theorem State.modPort_pq (n : Nat) (f : Port → Port) : (s.modPort n f).pq = s.pq := rfl
@[simp] theorem State.modPort_plc (n : Nat) (f : Port → Port) : (s.modPort n f).plc = s.plc := rfl
@[simp] theorem State.modPort_tdm (n : Nat) (f : Port → Port) : (s.modPort n f).tdm = s.tdm := rfl
@[simp] theorem State.modPort_flash (n : Nat) (f : Port → Port) : (s.modPort n f).flash = s.flash := rfl
@[simp] theorem State.modPort_dbl (n : Nat) (f : Port → Port) : (s.modPort n f).dbl = s.dbl := rfl
@[simp] theorem State.modPort_log (n : Nat) (f : Port → Port) : (s.modPort n f).log = s.log := rfl
@[simp] theorem State.modPort_guard (n : Nat) (f : Port → Port) : (s.modPort n f).guard = s.guard := rfl
@[simp] theorem State.modPort_tmp (n : Nat) (f : Port → Port) : (s.modPort n f).tmp = s.tmp := rfl
@[simp] theorem State.modPort_mem (n : Nat) (f : Port → Port) : (s.modPort n f).mem = s.mem := rfl
@[simp] theorem State.modPort_closing (n : Nat) (f : Port → Port) : (s.modPort n f).closing = s.closing := rfl
@[simp] theorem State.modPort_older (n : Nat) (f : Port → Port) : (s.modPort n f).older = s.older := rfl
@[simp] theorem State.modPort_cut (n : Nat) (f : Port → Port) : (s.modPort n f).cut = s.cut := rfl
@[simp] theorem State.modPort_tripKick (n : Nat) (f : Port → Port) : (s.modPort n f).tripKick = s.tripKick := rfl
@[simp] theorem State.modPort_irqKick (n : Nat) (f : Port → Port) : (s.modPort n f).irqKick = s.irqKick := rfl
@[simp] theorem State.modPort_fresh (n : Nat) (f : Port → Port) : (s.modPort n f).fresh = s.fresh := rfl
@[simp] theorem State.modPort_pending (n : Nat) (f : Port → Port) : (s.modPort n f).pending = s.pending := rfl

/-! ### State.modDom -/

@[simp] theorem State.modDom_time (n : Nat) (f : Dom → Dom) : (s.modDom n f).time = s.time := rfl
@[simp] theorem State.modDom_pwr (n : Nat) (f : Dom → Dom) : (s.modDom n f).pwr = { s.pwr with doms := s.pwr.doms.put n (f (s.dom n)) } := rfl
@[simp] theorem State.modDom_fab (n : Nat) (f : Dom → Dom) : (s.modDom n f).fab = s.fab := rfl
@[simp] theorem State.modDom_whl (n : Nat) (f : Dom → Dom) : (s.modDom n f).whl = s.whl := rfl
@[simp] theorem State.modDom_relief (n : Nat) (f : Dom → Dom) : (s.modDom n f).relief = s.relief := rfl
@[simp] theorem State.modDom_chan (n : Nat) (f : Dom → Dom) : (s.modDom n f).chan = s.chan := rfl
@[simp] theorem State.modDom_refs (n : Nat) (f : Dom → Dom) : (s.modDom n f).refs = s.refs := rfl
@[simp] theorem State.modDom_seals (n : Nat) (f : Dom → Dom) : (s.modDom n f).seals = s.seals := rfl
@[simp] theorem State.modDom_mtr (n : Nat) (f : Dom → Dom) : (s.modDom n f).mtr = s.mtr := rfl
@[simp] theorem State.modDom_cf (n : Nat) (f : Dom → Dom) : (s.modDom n f).cf = s.cf := rfl
@[simp] theorem State.modDom_led (n : Nat) (f : Dom → Dom) : (s.modDom n f).led = s.led := rfl
@[simp] theorem State.modDom_book (n : Nat) (f : Dom → Dom) : (s.modDom n f).book = s.book := rfl
@[simp] theorem State.modDom_tar (n : Nat) (f : Dom → Dom) : (s.modDom n f).tar = s.tar := rfl
@[simp] theorem State.modDom_sign (n : Nat) (f : Dom → Dom) : (s.modDom n f).sign = s.sign := rfl
@[simp] theorem State.modDom_pol (n : Nat) (f : Dom → Dom) : (s.modDom n f).pol = s.pol := rfl
@[simp] theorem State.modDom_slu (n : Nat) (f : Dom → Dom) : (s.modDom n f).slu = s.slu := rfl
@[simp] theorem State.modDom_out (n : Nat) (f : Dom → Dom) : (s.modDom n f).out = s.out := rfl
@[simp] theorem State.modDom_hp (n : Nat) (f : Dom → Dom) : (s.modDom n f).hp = s.hp := rfl
@[simp] theorem State.modDom_evt (n : Nat) (f : Dom → Dom) : (s.modDom n f).evt = s.evt := rfl
@[simp] theorem State.modDom_par (n : Nat) (f : Dom → Dom) : (s.modDom n f).par = s.par := rfl
@[simp] theorem State.modDom_bc (n : Nat) (f : Dom → Dom) : (s.modDom n f).bc = s.bc := rfl
@[simp] theorem State.modDom_pq (n : Nat) (f : Dom → Dom) : (s.modDom n f).pq = s.pq := rfl
@[simp] theorem State.modDom_plc (n : Nat) (f : Dom → Dom) : (s.modDom n f).plc = s.plc := rfl
@[simp] theorem State.modDom_tdm (n : Nat) (f : Dom → Dom) : (s.modDom n f).tdm = s.tdm := rfl
@[simp] theorem State.modDom_flash (n : Nat) (f : Dom → Dom) : (s.modDom n f).flash = s.flash := rfl
@[simp] theorem State.modDom_dbl (n : Nat) (f : Dom → Dom) : (s.modDom n f).dbl = s.dbl := rfl
@[simp] theorem State.modDom_log (n : Nat) (f : Dom → Dom) : (s.modDom n f).log = s.log := rfl
@[simp] theorem State.modDom_guard (n : Nat) (f : Dom → Dom) : (s.modDom n f).guard = s.guard := rfl
@[simp] theorem State.modDom_tmp (n : Nat) (f : Dom → Dom) : (s.modDom n f).tmp = s.tmp := rfl
@[simp] theorem State.modDom_mem (n : Nat) (f : Dom → Dom) : (s.modDom n f).mem = s.mem := rfl
@[simp] theorem State.modDom_closing (n : Nat) (f : Dom → Dom) : (s.modDom n f).closing = s.closing := rfl
@[simp] theorem State.modDom_older (n : Nat) (f : Dom → Dom) : (s.modDom n f).older = s.older := rfl
@[simp] theorem State.modDom_cut (n : Nat) (f : Dom → Dom) : (s.modDom n f).cut = s.cut := rfl
@[simp] theorem State.modDom_tripKick (n : Nat) (f : Dom → Dom) : (s.modDom n f).tripKick = s.tripKick := rfl
@[simp] theorem State.modDom_irqKick (n : Nat) (f : Dom → Dom) : (s.modDom n f).irqKick = s.irqKick := rfl
@[simp] theorem State.modDom_fresh (n : Nat) (f : Dom → Dom) : (s.modDom n f).fresh = s.fresh := rfl
@[simp] theorem State.modDom_pending (n : Nat) (f : Dom → Dom) : (s.modDom n f).pending = s.pending := rfl

/-! ### State.modPlc -/

@[simp] theorem State.modPlc_time (f : Plc → Plc) : (s.modPlc f).time = s.time := rfl
@[simp] theorem State.modPlc_pwr (f : Plc → Plc) : (s.modPlc f).pwr = s.pwr := rfl
@[simp] theorem State.modPlc_fab (f : Plc → Plc) : (s.modPlc f).fab = s.fab := rfl
@[simp] theorem State.modPlc_whl (f : Plc → Plc) : (s.modPlc f).whl = s.whl := rfl
@[simp] theorem State.modPlc_relief (f : Plc → Plc) : (s.modPlc f).relief = s.relief := rfl
@[simp] theorem State.modPlc_chan (f : Plc → Plc) : (s.modPlc f).chan = s.chan := rfl
@[simp] theorem State.modPlc_refs (f : Plc → Plc) : (s.modPlc f).refs = s.refs := rfl
@[simp] theorem State.modPlc_seals (f : Plc → Plc) : (s.modPlc f).seals = s.seals := rfl
@[simp] theorem State.modPlc_mtr (f : Plc → Plc) : (s.modPlc f).mtr = s.mtr := rfl
@[simp] theorem State.modPlc_cf (f : Plc → Plc) : (s.modPlc f).cf = s.cf := rfl
@[simp] theorem State.modPlc_led (f : Plc → Plc) : (s.modPlc f).led = s.led := rfl
@[simp] theorem State.modPlc_book (f : Plc → Plc) : (s.modPlc f).book = s.book := rfl
@[simp] theorem State.modPlc_tar (f : Plc → Plc) : (s.modPlc f).tar = s.tar := rfl
@[simp] theorem State.modPlc_sign (f : Plc → Plc) : (s.modPlc f).sign = s.sign := rfl
@[simp] theorem State.modPlc_pol (f : Plc → Plc) : (s.modPlc f).pol = s.pol := rfl
@[simp] theorem State.modPlc_slu (f : Plc → Plc) : (s.modPlc f).slu = s.slu := rfl
@[simp] theorem State.modPlc_out (f : Plc → Plc) : (s.modPlc f).out = s.out := rfl
@[simp] theorem State.modPlc_hp (f : Plc → Plc) : (s.modPlc f).hp = s.hp := rfl
@[simp] theorem State.modPlc_evt (f : Plc → Plc) : (s.modPlc f).evt = s.evt := rfl
@[simp] theorem State.modPlc_par (f : Plc → Plc) : (s.modPlc f).par = s.par := rfl
@[simp] theorem State.modPlc_bc (f : Plc → Plc) : (s.modPlc f).bc = s.bc := rfl
@[simp] theorem State.modPlc_pq (f : Plc → Plc) : (s.modPlc f).pq = s.pq := rfl
@[simp] theorem State.modPlc_plc (f : Plc → Plc) : (s.modPlc f).plc = f s.plc := rfl
@[simp] theorem State.modPlc_tdm (f : Plc → Plc) : (s.modPlc f).tdm = s.tdm := rfl
@[simp] theorem State.modPlc_flash (f : Plc → Plc) : (s.modPlc f).flash = s.flash := rfl
@[simp] theorem State.modPlc_dbl (f : Plc → Plc) : (s.modPlc f).dbl = s.dbl := rfl
@[simp] theorem State.modPlc_log (f : Plc → Plc) : (s.modPlc f).log = s.log := rfl
@[simp] theorem State.modPlc_guard (f : Plc → Plc) : (s.modPlc f).guard = s.guard := rfl
@[simp] theorem State.modPlc_tmp (f : Plc → Plc) : (s.modPlc f).tmp = s.tmp := rfl
@[simp] theorem State.modPlc_mem (f : Plc → Plc) : (s.modPlc f).mem = s.mem := rfl
@[simp] theorem State.modPlc_closing (f : Plc → Plc) : (s.modPlc f).closing = s.closing := rfl
@[simp] theorem State.modPlc_older (f : Plc → Plc) : (s.modPlc f).older = s.older := rfl
@[simp] theorem State.modPlc_cut (f : Plc → Plc) : (s.modPlc f).cut = s.cut := rfl
@[simp] theorem State.modPlc_tripKick (f : Plc → Plc) : (s.modPlc f).tripKick = s.tripKick := rfl
@[simp] theorem State.modPlc_irqKick (f : Plc → Plc) : (s.modPlc f).irqKick = s.irqKick := rfl
@[simp] theorem State.modPlc_fresh (f : Plc → Plc) : (s.modPlc f).fresh = s.fresh := rfl
@[simp] theorem State.modPlc_pending (f : Plc → Plc) : (s.modPlc f).pending = s.pending := rfl

/-! ### State.modTdm -/

@[simp] theorem State.modTdm_time (f : Tdm → Tdm) : (s.modTdm f).time = s.time := rfl
@[simp] theorem State.modTdm_pwr (f : Tdm → Tdm) : (s.modTdm f).pwr = s.pwr := rfl
@[simp] theorem State.modTdm_fab (f : Tdm → Tdm) : (s.modTdm f).fab = s.fab := rfl
@[simp] theorem State.modTdm_whl (f : Tdm → Tdm) : (s.modTdm f).whl = s.whl := rfl
@[simp] theorem State.modTdm_relief (f : Tdm → Tdm) : (s.modTdm f).relief = s.relief := rfl
@[simp] theorem State.modTdm_chan (f : Tdm → Tdm) : (s.modTdm f).chan = s.chan := rfl
@[simp] theorem State.modTdm_refs (f : Tdm → Tdm) : (s.modTdm f).refs = s.refs := rfl
@[simp] theorem State.modTdm_seals (f : Tdm → Tdm) : (s.modTdm f).seals = s.seals := rfl
@[simp] theorem State.modTdm_mtr (f : Tdm → Tdm) : (s.modTdm f).mtr = s.mtr := rfl
@[simp] theorem State.modTdm_cf (f : Tdm → Tdm) : (s.modTdm f).cf = s.cf := rfl
@[simp] theorem State.modTdm_led (f : Tdm → Tdm) : (s.modTdm f).led = s.led := rfl
@[simp] theorem State.modTdm_book (f : Tdm → Tdm) : (s.modTdm f).book = s.book := rfl
@[simp] theorem State.modTdm_tar (f : Tdm → Tdm) : (s.modTdm f).tar = s.tar := rfl
@[simp] theorem State.modTdm_sign (f : Tdm → Tdm) : (s.modTdm f).sign = s.sign := rfl
@[simp] theorem State.modTdm_pol (f : Tdm → Tdm) : (s.modTdm f).pol = s.pol := rfl
@[simp] theorem State.modTdm_slu (f : Tdm → Tdm) : (s.modTdm f).slu = s.slu := rfl
@[simp] theorem State.modTdm_out (f : Tdm → Tdm) : (s.modTdm f).out = s.out := rfl
@[simp] theorem State.modTdm_hp (f : Tdm → Tdm) : (s.modTdm f).hp = s.hp := rfl
@[simp] theorem State.modTdm_evt (f : Tdm → Tdm) : (s.modTdm f).evt = s.evt := rfl
@[simp] theorem State.modTdm_par (f : Tdm → Tdm) : (s.modTdm f).par = s.par := rfl
@[simp] theorem State.modTdm_bc (f : Tdm → Tdm) : (s.modTdm f).bc = s.bc := rfl
@[simp] theorem State.modTdm_pq (f : Tdm → Tdm) : (s.modTdm f).pq = s.pq := rfl
@[simp] theorem State.modTdm_plc (f : Tdm → Tdm) : (s.modTdm f).plc = s.plc := rfl
@[simp] theorem State.modTdm_tdm (f : Tdm → Tdm) : (s.modTdm f).tdm = f s.tdm := rfl
@[simp] theorem State.modTdm_flash (f : Tdm → Tdm) : (s.modTdm f).flash = s.flash := rfl
@[simp] theorem State.modTdm_dbl (f : Tdm → Tdm) : (s.modTdm f).dbl = s.dbl := rfl
@[simp] theorem State.modTdm_log (f : Tdm → Tdm) : (s.modTdm f).log = s.log := rfl
@[simp] theorem State.modTdm_guard (f : Tdm → Tdm) : (s.modTdm f).guard = s.guard := rfl
@[simp] theorem State.modTdm_tmp (f : Tdm → Tdm) : (s.modTdm f).tmp = s.tmp := rfl
@[simp] theorem State.modTdm_mem (f : Tdm → Tdm) : (s.modTdm f).mem = s.mem := rfl
@[simp] theorem State.modTdm_closing (f : Tdm → Tdm) : (s.modTdm f).closing = s.closing := rfl
@[simp] theorem State.modTdm_older (f : Tdm → Tdm) : (s.modTdm f).older = s.older := rfl
@[simp] theorem State.modTdm_cut (f : Tdm → Tdm) : (s.modTdm f).cut = s.cut := rfl
@[simp] theorem State.modTdm_tripKick (f : Tdm → Tdm) : (s.modTdm f).tripKick = s.tripKick := rfl
@[simp] theorem State.modTdm_irqKick (f : Tdm → Tdm) : (s.modTdm f).irqKick = s.irqKick := rfl
@[simp] theorem State.modTdm_fresh (f : Tdm → Tdm) : (s.modTdm f).fresh = s.fresh := rfl
@[simp] theorem State.modTdm_pending (f : Tdm → Tdm) : (s.modTdm f).pending = s.pending := rfl

/-! ### State.advance -/

@[simp] theorem State.advance_time (t : Nat) : (s.advance t).time = { s.time with off := Nat.max s.time.off (Nat.min t (cadenceClocks - 1)) } := rfl
@[simp] theorem State.advance_pwr (t : Nat) : (s.advance t).pwr = s.pwr := rfl
@[simp] theorem State.advance_fab (t : Nat) : (s.advance t).fab = s.fab := rfl
@[simp] theorem State.advance_whl (t : Nat) : (s.advance t).whl = s.whl := rfl
@[simp] theorem State.advance_relief (t : Nat) : (s.advance t).relief = s.relief := rfl
@[simp] theorem State.advance_chan (t : Nat) : (s.advance t).chan = s.chan := rfl
@[simp] theorem State.advance_refs (t : Nat) : (s.advance t).refs = s.refs := rfl
@[simp] theorem State.advance_seals (t : Nat) : (s.advance t).seals = s.seals := rfl
@[simp] theorem State.advance_mtr (t : Nat) : (s.advance t).mtr = s.mtr := rfl
@[simp] theorem State.advance_cf (t : Nat) : (s.advance t).cf = s.cf := rfl
@[simp] theorem State.advance_led (t : Nat) : (s.advance t).led = s.led := rfl
@[simp] theorem State.advance_book (t : Nat) : (s.advance t).book = s.book := rfl
@[simp] theorem State.advance_tar (t : Nat) : (s.advance t).tar = s.tar := rfl
@[simp] theorem State.advance_sign (t : Nat) : (s.advance t).sign = s.sign := rfl
@[simp] theorem State.advance_pol (t : Nat) : (s.advance t).pol = s.pol := rfl
@[simp] theorem State.advance_slu (t : Nat) : (s.advance t).slu = s.slu := rfl
@[simp] theorem State.advance_out (t : Nat) : (s.advance t).out = s.out := rfl
@[simp] theorem State.advance_hp (t : Nat) : (s.advance t).hp = s.hp := rfl
@[simp] theorem State.advance_evt (t : Nat) : (s.advance t).evt = s.evt := rfl
@[simp] theorem State.advance_par (t : Nat) : (s.advance t).par = s.par := rfl
@[simp] theorem State.advance_bc (t : Nat) : (s.advance t).bc = s.bc := rfl
@[simp] theorem State.advance_pq (t : Nat) : (s.advance t).pq = s.pq := rfl
@[simp] theorem State.advance_plc (t : Nat) : (s.advance t).plc = s.plc := rfl
@[simp] theorem State.advance_tdm (t : Nat) : (s.advance t).tdm = s.tdm := rfl
@[simp] theorem State.advance_flash (t : Nat) : (s.advance t).flash = s.flash := rfl
@[simp] theorem State.advance_dbl (t : Nat) : (s.advance t).dbl = s.dbl := rfl
@[simp] theorem State.advance_log (t : Nat) : (s.advance t).log = s.log := rfl
@[simp] theorem State.advance_guard (t : Nat) : (s.advance t).guard = s.guard := rfl
@[simp] theorem State.advance_tmp (t : Nat) : (s.advance t).tmp = s.tmp := rfl
@[simp] theorem State.advance_mem (t : Nat) : (s.advance t).mem = s.mem := rfl
@[simp] theorem State.advance_closing (t : Nat) : (s.advance t).closing = s.closing := rfl
@[simp] theorem State.advance_older (t : Nat) : (s.advance t).older = s.older := rfl
@[simp] theorem State.advance_cut (t : Nat) : (s.advance t).cut = s.cut := rfl
@[simp] theorem State.advance_tripKick (t : Nat) : (s.advance t).tripKick = s.tripKick := rfl
@[simp] theorem State.advance_irqKick (t : Nat) : (s.advance t).irqKick = s.irqKick := rfl
@[simp] theorem State.advance_fresh (t : Nat) : (s.advance t).fresh = s.fresh := rfl
@[simp] theorem State.advance_pending (t : Nat) : (s.advance t).pending = s.pending := rfl

/-! ### State.touch -/

@[simp] theorem State.touch_time (k : Nat) : (s.touch k).time = s.time := rfl
@[simp] theorem State.touch_pwr (k : Nat) : (s.touch k).pwr = s.pwr := rfl
@[simp] theorem State.touch_fab (k : Nat) : (s.touch k).fab = s.fab := rfl
@[simp] theorem State.touch_whl (k : Nat) : (s.touch k).whl = s.whl := rfl
@[simp] theorem State.touch_relief (k : Nat) : (s.touch k).relief = s.relief := rfl
@[simp] theorem State.touch_chan (k : Nat) : (s.touch k).chan = s.chan := rfl
@[simp] theorem State.touch_refs (k : Nat) : (s.touch k).refs = s.refs := rfl
@[simp] theorem State.touch_seals (k : Nat) : (s.touch k).seals = s.seals := rfl
@[simp] theorem State.touch_mtr (k : Nat) : (s.touch k).mtr = s.mtr := rfl
@[simp] theorem State.touch_cf (k : Nat) : (s.touch k).cf = s.cf := rfl
@[simp] theorem State.touch_led (k : Nat) : (s.touch k).led = s.led := rfl
@[simp] theorem State.touch_book (k : Nat) : (s.touch k).book = s.book := rfl
@[simp] theorem State.touch_tar (k : Nat) : (s.touch k).tar = s.tar := rfl
@[simp] theorem State.touch_sign (k : Nat) : (s.touch k).sign = s.sign := rfl
@[simp] theorem State.touch_pol (k : Nat) : (s.touch k).pol = s.pol := rfl
@[simp] theorem State.touch_slu (k : Nat) : (s.touch k).slu = s.slu := rfl
@[simp] theorem State.touch_out (k : Nat) : (s.touch k).out = s.out := rfl
@[simp] theorem State.touch_hp (k : Nat) : (s.touch k).hp = s.hp := rfl
@[simp] theorem State.touch_evt (k : Nat) : (s.touch k).evt = s.evt := rfl
@[simp] theorem State.touch_par (k : Nat) : (s.touch k).par = s.par := rfl
@[simp] theorem State.touch_bc (k : Nat) : (s.touch k).bc = s.bc := rfl
@[simp] theorem State.touch_pq (k : Nat) : (s.touch k).pq = s.pq := rfl
@[simp] theorem State.touch_plc (k : Nat) : (s.touch k).plc = s.plc := rfl
@[simp] theorem State.touch_tdm (k : Nat) : (s.touch k).tdm = s.tdm := rfl
@[simp] theorem State.touch_flash (k : Nat) : (s.touch k).flash = s.flash := rfl
@[simp] theorem State.touch_dbl (k : Nat) : (s.touch k).dbl = { s.dbl with due := s.dbl.due ||| (1#3 <<< k) } := rfl
@[simp] theorem State.touch_log (k : Nat) : (s.touch k).log = s.log := rfl
@[simp] theorem State.touch_guard (k : Nat) : (s.touch k).guard = s.guard := rfl
@[simp] theorem State.touch_tmp (k : Nat) : (s.touch k).tmp = s.tmp := rfl
@[simp] theorem State.touch_mem (k : Nat) : (s.touch k).mem = s.mem := rfl
@[simp] theorem State.touch_closing (k : Nat) : (s.touch k).closing = s.closing := rfl
@[simp] theorem State.touch_older (k : Nat) : (s.touch k).older = s.older := rfl
@[simp] theorem State.touch_cut (k : Nat) : (s.touch k).cut = s.cut := rfl
@[simp] theorem State.touch_tripKick (k : Nat) : (s.touch k).tripKick = s.tripKick := rfl
@[simp] theorem State.touch_irqKick (k : Nat) : (s.touch k).irqKick = s.irqKick := rfl
@[simp] theorem State.touch_fresh (k : Nat) : (s.touch k).fresh = s.fresh := rfl
@[simp] theorem State.touch_pending (k : Nat) : (s.touch k).pending = s.pending := rfl

/-! ### State.runOn -/

@[simp] theorem State.runOn_time (rest : List Instr) : (s.runOn rest).time = s.time := rfl
@[simp] theorem State.runOn_pwr (rest : List Instr) : (s.runOn rest).pwr = s.pwr := rfl
@[simp] theorem State.runOn_fab (rest : List Instr) : (s.runOn rest).fab = s.fab := rfl
@[simp] theorem State.runOn_whl (rest : List Instr) : (s.runOn rest).whl = s.whl := rfl
@[simp] theorem State.runOn_relief (rest : List Instr) : (s.runOn rest).relief = s.relief := rfl
@[simp] theorem State.runOn_chan (rest : List Instr) : (s.runOn rest).chan = s.chan := rfl
@[simp] theorem State.runOn_refs (rest : List Instr) : (s.runOn rest).refs = s.refs := rfl
@[simp] theorem State.runOn_seals (rest : List Instr) : (s.runOn rest).seals = s.seals := rfl
@[simp] theorem State.runOn_mtr (rest : List Instr) : (s.runOn rest).mtr = s.mtr := rfl
@[simp] theorem State.runOn_cf (rest : List Instr) : (s.runOn rest).cf = s.cf := rfl
@[simp] theorem State.runOn_led (rest : List Instr) : (s.runOn rest).led = s.led := rfl
@[simp] theorem State.runOn_book (rest : List Instr) : (s.runOn rest).book = s.book := rfl
@[simp] theorem State.runOn_tar (rest : List Instr) : (s.runOn rest).tar = s.tar := rfl
@[simp] theorem State.runOn_sign (rest : List Instr) : (s.runOn rest).sign = s.sign := rfl
@[simp] theorem State.runOn_pol (rest : List Instr) : (s.runOn rest).pol = s.pol := rfl
@[simp] theorem State.runOn_slu (rest : List Instr) : (s.runOn rest).slu = s.slu := rfl
@[simp] theorem State.runOn_out (rest : List Instr) : (s.runOn rest).out = s.out := rfl
@[simp] theorem State.runOn_hp (rest : List Instr) : (s.runOn rest).hp = s.hp := rfl
@[simp] theorem State.runOn_evt (rest : List Instr) : (s.runOn rest).evt = s.evt := rfl
@[simp] theorem State.runOn_par (rest : List Instr) : (s.runOn rest).par = s.par := rfl
@[simp] theorem State.runOn_bc (rest : List Instr) : (s.runOn rest).bc = s.bc := rfl
@[simp] theorem State.runOn_pq (rest : List Instr) : (s.runOn rest).pq = s.pq := rfl
@[simp] theorem State.runOn_plc (rest : List Instr) : (s.runOn rest).plc = s.plc := rfl
@[simp] theorem State.runOn_tdm (rest : List Instr) : (s.runOn rest).tdm = s.tdm := rfl
@[simp] theorem State.runOn_flash (rest : List Instr) : (s.runOn rest).flash = s.flash := rfl
@[simp] theorem State.runOn_dbl (rest : List Instr) : (s.runOn rest).dbl = s.dbl := rfl
@[simp] theorem State.runOn_log (rest : List Instr) : (s.runOn rest).log = s.log := rfl
@[simp] theorem State.runOn_guard (rest : List Instr) : (s.runOn rest).guard = s.guard := rfl
@[simp] theorem State.runOn_tmp (rest : List Instr) : (s.runOn rest).tmp = s.tmp := rfl
@[simp] theorem State.runOn_mem (rest : List Instr) : (s.runOn rest).mem = s.mem := rfl
@[simp] theorem State.runOn_closing (rest : List Instr) : (s.runOn rest).closing = s.closing := rfl
@[simp] theorem State.runOn_older (rest : List Instr) : (s.runOn rest).older = s.older := rfl
@[simp] theorem State.runOn_cut (rest : List Instr) : (s.runOn rest).cut = s.cut := rfl
@[simp] theorem State.runOn_tripKick (rest : List Instr) : (s.runOn rest).tripKick = s.tripKick := rfl
@[simp] theorem State.runOn_irqKick (rest : List Instr) : (s.runOn rest).irqKick = s.irqKick := rfl
@[simp] theorem State.runOn_fresh (rest : List Instr) : (s.runOn rest).fresh = s.fresh := rfl
@[simp] theorem State.runOn_pending (rest : List Instr) : (s.runOn rest).pending = rest := rfl

/-! ### Parts by number -/

@[simp] theorem State.wheel_modWheel_same (i : Nat) (f : Wheel → Wheel) : (s.modWheel i f).wheel i = f (s.wheel i) := Tab.get_put_same _ _ _ _
theorem State.wheel_modWheel_other {i k : Nat} (f : Wheel → Wheel) (h : k ≠ i) : (s.modWheel i f).wheel k = s.wheel k := Tab.get_put_other _ _ _ h
@[simp] theorem State.channel_modChannel_same (i : Nat) (f : Chan → Chan) : (s.modChannel i f).channel i = f (s.channel i) := Tab.get_put_same _ _ _ _
theorem State.channel_modChannel_other {i k : Nat} (f : Chan → Chan) (h : k ≠ i) : (s.modChannel i f).channel k = s.channel k := Tab.get_put_other _ _ _ h
@[simp] theorem State.meter_modMeter_same (i : Nat) (f : Meter → Meter) : (s.modMeter i f).meter i = f (s.meter i) := Tab.get_put_same _ _ _ _
theorem State.meter_modMeter_other {i k : Nat} (f : Meter → Meter) (h : k ≠ i) : (s.modMeter i f).meter k = s.meter k := Tab.get_put_other _ _ _ h
@[simp] theorem State.cfOut_modCf_same (i : Nat) (f : Cf → Cf) : (s.modCf i f).cfOut i = f (s.cfOut i) := Tab.get_put_same _ _ _ _
theorem State.cfOut_modCf_other {i k : Nat} (f : Cf → Cf) (h : k ≠ i) : (s.modCf i f).cfOut k = s.cfOut k := Tab.get_put_other _ _ _ h
@[simp] theorem State.ledger_modLedger_same (i : Nat) (f : Ledger → Ledger) : (s.modLedger i f).ledger i = f (s.ledger i) := Tab.get_put_same _ _ _ _
theorem State.ledger_modLedger_other {i k : Nat} (f : Ledger → Ledger) (h : k ≠ i) : (s.modLedger i f).ledger k = s.ledger k := Tab.get_put_other _ _ _ h
@[simp] theorem State.tariff_modTariff_same (i : Nat) (f : Tariff → Tariff) : (s.modTariff i f).tariff i = f (s.tariff i) := Tab.get_put_same _ _ _ _
theorem State.tariff_modTariff_other {i k : Nat} (f : Tariff → Tariff) (h : k ≠ i) : (s.modTariff i f).tariff k = s.tariff k := Tab.get_put_other _ _ _ h
@[simp] theorem State.polder_modPolder_same (i : Nat) (f : Polder → Polder) : (s.modPolder i f).polder i = f (s.polder i) := Tab.get_put_same _ _ _ _
theorem State.polder_modPolder_other {i k : Nat} (f : Polder → Polder) (h : k ≠ i) : (s.modPolder i f).polder k = s.polder k := Tab.get_put_other _ _ _ h
@[simp] theorem State.sluice_modSluice_same (i : Nat) (f : Sluice → Sluice) : (s.modSluice i f).sluice i = f (s.sluice i) := Tab.get_put_same _ _ _ _
theorem State.sluice_modSluice_other {i k : Nat} (f : Sluice → Sluice) (h : k ≠ i) : (s.modSluice i f).sluice k = s.sluice k := Tab.get_put_other _ _ _ h
@[simp] theorem State.port_modPort_same (i : Nat) (f : Port → Port) : (s.modPort i f).port i = f (s.port i) := Tab.get_put_same _ _ _ _
theorem State.port_modPort_other {i k : Nat} (f : Port → Port) (h : k ≠ i) : (s.modPort i f).port k = s.port k := Tab.get_put_other _ _ _ h
/-- A domain has passed OFF to RISING where 10 µs have gone by since its drain (R100). -/
@[simp] theorem State.dom_modDom_same (i : Nat) (f : Dom → Dom) : (s.modDom i f).dom i = (f (s.dom i)).seen s.now :=
  congrArg (Dom.seen · s.now) (Tab.get_put_same _ _ _ _)
theorem State.dom_modDom_other {i k : Nat} (f : Dom → Dom) (h : k ≠ i) : (s.modDom i f).dom k = s.dom k :=
  congrArg (Dom.seen · s.now) (Tab.get_put_other _ _ _ h)

end

end Sys2Proof.Machine
end

