-- ==== Sys2Proof/Laws/Events.lean ====
section
/-! SUPPORT. What firing an event source, posting a completion and ending a command can change, said once: the parts of the state they write
and every other part as it was. -/
namespace Sys2Proof.Machine

section
variable (s : State)

/-! ## Events -/

theorem State.setBit_of (e : Nat) : ∃ v h, s.setBit e = { s with evt := v, hp := h } := ⟨_, _, rfl⟩

theorem State.post_of (e code : Nat) (data : BitVec 32) (stamp : Nat) : ∃ p v h, s.post e code data stamp = { s with pol := p, evt := v, hp := h } := by
  unfold State.post
  split
  · exact ⟨s.pol, s.evt, s.hp, rfl⟩
  · exact ⟨_, _, _, rfl⟩

theorem State.overflow_of (p : Nat) : ∃ q v h, s.overflow p = { s with pol := q, evt := v, hp := h } := by
  unfold State.overflow
  dsimp only
  split
  · exact ⟨s.pol, s.evt, s.hp, rfl⟩
  · obtain ⟨q, v, h, e⟩ := State.post_of (s.modPolder p fun q => { q with overflow := true }) (704 + p) 1 (BitVec.ofNat 32 (s.polder p).dropped) s.stamp
    exact ⟨q, v, h, e⟩

/-- A wake reason leaves the domains as they are. -/
theorem Power.reason_doms (p : Power) (r now : Nat) : (p.reason r now).doms = p.doms := by
  unfold Power.reason
  dsimp only
  split <;> split <;> rfl

theorem State.wakeHush_of (r : Nat) : ∃ p, s.wakeHush r = { s with pwr := p } ∧ p.doms = s.pwr.doms := by
  unfold State.wakeHush
  split
  · exact ⟨_, rfl, Power.reason_doms _ _ _⟩
  · split
    · exact ⟨_, rfl, Power.reason_doms _ _ _⟩
    · exact ⟨s.pwr, rfl, rfl⟩

theorem State.irqWake_of (p : Nat) : ∃ w, s.irqWake p = { s with pwr := w } ∧ w.doms = s.pwr.doms := by
  unfold State.irqWake
  split
  · exact State.wakeHush_of s 1
  · exact ⟨s.pwr, rfl, rfl⟩

/-- A source that fires writes its owner's queue, the status bits, what the ports have read, and the wake cause; the domains stay. -/
theorem State.signal_of (e code : Nat) (data : BitVec 32) (stamp : Nat) :
    ∃ p v h w, s.signal e code data stamp = { s with pol := p, evt := v, hp := h, pwr := w } ∧ w.doms = s.pwr.doms := by
  unfold State.signal
  obtain ⟨p1, v1, h1, e1⟩ := State.post_of s e code data stamp
  obtain ⟨p2, v2, h2, e2⟩ := State.overflow_of (s.post e code data stamp) (s.owner e)
  rw [e1] at e2
  dsimp only
  split
  · exact ⟨p2, v2, h2, s.pwr, by rw [e1, e2], rfl⟩
  · obtain ⟨w, e3, e4⟩ := State.irqWake_of ((s.post e code data stamp).overflow (s.owner e)) (s.owner e)
    refine ⟨p2, v2, h2, w, ?_, ?_⟩
    · rw [e3, e1, e2]
    · rw [e4, e1, e2]

/-- What tells of the crest log. -/
theorem State.crestNote_of (code : Nat) (data : BitVec 32) :
    ∃ p v h w l, s.crestNote code data = { s with pol := p, evt := v, hp := h, pwr := w, log := l } ∧ w.doms = s.pwr.doms := by
  unfold State.crestNote
  dsimp only
  generalize s.log.addEvent _ = l
  generalize hm : State.modPolder _ _ _ = t
  obtain ⟨p, v, h, w, e, hd⟩ := State.signal_of t 647 code data s.stamp
  subst hm
  exact ⟨p, v, h, w, l, e, hd⟩

/-- A crest entry, with the events that tell of it. -/
theorem State.crest_of (n : LogEntry) :
    ∃ p v h w l, s.crest n = { s with pol := p, evt := v, hp := h, pwr := w, log := l } ∧ w.doms = s.pwr.doms := by
  unfold State.crest
  split
  · exact ⟨s.pol, s.evt, s.hp, s.pwr, s.log, rfl, rfl⟩
  · have two : ∀ (t : State) (b : Bool), (∃ p v h w l, t = { s with pol := p, evt := v, hp := h, pwr := w, log := l } ∧ w.doms = s.pwr.doms) →
        ∃ p v h w l, (if b then t.crestNote 5 0 else t) = { s with pol := p, evt := v, hp := h, pwr := w, log := l } ∧ w.doms = s.pwr.doms := by
      rintro t b ⟨p, v, h, w, l, rfl, hd⟩
      cases b
      · exact ⟨p, v, h, w, l, rfl, hd⟩
      · obtain ⟨p2, v2, h2, w2, l2, e2, hd2⟩ := State.crestNote_of { s with pol := p, evt := v, hp := h, pwr := w, log := l } 5 0
        exact ⟨p2, v2, h2, w2, l2, e2, hd2.trans hd⟩
    exact two _ _ (State.crestNote_of { s with log := s.log.addCrest n } 3 (s.log.addCrest n).crestSeq)

/-- A log entry. -/
theorem State.record_of (n : LogEntry) (closes : Bool) :
    ∃ p v h w l, s.record n closes = { s with pol := p, evt := v, hp := h, pwr := w, log := l } ∧ w.doms = s.pwr.doms := by
  unfold State.record
  dsimp only
  split
  · generalize hm : ({ s with log := s.log.addEvent n } : State).modPolder n.owner _ = t
    obtain ⟨p, v, h, w, l, e, hd⟩ := State.crest_of t n
    subst hm
    exact ⟨p, v, h, w, l, e, hd⟩
  · exact ⟨_, s.evt, s.hp, s.pwr, _, rfl, rfl⟩

/-- A source fires: its log entry and its event. -/
theorem State.fireFull_of (e code : Nat) (data : BitVec 32) (stamp : Nat) (latched unknown : Bool) (detail : BitVec 64) (closes : Bool) :
    ∃ p v h w l, s.fireFull e code data stamp latched unknown detail closes = { s with pol := p, evt := v, hp := h, pwr := w, log := l } ∧
      w.doms = s.pwr.doms := by
  unfold State.fireFull
  dsimp only
  split
  · obtain ⟨p, v, h, w, l, e1, hd⟩ := State.record_of s
      { time := stamp, owner := s.owner e, source := e, code, lflags := s.lflags latched unknown, data, seq := 0, detail } closes
    rw [e1]
    obtain ⟨p2, v2, h2, w2, e2, hd2⟩ := State.signal_of { s with pol := p, evt := v, hp := h, pwr := w, log := l } e code data stamp
    exact ⟨p2, v2, h2, w2, l, e2, hd2.trans hd⟩
  · obtain ⟨p2, v2, h2, w2, e2, hd2⟩ := State.signal_of s e code data stamp
    exact ⟨p2, v2, h2, w2, s.log, e2, hd2⟩

/-! ### State.fire -/

@[simp] theorem State.fire_time (e code : Nat) (data : BitVec 32) : (s.fire e code data).time = s.time := by obtain ⟨_, _, _, _, _, h, _⟩ := s.fireFull_of e code data s.stamp false false 0 false; unfold State.fire; rw [h]
@[simp] theorem State.fire_fab (e code : Nat) (data : BitVec 32) : (s.fire e code data).fab = s.fab := by obtain ⟨_, _, _, _, _, h, _⟩ := s.fireFull_of e code data s.stamp false false 0 false; unfold State.fire; rw [h]
@[simp] theorem State.fire_whl (e code : Nat) (data : BitVec 32) : (s.fire e code data).whl = s.whl := by obtain ⟨_, _, _, _, _, h, _⟩ := s.fireFull_of e code data s.stamp false false 0 false; unfold State.fire; rw [h]
@[simp] theorem State.fire_relief (e code : Nat) (data : BitVec 32) : (s.fire e code data).relief = s.relief := by obtain ⟨_, _, _, _, _, h, _⟩ := s.fireFull_of e code data s.stamp false false 0 false; unfold State.fire; rw [h]
@[simp] theorem State.fire_chan (e code : Nat) (data : BitVec 32) : (s.fire e code data).chan = s.chan := by obtain ⟨_, _, _, _, _, h, _⟩ := s.fireFull_of e code data s.stamp false false 0 false; unfold State.fire; rw [h]
@[simp] theorem State.fire_refs (e code : Nat) (data : BitVec 32) : (s.fire e code data).refs = s.refs := by obtain ⟨_, _, _, _, _, h, _⟩ := s.fireFull_of e code data s.stamp false false 0 false; unfold State.fire; rw [h]
@[simp] theorem State.fire_seals (e code : Nat) (data : BitVec 32) : (s.fire e code data).seals = s.seals := by obtain ⟨_, _, _, _, _, h, _⟩ := s.fireFull_of e code data s.stamp false false 0 false; unfold State.fire; rw [h]
@[simp] theorem State.fire_mtr (e code : Nat) (data : BitVec 32) : (s.fire e code data).mtr = s.mtr := by obtain ⟨_, _, _, _, _, h, _⟩ := s.fireFull_of e code data s.stamp false false 0 false; unfold State.fire; rw [h]
@[simp] theorem State.fire_cf (e code : Nat) (data : BitVec 32) : (s.fire e code data).cf = s.cf := by obtain ⟨_, _, _, _, _, h, _⟩ := s.fireFull_of e code data s.stamp false false 0 false; unfold State.fire; rw [h]
@[simp] theorem State.fire_led (e code : Nat) (data : BitVec 32) : (s.fire e code data).led = s.led := by obtain ⟨_, _, _, _, _, h, _⟩ := s.fireFull_of e code data s.stamp false false 0 false; unfold State.fire; rw [h]
@[simp] theorem State.fire_book (e code : Nat) (data : BitVec 32) : (s.fire e code data).book = s.book := by obtain ⟨_, _, _, _, _, h, _⟩ := s.fireFull_of e code data s.stamp false false 0 false; unfold State.fire; rw [h]
@[simp] theorem State.fire_tar (e code : Nat) (data : BitVec 32) : (s.fire e code data).tar = s.tar := by obtain ⟨_, _, _, _, _, h, _⟩ := s.fireFull_of e code data s.stamp false false 0 false; unfold State.fire; rw [h]
@[simp] theorem State.fire_sign (e code : Nat) (data : BitVec 32) : (s.fire e code data).sign = s.sign := by obtain ⟨_, _, _, _, _, h, _⟩ := s.fireFull_of e code data s.stamp false false 0 false; unfold State.fire; rw [h]
@[simp] theorem State.fire_slu (e code : Nat) (data : BitVec 32) : (s.fire e code data).slu = s.slu := by obtain ⟨_, _, _, _, _, h, _⟩ := s.fireFull_of e code data s.stamp false false 0 false; unfold State.fire; rw [h]
@[simp] theorem State.fire_out (e code : Nat) (data : BitVec 32) : (s.fire e code data).out = s.out := by obtain ⟨_, _, _, _, _, h, _⟩ := s.fireFull_of e code data s.stamp false false 0 false; unfold State.fire; rw [h]
@[simp] theorem State.fire_par (e code : Nat) (data : BitVec 32) : (s.fire e code data).par = s.par := by obtain ⟨_, _, _, _, _, h, _⟩ := s.fireFull_of e code data s.stamp false false 0 false; unfold State.fire; rw [h]
@[simp] theorem State.fire_bc (e code : Nat) (data : BitVec 32) : (s.fire e code data).bc = s.bc := by obtain ⟨_, _, _, _, _, h, _⟩ := s.fireFull_of e code data s.stamp false false 0 false; unfold State.fire; rw [h]
@[simp] theorem State.fire_pq (e code : Nat) (data : BitVec 32) : (s.fire e code data).pq = s.pq := by obtain ⟨_, _, _, _, _, h, _⟩ := s.fireFull_of e code data s.stamp false false 0 false; unfold State.fire; rw [h]
@[simp] theorem State.fire_plc (e code : Nat) (data : BitVec 32) : (s.fire e code data).plc = s.plc := by obtain ⟨_, _, _, _, _, h, _⟩ := s.fireFull_of e code data s.stamp false false 0 false; unfold State.fire; rw [h]
@[simp] theorem State.fire_tdm (e code : Nat) (data : BitVec 32) : (s.fire e code data).tdm = s.tdm := by obtain ⟨_, _, _, _, _, h, _⟩ := s.fireFull_of e code data s.stamp false false 0 false; unfold State.fire; rw [h]
@[simp] theorem State.fire_flash (e code : Nat) (data : BitVec 32) : (s.fire e code data).flash = s.flash := by obtain ⟨_, _, _, _, _, h, _⟩ := s.fireFull_of e code data s.stamp false false 0 false; unfold State.fire; rw [h]
@[simp] theorem State.fire_dbl (e code : Nat) (data : BitVec 32) : (s.fire e code data).dbl = s.dbl := by obtain ⟨_, _, _, _, _, h, _⟩ := s.fireFull_of e code data s.stamp false false 0 false; unfold State.fire; rw [h]
@[simp] theorem State.fire_guard (e code : Nat) (data : BitVec 32) : (s.fire e code data).guard = s.guard := by obtain ⟨_, _, _, _, _, h, _⟩ := s.fireFull_of e code data s.stamp false false 0 false; unfold State.fire; rw [h]
@[simp] theorem State.fire_tmp (e code : Nat) (data : BitVec 32) : (s.fire e code data).tmp = s.tmp := by obtain ⟨_, _, _, _, _, h, _⟩ := s.fireFull_of e code data s.stamp false false 0 false; unfold State.fire; rw [h]
@[simp] theorem State.fire_mem (e code : Nat) (data : BitVec 32) : (s.fire e code data).mem = s.mem := by obtain ⟨_, _, _, _, _, h, _⟩ := s.fireFull_of e code data s.stamp false false 0 false; unfold State.fire; rw [h]
@[simp] theorem State.fire_closing (e code : Nat) (data : BitVec 32) : (s.fire e code data).closing = s.closing := by obtain ⟨_, _, _, _, _, h, _⟩ := s.fireFull_of e code data s.stamp false false 0 false; unfold State.fire; rw [h]
@[simp] theorem State.fire_older (e code : Nat) (data : BitVec 32) : (s.fire e code data).older = s.older := by obtain ⟨_, _, _, _, _, h, _⟩ := s.fireFull_of e code data s.stamp false false 0 false; unfold State.fire; rw [h]
@[simp] theorem State.fire_cut (e code : Nat) (data : BitVec 32) : (s.fire e code data).cut = s.cut := by obtain ⟨_, _, _, _, _, h, _⟩ := s.fireFull_of e code data s.stamp false false 0 false; unfold State.fire; rw [h]
@[simp] theorem State.fire_tripKick (e code : Nat) (data : BitVec 32) : (s.fire e code data).tripKick = s.tripKick := by obtain ⟨_, _, _, _, _, h, _⟩ := s.fireFull_of e code data s.stamp false false 0 false; unfold State.fire; rw [h]
@[simp] theorem State.fire_irqKick (e code : Nat) (data : BitVec 32) : (s.fire e code data).irqKick = s.irqKick := by obtain ⟨_, _, _, _, _, h, _⟩ := s.fireFull_of e code data s.stamp false false 0 false; unfold State.fire; rw [h]
@[simp] theorem State.fire_fresh (e code : Nat) (data : BitVec 32) : (s.fire e code data).fresh = s.fresh := by obtain ⟨_, _, _, _, _, h, _⟩ := s.fireFull_of e code data s.stamp false false 0 false; unfold State.fire; rw [h]
@[simp] theorem State.fire_pending (e code : Nat) (data : BitVec 32) : (s.fire e code data).pending = s.pending := by obtain ⟨_, _, _, _, _, h, _⟩ := s.fireFull_of e code data s.stamp false false 0 false; unfold State.fire; rw [h]
@[simp] theorem State.fire_doms (e code : Nat) (data : BitVec 32) : (s.fire e code data).pwr.doms = s.pwr.doms := by obtain ⟨_, _, _, _, _, h, hd⟩ := s.fireFull_of e code data s.stamp false false 0 false; unfold State.fire; rw [h]; exact hd

/-! ### State.fireAt -/

@[simp] theorem State.fireAt_time (e code : Nat) (data : BitVec 32) (stamp : Nat) : (s.fireAt e code data stamp).time = s.time := by obtain ⟨_, _, _, _, _, h, _⟩ := s.fireFull_of e code data stamp false false 0 false; unfold State.fireAt; rw [h]
@[simp] theorem State.fireAt_fab (e code : Nat) (data : BitVec 32) (stamp : Nat) : (s.fireAt e code data stamp).fab = s.fab := by obtain ⟨_, _, _, _, _, h, _⟩ := s.fireFull_of e code data stamp false false 0 false; unfold State.fireAt; rw [h]
@[simp] theorem State.fireAt_whl (e code : Nat) (data : BitVec 32) (stamp : Nat) : (s.fireAt e code data stamp).whl = s.whl := by obtain ⟨_, _, _, _, _, h, _⟩ := s.fireFull_of e code data stamp false false 0 false; unfold State.fireAt; rw [h]
@[simp] theorem State.fireAt_relief (e code : Nat) (data : BitVec 32) (stamp : Nat) : (s.fireAt e code data stamp).relief = s.relief := by obtain ⟨_, _, _, _, _, h, _⟩ := s.fireFull_of e code data stamp false false 0 false; unfold State.fireAt; rw [h]
@[simp] theorem State.fireAt_chan (e code : Nat) (data : BitVec 32) (stamp : Nat) : (s.fireAt e code data stamp).chan = s.chan := by obtain ⟨_, _, _, _, _, h, _⟩ := s.fireFull_of e code data stamp false false 0 false; unfold State.fireAt; rw [h]
@[simp] theorem State.fireAt_refs (e code : Nat) (data : BitVec 32) (stamp : Nat) : (s.fireAt e code data stamp).refs = s.refs := by obtain ⟨_, _, _, _, _, h, _⟩ := s.fireFull_of e code data stamp false false 0 false; unfold State.fireAt; rw [h]
@[simp] theorem State.fireAt_seals (e code : Nat) (data : BitVec 32) (stamp : Nat) : (s.fireAt e code data stamp).seals = s.seals := by obtain ⟨_, _, _, _, _, h, _⟩ := s.fireFull_of e code data stamp false false 0 false; unfold State.fireAt; rw [h]
@[simp] theorem State.fireAt_mtr (e code : Nat) (data : BitVec 32) (stamp : Nat) : (s.fireAt e code data stamp).mtr = s.mtr := by obtain ⟨_, _, _, _, _, h, _⟩ := s.fireFull_of e code data stamp false false 0 false; unfold State.fireAt; rw [h]
@[simp] theorem State.fireAt_cf (e code : Nat) (data : BitVec 32) (stamp : Nat) : (s.fireAt e code data stamp).cf = s.cf := by obtain ⟨_, _, _, _, _, h, _⟩ := s.fireFull_of e code data stamp false false 0 false; unfold State.fireAt; rw [h]
@[simp] theorem State.fireAt_led (e code : Nat) (data : BitVec 32) (stamp : Nat) : (s.fireAt e code data stamp).led = s.led := by obtain ⟨_, _, _, _, _, h, _⟩ := s.fireFull_of e code data stamp false false 0 false; unfold State.fireAt; rw [h]
@[simp] theorem State.fireAt_book (e code : Nat) (data : BitVec 32) (stamp : Nat) : (s.fireAt e code data stamp).book = s.book := by obtain ⟨_, _, _, _, _, h, _⟩ := s.fireFull_of e code data stamp false false 0 false; unfold State.fireAt; rw [h]
@[simp] theorem State.fireAt_tar (e code : Nat) (data : BitVec 32) (stamp : Nat) : (s.fireAt e code data stamp).tar = s.tar := by obtain ⟨_, _, _, _, _, h, _⟩ := s.fireFull_of e code data stamp false false 0 false; unfold State.fireAt; rw [h]
@[simp] theorem State.fireAt_sign (e code : Nat) (data : BitVec 32) (stamp : Nat) : (s.fireAt e code data stamp).sign = s.sign := by obtain ⟨_, _, _, _, _, h, _⟩ := s.fireFull_of e code data stamp false false 0 false; unfold State.fireAt; rw [h]
@[simp] theorem State.fireAt_slu (e code : Nat) (data : BitVec 32) (stamp : Nat) : (s.fireAt e code data stamp).slu = s.slu := by obtain ⟨_, _, _, _, _, h, _⟩ := s.fireFull_of e code data stamp false false 0 false; unfold State.fireAt; rw [h]
@[simp] theorem State.fireAt_out (e code : Nat) (data : BitVec 32) (stamp : Nat) : (s.fireAt e code data stamp).out = s.out := by obtain ⟨_, _, _, _, _, h, _⟩ := s.fireFull_of e code data stamp false false 0 false; unfold State.fireAt; rw [h]
@[simp] theorem State.fireAt_par (e code : Nat) (data : BitVec 32) (stamp : Nat) : (s.fireAt e code data stamp).par = s.par := by obtain ⟨_, _, _, _, _, h, _⟩ := s.fireFull_of e code data stamp false false 0 false; unfold State.fireAt; rw [h]
@[simp] theorem State.fireAt_bc (e code : Nat) (data : BitVec 32) (stamp : Nat) : (s.fireAt e code data stamp).bc = s.bc := by obtain ⟨_, _, _, _, _, h, _⟩ := s.fireFull_of e code data stamp false false 0 false; unfold State.fireAt; rw [h]
@[simp] theorem State.fireAt_pq (e code : Nat) (data : BitVec 32) (stamp : Nat) : (s.fireAt e code data stamp).pq = s.pq := by obtain ⟨_, _, _, _, _, h, _⟩ := s.fireFull_of e code data stamp false false 0 false; unfold State.fireAt; rw [h]
@[simp] theorem State.fireAt_plc (e code : Nat) (data : BitVec 32) (stamp : Nat) : (s.fireAt e code data stamp).plc = s.plc := by obtain ⟨_, _, _, _, _, h, _⟩ := s.fireFull_of e code data stamp false false 0 false; unfold State.fireAt; rw [h]
@[simp] theorem State.fireAt_tdm (e code : Nat) (data : BitVec 32) (stamp : Nat) : (s.fireAt e code data stamp).tdm = s.tdm := by obtain ⟨_, _, _, _, _, h, _⟩ := s.fireFull_of e code data stamp false false 0 false; unfold State.fireAt; rw [h]
@[simp] theorem State.fireAt_flash (e code : Nat) (data : BitVec 32) (stamp : Nat) : (s.fireAt e code data stamp).flash = s.flash := by obtain ⟨_, _, _, _, _, h, _⟩ := s.fireFull_of e code data stamp false false 0 false; unfold State.fireAt; rw [h]
@[simp] theorem State.fireAt_dbl (e code : Nat) (data : BitVec 32) (stamp : Nat) : (s.fireAt e code data stamp).dbl = s.dbl := by obtain ⟨_, _, _, _, _, h, _⟩ := s.fireFull_of e code data stamp false false 0 false; unfold State.fireAt; rw [h]
@[simp] theorem State.fireAt_guard (e code : Nat) (data : BitVec 32) (stamp : Nat) : (s.fireAt e code data stamp).guard = s.guard := by obtain ⟨_, _, _, _, _, h, _⟩ := s.fireFull_of e code data stamp false false 0 false; unfold State.fireAt; rw [h]
@[simp] theorem State.fireAt_tmp (e code : Nat) (data : BitVec 32) (stamp : Nat) : (s.fireAt e code data stamp).tmp = s.tmp := by obtain ⟨_, _, _, _, _, h, _⟩ := s.fireFull_of e code data stamp false false 0 false; unfold State.fireAt; rw [h]
@[simp] theorem State.fireAt_mem (e code : Nat) (data : BitVec 32) (stamp : Nat) : (s.fireAt e code data stamp).mem = s.mem := by obtain ⟨_, _, _, _, _, h, _⟩ := s.fireFull_of e code data stamp false false 0 false; unfold State.fireAt; rw [h]
@[simp] theorem State.fireAt_closing (e code : Nat) (data : BitVec 32) (stamp : Nat) : (s.fireAt e code data stamp).closing = s.closing := by obtain ⟨_, _, _, _, _, h, _⟩ := s.fireFull_of e code data stamp false false 0 false; unfold State.fireAt; rw [h]
@[simp] theorem State.fireAt_older (e code : Nat) (data : BitVec 32) (stamp : Nat) : (s.fireAt e code data stamp).older = s.older := by obtain ⟨_, _, _, _, _, h, _⟩ := s.fireFull_of e code data stamp false false 0 false; unfold State.fireAt; rw [h]
@[simp] theorem State.fireAt_cut (e code : Nat) (data : BitVec 32) (stamp : Nat) : (s.fireAt e code data stamp).cut = s.cut := by obtain ⟨_, _, _, _, _, h, _⟩ := s.fireFull_of e code data stamp false false 0 false; unfold State.fireAt; rw [h]
@[simp] theorem State.fireAt_tripKick (e code : Nat) (data : BitVec 32) (stamp : Nat) : (s.fireAt e code data stamp).tripKick = s.tripKick := by obtain ⟨_, _, _, _, _, h, _⟩ := s.fireFull_of e code data stamp false false 0 false; unfold State.fireAt; rw [h]
@[simp] theorem State.fireAt_irqKick (e code : Nat) (data : BitVec 32) (stamp : Nat) : (s.fireAt e code data stamp).irqKick = s.irqKick := by obtain ⟨_, _, _, _, _, h, _⟩ := s.fireFull_of e code data stamp false false 0 false; unfold State.fireAt; rw [h]
@[simp] theorem State.fireAt_fresh (e code : Nat) (data : BitVec 32) (stamp : Nat) : (s.fireAt e code data stamp).fresh = s.fresh := by obtain ⟨_, _, _, _, _, h, _⟩ := s.fireFull_of e code data stamp false false 0 false; unfold State.fireAt; rw [h]
@[simp] theorem State.fireAt_pending (e code : Nat) (data : BitVec 32) (stamp : Nat) : (s.fireAt e code data stamp).pending = s.pending := by obtain ⟨_, _, _, _, _, h, _⟩ := s.fireFull_of e code data stamp false false 0 false; unfold State.fireAt; rw [h]
@[simp] theorem State.fireAt_doms (e code : Nat) (data : BitVec 32) (stamp : Nat) : (s.fireAt e code data stamp).pwr.doms = s.pwr.doms := by obtain ⟨_, _, _, _, _, h, hd⟩ := s.fireFull_of e code data stamp false false 0 false; unfold State.fireAt; rw [h]; exact hd

/-! ### State.fireFull -/

@[simp] theorem State.fireFull_time (e code : Nat) (data : BitVec 32) (stamp : Nat) (latched unknown : Bool) (detail : BitVec 64) (closes : Bool) : (s.fireFull e code data stamp latched unknown detail closes).time = s.time := by obtain ⟨_, _, _, _, _, h, _⟩ := s.fireFull_of e code data stamp latched unknown detail closes; rw [h]
@[simp] theorem State.fireFull_fab (e code : Nat) (data : BitVec 32) (stamp : Nat) (latched unknown : Bool) (detail : BitVec 64) (closes : Bool) : (s.fireFull e code data stamp latched unknown detail closes).fab = s.fab := by obtain ⟨_, _, _, _, _, h, _⟩ := s.fireFull_of e code data stamp latched unknown detail closes; rw [h]
@[simp] theorem State.fireFull_whl (e code : Nat) (data : BitVec 32) (stamp : Nat) (latched unknown : Bool) (detail : BitVec 64) (closes : Bool) : (s.fireFull e code data stamp latched unknown detail closes).whl = s.whl := by obtain ⟨_, _, _, _, _, h, _⟩ := s.fireFull_of e code data stamp latched unknown detail closes; rw [h]
@[simp] theorem State.fireFull_relief (e code : Nat) (data : BitVec 32) (stamp : Nat) (latched unknown : Bool) (detail : BitVec 64) (closes : Bool) : (s.fireFull e code data stamp latched unknown detail closes).relief = s.relief := by obtain ⟨_, _, _, _, _, h, _⟩ := s.fireFull_of e code data stamp latched unknown detail closes; rw [h]
@[simp] theorem State.fireFull_chan (e code : Nat) (data : BitVec 32) (stamp : Nat) (latched unknown : Bool) (detail : BitVec 64) (closes : Bool) : (s.fireFull e code data stamp latched unknown detail closes).chan = s.chan := by obtain ⟨_, _, _, _, _, h, _⟩ := s.fireFull_of e code data stamp latched unknown detail closes; rw [h]
@[simp] theorem State.fireFull_refs (e code : Nat) (data : BitVec 32) (stamp : Nat) (latched unknown : Bool) (detail : BitVec 64) (closes : Bool) : (s.fireFull e code data stamp latched unknown detail closes).refs = s.refs := by obtain ⟨_, _, _, _, _, h, _⟩ := s.fireFull_of e code data stamp latched unknown detail closes; rw [h]
@[simp] theorem State.fireFull_seals (e code : Nat) (data : BitVec 32) (stamp : Nat) (latched unknown : Bool) (detail : BitVec 64) (closes : Bool) : (s.fireFull e code data stamp latched unknown detail closes).seals = s.seals := by obtain ⟨_, _, _, _, _, h, _⟩ := s.fireFull_of e code data stamp latched unknown detail closes; rw [h]
@[simp] theorem State.fireFull_mtr (e code : Nat) (data : BitVec 32) (stamp : Nat) (latched unknown : Bool) (detail : BitVec 64) (closes : Bool) : (s.fireFull e code data stamp latched unknown detail closes).mtr = s.mtr := by obtain ⟨_, _, _, _, _, h, _⟩ := s.fireFull_of e code data stamp latched unknown detail closes; rw [h]
@[simp] theorem State.fireFull_cf (e code : Nat) (data : BitVec 32) (stamp : Nat) (latched unknown : Bool) (detail : BitVec 64) (closes : Bool) : (s.fireFull e code data stamp latched unknown detail closes).cf = s.cf := by obtain ⟨_, _, _, _, _, h, _⟩ := s.fireFull_of e code data stamp latched unknown detail closes; rw [h]
@[simp] theorem State.fireFull_led (e code : Nat) (data : BitVec 32) (stamp : Nat) (latched unknown : Bool) (detail : BitVec 64) (closes : Bool) : (s.fireFull e code data stamp latched unknown detail closes).led = s.led := by obtain ⟨_, _, _, _, _, h, _⟩ := s.fireFull_of e code data stamp latched unknown detail closes; rw [h]
@[simp] theorem State.fireFull_book (e code : Nat) (data : BitVec 32) (stamp : Nat) (latched unknown : Bool) (detail : BitVec 64) (closes : Bool) : (s.fireFull e code data stamp latched unknown detail closes).book = s.book := by obtain ⟨_, _, _, _, _, h, _⟩ := s.fireFull_of e code data stamp latched unknown detail closes; rw [h]
@[simp] theorem State.fireFull_tar (e code : Nat) (data : BitVec 32) (stamp : Nat) (latched unknown : Bool) (detail : BitVec 64) (closes : Bool) : (s.fireFull e code data stamp latched unknown detail closes).tar = s.tar := by obtain ⟨_, _, _, _, _, h, _⟩ := s.fireFull_of e code data stamp latched unknown detail closes; rw [h]
@[simp] theorem State.fireFull_sign (e code : Nat) (data : BitVec 32) (stamp : Nat) (latched unknown : Bool) (detail : BitVec 64) (closes : Bool) : (s.fireFull e code data stamp latched unknown detail closes).sign = s.sign := by obtain ⟨_, _, _, _, _, h, _⟩ := s.fireFull_of e code data stamp latched unknown detail closes; rw [h]
@[simp] theorem State.fireFull_slu (e code : Nat) (data : BitVec 32) (stamp : Nat) (latched unknown : Bool) (detail : BitVec 64) (closes : Bool) : (s.fireFull e code data stamp latched unknown detail closes).slu = s.slu := by obtain ⟨_, _, _, _, _, h, _⟩ := s.fireFull_of e code data stamp latched unknown detail closes; rw [h]
@[simp] theorem State.fireFull_out (e code : Nat) (data : BitVec 32) (stamp : Nat) (latched unknown : Bool) (detail : BitVec 64) (closes : Bool) : (s.fireFull e code data stamp latched unknown detail closes).out = s.out := by obtain ⟨_, _, _, _, _, h, _⟩ := s.fireFull_of e code data stamp latched unknown detail closes; rw [h]
@[simp] theorem State.fireFull_par (e code : Nat) (data : BitVec 32) (stamp : Nat) (latched unknown : Bool) (detail : BitVec 64) (closes : Bool) : (s.fireFull e code data stamp latched unknown detail closes).par = s.par := by obtain ⟨_, _, _, _, _, h, _⟩ := s.fireFull_of e code data stamp latched unknown detail closes; rw [h]
@[simp] theorem State.fireFull_bc (e code : Nat) (data : BitVec 32) (stamp : Nat) (latched unknown : Bool) (detail : BitVec 64) (closes : Bool) : (s.fireFull e code data stamp latched unknown detail closes).bc = s.bc := by obtain ⟨_, _, _, _, _, h, _⟩ := s.fireFull_of e code data stamp latched unknown detail closes; rw [h]
@[simp] theorem State.fireFull_pq (e code : Nat) (data : BitVec 32) (stamp : Nat) (latched unknown : Bool) (detail : BitVec 64) (closes : Bool) : (s.fireFull e code data stamp latched unknown detail closes).pq = s.pq := by obtain ⟨_, _, _, _, _, h, _⟩ := s.fireFull_of e code data stamp latched unknown detail closes; rw [h]
@[simp] theorem State.fireFull_plc (e code : Nat) (data : BitVec 32) (stamp : Nat) (latched unknown : Bool) (detail : BitVec 64) (closes : Bool) : (s.fireFull e code data stamp latched unknown detail closes).plc = s.plc := by obtain ⟨_, _, _, _, _, h, _⟩ := s.fireFull_of e code data stamp latched unknown detail closes; rw [h]
@[simp] theorem State.fireFull_tdm (e code : Nat) (data : BitVec 32) (stamp : Nat) (latched unknown : Bool) (detail : BitVec 64) (closes : Bool) : (s.fireFull e code data stamp latched unknown detail closes).tdm = s.tdm := by obtain ⟨_, _, _, _, _, h, _⟩ := s.fireFull_of e code data stamp latched unknown detail closes; rw [h]
@[simp] theorem State.fireFull_flash (e code : Nat) (data : BitVec 32) (stamp : Nat) (latched unknown : Bool) (detail : BitVec 64) (closes : Bool) : (s.fireFull e code data stamp latched unknown detail closes).flash = s.flash := by obtain ⟨_, _, _, _, _, h, _⟩ := s.fireFull_of e code data stamp latched unknown detail closes; rw [h]
@[simp] theorem State.fireFull_dbl (e code : Nat) (data : BitVec 32) (stamp : Nat) (latched unknown : Bool) (detail : BitVec 64) (closes : Bool) : (s.fireFull e code data stamp latched unknown detail closes).dbl = s.dbl := by obtain ⟨_, _, _, _, _, h, _⟩ := s.fireFull_of e code data stamp latched unknown detail closes; rw [h]
@[simp] theorem State.fireFull_guard (e code : Nat) (data : BitVec 32) (stamp : Nat) (latched unknown : Bool) (detail : BitVec 64) (closes : Bool) : (s.fireFull e code data stamp latched unknown detail closes).guard = s.guard := by obtain ⟨_, _, _, _, _, h, _⟩ := s.fireFull_of e code data stamp latched unknown detail closes; rw [h]
@[simp] theorem State.fireFull_tmp (e code : Nat) (data : BitVec 32) (stamp : Nat) (latched unknown : Bool) (detail : BitVec 64) (closes : Bool) : (s.fireFull e code data stamp latched unknown detail closes).tmp = s.tmp := by obtain ⟨_, _, _, _, _, h, _⟩ := s.fireFull_of e code data stamp latched unknown detail closes; rw [h]
@[simp] theorem State.fireFull_mem (e code : Nat) (data : BitVec 32) (stamp : Nat) (latched unknown : Bool) (detail : BitVec 64) (closes : Bool) : (s.fireFull e code data stamp latched unknown detail closes).mem = s.mem := by obtain ⟨_, _, _, _, _, h, _⟩ := s.fireFull_of e code data stamp latched unknown detail closes; rw [h]
@[simp] theorem State.fireFull_closing (e code : Nat) (data : BitVec 32) (stamp : Nat) (latched unknown : Bool) (detail : BitVec 64) (closes : Bool) : (s.fireFull e code data stamp latched unknown detail closes).closing = s.closing := by obtain ⟨_, _, _, _, _, h, _⟩ := s.fireFull_of e code data stamp latched unknown detail closes; rw [h]
@[simp] theorem State.fireFull_older (e code : Nat) (data : BitVec 32) (stamp : Nat) (latched unknown : Bool) (detail : BitVec 64) (closes : Bool) : (s.fireFull e code data stamp latched unknown detail closes).older = s.older := by obtain ⟨_, _, _, _, _, h, _⟩ := s.fireFull_of e code data stamp latched unknown detail closes; rw [h]
@[simp] theorem State.fireFull_cut (e code : Nat) (data : BitVec 32) (stamp : Nat) (latched unknown : Bool) (detail : BitVec 64) (closes : Bool) : (s.fireFull e code data stamp latched unknown detail closes).cut = s.cut := by obtain ⟨_, _, _, _, _, h, _⟩ := s.fireFull_of e code data stamp latched unknown detail closes; rw [h]
@[simp] theorem State.fireFull_tripKick (e code : Nat) (data : BitVec 32) (stamp : Nat) (latched unknown : Bool) (detail : BitVec 64) (closes : Bool) : (s.fireFull e code data stamp latched unknown detail closes).tripKick = s.tripKick := by obtain ⟨_, _, _, _, _, h, _⟩ := s.fireFull_of e code data stamp latched unknown detail closes; rw [h]
@[simp] theorem State.fireFull_irqKick (e code : Nat) (data : BitVec 32) (stamp : Nat) (latched unknown : Bool) (detail : BitVec 64) (closes : Bool) : (s.fireFull e code data stamp latched unknown detail closes).irqKick = s.irqKick := by obtain ⟨_, _, _, _, _, h, _⟩ := s.fireFull_of e code data stamp latched unknown detail closes; rw [h]
@[simp] theorem State.fireFull_fresh (e code : Nat) (data : BitVec 32) (stamp : Nat) (latched unknown : Bool) (detail : BitVec 64) (closes : Bool) : (s.fireFull e code data stamp latched unknown detail closes).fresh = s.fresh := by obtain ⟨_, _, _, _, _, h, _⟩ := s.fireFull_of e code data stamp latched unknown detail closes; rw [h]
@[simp] theorem State.fireFull_pending (e code : Nat) (data : BitVec 32) (stamp : Nat) (latched unknown : Bool) (detail : BitVec 64) (closes : Bool) : (s.fireFull e code data stamp latched unknown detail closes).pending = s.pending := by obtain ⟨_, _, _, _, _, h, _⟩ := s.fireFull_of e code data stamp latched unknown detail closes; rw [h]
@[simp] theorem State.fireFull_doms (e code : Nat) (data : BitVec 32) (stamp : Nat) (latched unknown : Bool) (detail : BitVec 64) (closes : Bool) : (s.fireFull e code data stamp latched unknown detail closes).pwr.doms = s.pwr.doms := by obtain ⟨_, _, _, _, _, h, hd⟩ := s.fireFull_of e code data stamp latched unknown detail closes; rw [h]; exact hd

/-! ### State.record -/

@[simp] theorem State.record_time (n : LogEntry) (closes : Bool) : (s.record n closes).time = s.time := by obtain ⟨_, _, _, _, _, h, _⟩ := s.record_of n closes; rw [h]
@[simp] theorem State.record_fab (n : LogEntry) (closes : Bool) : (s.record n closes).fab = s.fab := by obtain ⟨_, _, _, _, _, h, _⟩ := s.record_of n closes; rw [h]
@[simp] theorem State.record_whl (n : LogEntry) (closes : Bool) : (s.record n closes).whl = s.whl := by obtain ⟨_, _, _, _, _, h, _⟩ := s.record_of n closes; rw [h]
@[simp] theorem State.record_relief (n : LogEntry) (closes : Bool) : (s.record n closes).relief = s.relief := by obtain ⟨_, _, _, _, _, h, _⟩ := s.record_of n closes; rw [h]
@[simp] theorem State.record_chan (n : LogEntry) (closes : Bool) : (s.record n closes).chan = s.chan := by obtain ⟨_, _, _, _, _, h, _⟩ := s.record_of n closes; rw [h]
@[simp] theorem State.record_refs (n : LogEntry) (closes : Bool) : (s.record n closes).refs = s.refs := by obtain ⟨_, _, _, _, _, h, _⟩ := s.record_of n closes; rw [h]
@[simp] theorem State.record_seals (n : LogEntry) (closes : Bool) : (s.record n closes).seals = s.seals := by obtain ⟨_, _, _, _, _, h, _⟩ := s.record_of n closes; rw [h]
@[simp] theorem State.record_mtr (n : LogEntry) (closes : Bool) : (s.record n closes).mtr = s.mtr := by obtain ⟨_, _, _, _, _, h, _⟩ := s.record_of n closes; rw [h]
@[simp] theorem State.record_cf (n : LogEntry) (closes : Bool) : (s.record n closes).cf = s.cf := by obtain ⟨_, _, _, _, _, h, _⟩ := s.record_of n closes; rw [h]
@[simp] theorem State.record_led (n : LogEntry) (closes : Bool) : (s.record n closes).led = s.led := by obtain ⟨_, _, _, _, _, h, _⟩ := s.record_of n closes; rw [h]
@[simp] theorem State.record_book (n : LogEntry) (closes : Bool) : (s.record n closes).book = s.book := by obtain ⟨_, _, _, _, _, h, _⟩ := s.record_of n closes; rw [h]
@[simp] theorem State.record_tar (n : LogEntry) (closes : Bool) : (s.record n closes).tar = s.tar := by obtain ⟨_, _, _, _, _, h, _⟩ := s.record_of n closes; rw [h]
@[simp] theorem State.record_sign (n : LogEntry) (closes : Bool) : (s.record n closes).sign = s.sign := by obtain ⟨_, _, _, _, _, h, _⟩ := s.record_of n closes; rw [h]
@[simp] theorem State.record_slu (n : LogEntry) (closes : Bool) : (s.record n closes).slu = s.slu := by obtain ⟨_, _, _, _, _, h, _⟩ := s.record_of n closes; rw [h]
@[simp] theorem State.record_out (n : LogEntry) (closes : Bool) : (s.record n closes).out = s.out := by obtain ⟨_, _, _, _, _, h, _⟩ := s.record_of n closes; rw [h]
@[simp] theorem State.record_par (n : LogEntry) (closes : Bool) : (s.record n closes).par = s.par := by obtain ⟨_, _, _, _, _, h, _⟩ := s.record_of n closes; rw [h]
@[simp] theorem State.record_bc (n : LogEntry) (closes : Bool) : (s.record n closes).bc = s.bc := by obtain ⟨_, _, _, _, _, h, _⟩ := s.record_of n closes; rw [h]
@[simp] theorem State.record_pq (n : LogEntry) (closes : Bool) : (s.record n closes).pq = s.pq := by obtain ⟨_, _, _, _, _, h, _⟩ := s.record_of n closes; rw [h]
@[simp] theorem State.record_plc (n : LogEntry) (closes : Bool) : (s.record n closes).plc = s.plc := by obtain ⟨_, _, _, _, _, h, _⟩ := s.record_of n closes; rw [h]
@[simp] theorem State.record_tdm (n : LogEntry) (closes : Bool) : (s.record n closes).tdm = s.tdm := by obtain ⟨_, _, _, _, _, h, _⟩ := s.record_of n closes; rw [h]
@[simp] theorem State.record_flash (n : LogEntry) (closes : Bool) : (s.record n closes).flash = s.flash := by obtain ⟨_, _, _, _, _, h, _⟩ := s.record_of n closes; rw [h]
@[simp] theorem State.record_dbl (n : LogEntry) (closes : Bool) : (s.record n closes).dbl = s.dbl := by obtain ⟨_, _, _, _, _, h, _⟩ := s.record_of n closes; rw [h]
@[simp] theorem State.record_guard (n : LogEntry) (closes : Bool) : (s.record n closes).guard = s.guard := by obtain ⟨_, _, _, _, _, h, _⟩ := s.record_of n closes; rw [h]
@[simp] theorem State.record_tmp (n : LogEntry) (closes : Bool) : (s.record n closes).tmp = s.tmp := by obtain ⟨_, _, _, _, _, h, _⟩ := s.record_of n closes; rw [h]
@[simp] theorem State.record_mem (n : LogEntry) (closes : Bool) : (s.record n closes).mem = s.mem := by obtain ⟨_, _, _, _, _, h, _⟩ := s.record_of n closes; rw [h]
@[simp] theorem State.record_closing (n : LogEntry) (closes : Bool) : (s.record n closes).closing = s.closing := by obtain ⟨_, _, _, _, _, h, _⟩ := s.record_of n closes; rw [h]
@[simp] theorem State.record_older (n : LogEntry) (closes : Bool) : (s.record n closes).older = s.older := by obtain ⟨_, _, _, _, _, h, _⟩ := s.record_of n closes; rw [h]
@[simp] theorem State.record_cut (n : LogEntry) (closes : Bool) : (s.record n closes).cut = s.cut := by obtain ⟨_, _, _, _, _, h, _⟩ := s.record_of n closes; rw [h]
@[simp] theorem State.record_tripKick (n : LogEntry) (closes : Bool) : (s.record n closes).tripKick = s.tripKick := by obtain ⟨_, _, _, _, _, h, _⟩ := s.record_of n closes; rw [h]
@[simp] theorem State.record_irqKick (n : LogEntry) (closes : Bool) : (s.record n closes).irqKick = s.irqKick := by obtain ⟨_, _, _, _, _, h, _⟩ := s.record_of n closes; rw [h]
@[simp] theorem State.record_fresh (n : LogEntry) (closes : Bool) : (s.record n closes).fresh = s.fresh := by obtain ⟨_, _, _, _, _, h, _⟩ := s.record_of n closes; rw [h]
@[simp] theorem State.record_pending (n : LogEntry) (closes : Bool) : (s.record n closes).pending = s.pending := by obtain ⟨_, _, _, _, _, h, _⟩ := s.record_of n closes; rw [h]
@[simp] theorem State.record_doms (n : LogEntry) (closes : Bool) : (s.record n closes).pwr.doms = s.pwr.doms := by obtain ⟨_, _, _, _, _, h, hd⟩ := s.record_of n closes; rw [h]; exact hd

/-! ### State.signal -/

@[simp] theorem State.signal_time (e code : Nat) (data : BitVec 32) (stamp : Nat) : (s.signal e code data stamp).time = s.time := by obtain ⟨_, _, _, _, h, _⟩ := s.signal_of e code data stamp; rw [h]
@[simp] theorem State.signal_fab (e code : Nat) (data : BitVec 32) (stamp : Nat) : (s.signal e code data stamp).fab = s.fab := by obtain ⟨_, _, _, _, h, _⟩ := s.signal_of e code data stamp; rw [h]
@[simp] theorem State.signal_whl (e code : Nat) (data : BitVec 32) (stamp : Nat) : (s.signal e code data stamp).whl = s.whl := by obtain ⟨_, _, _, _, h, _⟩ := s.signal_of e code data stamp; rw [h]
@[simp] theorem State.signal_relief (e code : Nat) (data : BitVec 32) (stamp : Nat) : (s.signal e code data stamp).relief = s.relief := by obtain ⟨_, _, _, _, h, _⟩ := s.signal_of e code data stamp; rw [h]
@[simp] theorem State.signal_chan (e code : Nat) (data : BitVec 32) (stamp : Nat) : (s.signal e code data stamp).chan = s.chan := by obtain ⟨_, _, _, _, h, _⟩ := s.signal_of e code data stamp; rw [h]
@[simp] theorem State.signal_refs (e code : Nat) (data : BitVec 32) (stamp : Nat) : (s.signal e code data stamp).refs = s.refs := by obtain ⟨_, _, _, _, h, _⟩ := s.signal_of e code data stamp; rw [h]
@[simp] theorem State.signal_seals (e code : Nat) (data : BitVec 32) (stamp : Nat) : (s.signal e code data stamp).seals = s.seals := by obtain ⟨_, _, _, _, h, _⟩ := s.signal_of e code data stamp; rw [h]
@[simp] theorem State.signal_mtr (e code : Nat) (data : BitVec 32) (stamp : Nat) : (s.signal e code data stamp).mtr = s.mtr := by obtain ⟨_, _, _, _, h, _⟩ := s.signal_of e code data stamp; rw [h]
@[simp] theorem State.signal_cf (e code : Nat) (data : BitVec 32) (stamp : Nat) : (s.signal e code data stamp).cf = s.cf := by obtain ⟨_, _, _, _, h, _⟩ := s.signal_of e code data stamp; rw [h]
@[simp] theorem State.signal_led (e code : Nat) (data : BitVec 32) (stamp : Nat) : (s.signal e code data stamp).led = s.led := by obtain ⟨_, _, _, _, h, _⟩ := s.signal_of e code data stamp; rw [h]
@[simp] theorem State.signal_book (e code : Nat) (data : BitVec 32) (stamp : Nat) : (s.signal e code data stamp).book = s.book := by obtain ⟨_, _, _, _, h, _⟩ := s.signal_of e code data stamp; rw [h]
@[simp] theorem State.signal_tar (e code : Nat) (data : BitVec 32) (stamp : Nat) : (s.signal e code data stamp).tar = s.tar := by obtain ⟨_, _, _, _, h, _⟩ := s.signal_of e code data stamp; rw [h]
@[simp] theorem State.signal_sign (e code : Nat) (data : BitVec 32) (stamp : Nat) : (s.signal e code data stamp).sign = s.sign := by obtain ⟨_, _, _, _, h, _⟩ := s.signal_of e code data stamp; rw [h]
@[simp] theorem State.signal_slu (e code : Nat) (data : BitVec 32) (stamp : Nat) : (s.signal e code data stamp).slu = s.slu := by obtain ⟨_, _, _, _, h, _⟩ := s.signal_of e code data stamp; rw [h]
@[simp] theorem State.signal_out (e code : Nat) (data : BitVec 32) (stamp : Nat) : (s.signal e code data stamp).out = s.out := by obtain ⟨_, _, _, _, h, _⟩ := s.signal_of e code data stamp; rw [h]
@[simp] theorem State.signal_par (e code : Nat) (data : BitVec 32) (stamp : Nat) : (s.signal e code data stamp).par = s.par := by obtain ⟨_, _, _, _, h, _⟩ := s.signal_of e code data stamp; rw [h]
@[simp] theorem State.signal_bc (e code : Nat) (data : BitVec 32) (stamp : Nat) : (s.signal e code data stamp).bc = s.bc := by obtain ⟨_, _, _, _, h, _⟩ := s.signal_of e code data stamp; rw [h]
@[simp] theorem State.signal_pq (e code : Nat) (data : BitVec 32) (stamp : Nat) : (s.signal e code data stamp).pq = s.pq := by obtain ⟨_, _, _, _, h, _⟩ := s.signal_of e code data stamp; rw [h]
@[simp] theorem State.signal_plc (e code : Nat) (data : BitVec 32) (stamp : Nat) : (s.signal e code data stamp).plc = s.plc := by obtain ⟨_, _, _, _, h, _⟩ := s.signal_of e code data stamp; rw [h]
@[simp] theorem State.signal_tdm (e code : Nat) (data : BitVec 32) (stamp : Nat) : (s.signal e code data stamp).tdm = s.tdm := by obtain ⟨_, _, _, _, h, _⟩ := s.signal_of e code data stamp; rw [h]
@[simp] theorem State.signal_flash (e code : Nat) (data : BitVec 32) (stamp : Nat) : (s.signal e code data stamp).flash = s.flash := by obtain ⟨_, _, _, _, h, _⟩ := s.signal_of e code data stamp; rw [h]
@[simp] theorem State.signal_dbl (e code : Nat) (data : BitVec 32) (stamp : Nat) : (s.signal e code data stamp).dbl = s.dbl := by obtain ⟨_, _, _, _, h, _⟩ := s.signal_of e code data stamp; rw [h]
@[simp] theorem State.signal_log (e code : Nat) (data : BitVec 32) (stamp : Nat) : (s.signal e code data stamp).log = s.log := by obtain ⟨_, _, _, _, h, _⟩ := s.signal_of e code data stamp; rw [h]
@[simp] theorem State.signal_guard (e code : Nat) (data : BitVec 32) (stamp : Nat) : (s.signal e code data stamp).guard = s.guard := by obtain ⟨_, _, _, _, h, _⟩ := s.signal_of e code data stamp; rw [h]
@[simp] theorem State.signal_tmp (e code : Nat) (data : BitVec 32) (stamp : Nat) : (s.signal e code data stamp).tmp = s.tmp := by obtain ⟨_, _, _, _, h, _⟩ := s.signal_of e code data stamp; rw [h]
@[simp] theorem State.signal_mem (e code : Nat) (data : BitVec 32) (stamp : Nat) : (s.signal e code data stamp).mem = s.mem := by obtain ⟨_, _, _, _, h, _⟩ := s.signal_of e code data stamp; rw [h]
@[simp] theorem State.signal_closing (e code : Nat) (data : BitVec 32) (stamp : Nat) : (s.signal e code data stamp).closing = s.closing := by obtain ⟨_, _, _, _, h, _⟩ := s.signal_of e code data stamp; rw [h]
@[simp] theorem State.signal_older (e code : Nat) (data : BitVec 32) (stamp : Nat) : (s.signal e code data stamp).older = s.older := by obtain ⟨_, _, _, _, h, _⟩ := s.signal_of e code data stamp; rw [h]
@[simp] theorem State.signal_cut (e code : Nat) (data : BitVec 32) (stamp : Nat) : (s.signal e code data stamp).cut = s.cut := by obtain ⟨_, _, _, _, h, _⟩ := s.signal_of e code data stamp; rw [h]
@[simp] theorem State.signal_tripKick (e code : Nat) (data : BitVec 32) (stamp : Nat) : (s.signal e code data stamp).tripKick = s.tripKick := by obtain ⟨_, _, _, _, h, _⟩ := s.signal_of e code data stamp; rw [h]
@[simp] theorem State.signal_irqKick (e code : Nat) (data : BitVec 32) (stamp : Nat) : (s.signal e code data stamp).irqKick = s.irqKick := by obtain ⟨_, _, _, _, h, _⟩ := s.signal_of e code data stamp; rw [h]
@[simp] theorem State.signal_fresh (e code : Nat) (data : BitVec 32) (stamp : Nat) : (s.signal e code data stamp).fresh = s.fresh := by obtain ⟨_, _, _, _, h, _⟩ := s.signal_of e code data stamp; rw [h]
@[simp] theorem State.signal_pending (e code : Nat) (data : BitVec 32) (stamp : Nat) : (s.signal e code data stamp).pending = s.pending := by obtain ⟨_, _, _, _, h, _⟩ := s.signal_of e code data stamp; rw [h]
@[simp] theorem State.signal_doms (e code : Nat) (data : BitVec 32) (stamp : Nat) : (s.signal e code data stamp).pwr.doms = s.pwr.doms := by obtain ⟨_, _, _, _, h, hd⟩ := s.signal_of e code data stamp; rw [h]; exact hd

/-- A guard source adds what its close makes due. -/
theorem State.guardFire_of (g e code : Nat) (data : BitVec 32) (stamp : Nat) (latched : Bool) :
    ∃ p v h w l k, s.guardFire g e code data stamp latched = { s with pol := p, evt := v, hp := h, pwr := w, log := l, guard := k } ∧ w.doms = s.pwr.doms := by
  unfold State.guardFire
  split
  · exact ⟨s.pol, s.evt, s.hp, s.pwr, s.log, s.guard, rfl, rfl⟩
  · generalize (s.response g).response = r
    split
    · exact ⟨s.pol, s.evt, s.hp, s.pwr, s.log, s.guard, rfl, rfl⟩
    · dsimp only
      obtain ⟨p, v, h, w, l, e1, hd⟩ := State.fireFull_of s e code data stamp latched false 0 (r == 2)
      rw [e1]
      split
      · exact ⟨p, v, h, w, l, _, rfl, hd⟩
      · exact ⟨p, v, h, w, l, s.guard, rfl, hd⟩

/-! ## Completions -/

/-- A completion is written: its window's bytes, its sluice's counts, its ticket, and the event. -/
theorem State.writeCompletion_of (k : Completion) :
    ∃ m u o p v h w, s.writeCompletion k = { s with mem := m, slu := u, out := o, pol := p, evt := v, hp := h, pwr := w } ∧ w.doms = s.pwr.doms := by
  unfold State.writeCompletion
  dsimp only
  have fin : ∀ (t : State) (d : BitVec 32) (st : Nat), (∃ m u o, t = { s with mem := m, slu := u, out := o }) →
      ∃ m u o p v h w, t.signal (512 + k.sluice) 1 d st = { s with mem := m, slu := u, out := o, pol := p, evt := v, hp := h, pwr := w } ∧ w.doms = s.pwr.doms := by
    rintro t d st ⟨m, u, o, rfl⟩
    obtain ⟨p, v, h, w, e, hd⟩ := State.signal_of { s with mem := m, slu := u, out := o } (512 + k.sluice) 1 d st
    exact ⟨m, u, o, p, v, h, w, e, hd⟩
  apply fin
  split
  · exact ⟨_, _, _, rfl⟩
  · exact ⟨_, _, s.out, rfl⟩

/-- A completion falls due: it is written, or waits for a free slot. -/
theorem State.postCompletion_of (k : Completion) :
    ∃ m u o p v h w, s.postCompletion k = { s with mem := m, slu := u, out := o, pol := p, evt := v, hp := h, pwr := w } ∧ w.doms = s.pwr.doms := by
  unfold State.postCompletion
  dsimp only
  have fin : ∀ (t : State), (∃ u, t = { s with slu := u }) →
      ∃ m u o p v h w, (if (t.sluice k.sluice).waiting.isEmpty && (t.sluice k.sluice).room then t.writeCompletion k
        else t.modSluice k.sluice fun x => { x with waiting := x.waiting ++ [k] }) =
          { s with mem := m, slu := u, out := o, pol := p, evt := v, hp := h, pwr := w } ∧ w.doms = s.pwr.doms := by
    rintro t ⟨u, rfl⟩
    split
    · obtain ⟨m, u, o, p, v, h, w, e, hd⟩ := State.writeCompletion_of { s with slu := u } k
      exact ⟨m, u, o, p, v, h, w, e, hd⟩
    · exact ⟨s.mem, _, s.out, s.pol, s.evt, s.hp, s.pwr, rfl, rfl⟩
  apply fin
  split
  · exact ⟨_, rfl⟩
  · exact ⟨s.slu, rfl⟩

/-- A command ends: its completion, and the port that carries its polder. -/
theorem State.finish_of (x : Held) (status : Nat) (result : List Byte) (rekey : Bool) :
    ∃ m u o p v h w, s.finish x status result rekey = { s with mem := m, slu := u, out := o, pol := p, evt := v, hp := h, pwr := w } ∧ w.doms = s.pwr.doms := by
  unfold State.finish
  dsimp only
  obtain ⟨m, u, o, p, v, h, w, e, hd⟩ := State.postCompletion_of s (completionOf x status true result)
  rw [e]
  split
  · exact ⟨m, u, o, p, v, _, w, rfl, hd⟩
  · exact ⟨m, u, o, p, v, h, w, rfl, hd⟩

/-! ### State.postCompletion -/

@[simp] theorem State.postCompletion_time (k : Completion) : (s.postCompletion k).time = s.time := by obtain ⟨_, _, _, _, _, _, _, h, _⟩ := s.postCompletion_of k; rw [h]
@[simp] theorem State.postCompletion_fab (k : Completion) : (s.postCompletion k).fab = s.fab := by obtain ⟨_, _, _, _, _, _, _, h, _⟩ := s.postCompletion_of k; rw [h]
@[simp] theorem State.postCompletion_whl (k : Completion) : (s.postCompletion k).whl = s.whl := by obtain ⟨_, _, _, _, _, _, _, h, _⟩ := s.postCompletion_of k; rw [h]
@[simp] theorem State.postCompletion_relief (k : Completion) : (s.postCompletion k).relief = s.relief := by obtain ⟨_, _, _, _, _, _, _, h, _⟩ := s.postCompletion_of k; rw [h]
@[simp] theorem State.postCompletion_chan (k : Completion) : (s.postCompletion k).chan = s.chan := by obtain ⟨_, _, _, _, _, _, _, h, _⟩ := s.postCompletion_of k; rw [h]
@[simp] theorem State.postCompletion_refs (k : Completion) : (s.postCompletion k).refs = s.refs := by obtain ⟨_, _, _, _, _, _, _, h, _⟩ := s.postCompletion_of k; rw [h]
@[simp] theorem State.postCompletion_seals (k : Completion) : (s.postCompletion k).seals = s.seals := by obtain ⟨_, _, _, _, _, _, _, h, _⟩ := s.postCompletion_of k; rw [h]
@[simp] theorem State.postCompletion_mtr (k : Completion) : (s.postCompletion k).mtr = s.mtr := by obtain ⟨_, _, _, _, _, _, _, h, _⟩ := s.postCompletion_of k; rw [h]
@[simp] theorem State.postCompletion_cf (k : Completion) : (s.postCompletion k).cf = s.cf := by obtain ⟨_, _, _, _, _, _, _, h, _⟩ := s.postCompletion_of k; rw [h]
@[simp] theorem State.postCompletion_led (k : Completion) : (s.postCompletion k).led = s.led := by obtain ⟨_, _, _, _, _, _, _, h, _⟩ := s.postCompletion_of k; rw [h]
@[simp] theorem State.postCompletion_book (k : Completion) : (s.postCompletion k).book = s.book := by obtain ⟨_, _, _, _, _, _, _, h, _⟩ := s.postCompletion_of k; rw [h]
@[simp] theorem State.postCompletion_tar (k : Completion) : (s.postCompletion k).tar = s.tar := by obtain ⟨_, _, _, _, _, _, _, h, _⟩ := s.postCompletion_of k; rw [h]
@[simp] theorem State.postCompletion_sign (k : Completion) : (s.postCompletion k).sign = s.sign := by obtain ⟨_, _, _, _, _, _, _, h, _⟩ := s.postCompletion_of k; rw [h]
@[simp] theorem State.postCompletion_par (k : Completion) : (s.postCompletion k).par = s.par := by obtain ⟨_, _, _, _, _, _, _, h, _⟩ := s.postCompletion_of k; rw [h]
@[simp] theorem State.postCompletion_bc (k : Completion) : (s.postCompletion k).bc = s.bc := by obtain ⟨_, _, _, _, _, _, _, h, _⟩ := s.postCompletion_of k; rw [h]
@[simp] theorem State.postCompletion_pq (k : Completion) : (s.postCompletion k).pq = s.pq := by obtain ⟨_, _, _, _, _, _, _, h, _⟩ := s.postCompletion_of k; rw [h]
@[simp] theorem State.postCompletion_plc (k : Completion) : (s.postCompletion k).plc = s.plc := by obtain ⟨_, _, _, _, _, _, _, h, _⟩ := s.postCompletion_of k; rw [h]
@[simp] theorem State.postCompletion_tdm (k : Completion) : (s.postCompletion k).tdm = s.tdm := by obtain ⟨_, _, _, _, _, _, _, h, _⟩ := s.postCompletion_of k; rw [h]
@[simp] theorem State.postCompletion_flash (k : Completion) : (s.postCompletion k).flash = s.flash := by obtain ⟨_, _, _, _, _, _, _, h, _⟩ := s.postCompletion_of k; rw [h]
@[simp] theorem State.postCompletion_dbl (k : Completion) : (s.postCompletion k).dbl = s.dbl := by obtain ⟨_, _, _, _, _, _, _, h, _⟩ := s.postCompletion_of k; rw [h]
@[simp] theorem State.postCompletion_log (k : Completion) : (s.postCompletion k).log = s.log := by obtain ⟨_, _, _, _, _, _, _, h, _⟩ := s.postCompletion_of k; rw [h]
@[simp] theorem State.postCompletion_guard (k : Completion) : (s.postCompletion k).guard = s.guard := by obtain ⟨_, _, _, _, _, _, _, h, _⟩ := s.postCompletion_of k; rw [h]
@[simp] theorem State.postCompletion_tmp (k : Completion) : (s.postCompletion k).tmp = s.tmp := by obtain ⟨_, _, _, _, _, _, _, h, _⟩ := s.postCompletion_of k; rw [h]
@[simp] theorem State.postCompletion_closing (k : Completion) : (s.postCompletion k).closing = s.closing := by obtain ⟨_, _, _, _, _, _, _, h, _⟩ := s.postCompletion_of k; rw [h]
@[simp] theorem State.postCompletion_older (k : Completion) : (s.postCompletion k).older = s.older := by obtain ⟨_, _, _, _, _, _, _, h, _⟩ := s.postCompletion_of k; rw [h]
@[simp] theorem State.postCompletion_cut (k : Completion) : (s.postCompletion k).cut = s.cut := by obtain ⟨_, _, _, _, _, _, _, h, _⟩ := s.postCompletion_of k; rw [h]
@[simp] theorem State.postCompletion_tripKick (k : Completion) : (s.postCompletion k).tripKick = s.tripKick := by obtain ⟨_, _, _, _, _, _, _, h, _⟩ := s.postCompletion_of k; rw [h]
@[simp] theorem State.postCompletion_irqKick (k : Completion) : (s.postCompletion k).irqKick = s.irqKick := by obtain ⟨_, _, _, _, _, _, _, h, _⟩ := s.postCompletion_of k; rw [h]
@[simp] theorem State.postCompletion_fresh (k : Completion) : (s.postCompletion k).fresh = s.fresh := by obtain ⟨_, _, _, _, _, _, _, h, _⟩ := s.postCompletion_of k; rw [h]
@[simp] theorem State.postCompletion_pending (k : Completion) : (s.postCompletion k).pending = s.pending := by obtain ⟨_, _, _, _, _, _, _, h, _⟩ := s.postCompletion_of k; rw [h]
@[simp] theorem State.postCompletion_doms (k : Completion) : (s.postCompletion k).pwr.doms = s.pwr.doms := by obtain ⟨_, _, _, _, _, _, _, h, hd⟩ := s.postCompletion_of k; rw [h]; exact hd

/-! ### State.finish -/

@[simp] theorem State.finish_time (x : Held) (status : Nat) (result : List Byte) (rekey : Bool) : (s.finish x status result rekey).time = s.time := by obtain ⟨_, _, _, _, _, _, _, h, _⟩ := s.finish_of x status result rekey; rw [h]
@[simp] theorem State.finish_fab (x : Held) (status : Nat) (result : List Byte) (rekey : Bool) : (s.finish x status result rekey).fab = s.fab := by obtain ⟨_, _, _, _, _, _, _, h, _⟩ := s.finish_of x status result rekey; rw [h]
@[simp] theorem State.finish_whl (x : Held) (status : Nat) (result : List Byte) (rekey : Bool) : (s.finish x status result rekey).whl = s.whl := by obtain ⟨_, _, _, _, _, _, _, h, _⟩ := s.finish_of x status result rekey; rw [h]
@[simp] theorem State.finish_relief (x : Held) (status : Nat) (result : List Byte) (rekey : Bool) : (s.finish x status result rekey).relief = s.relief := by obtain ⟨_, _, _, _, _, _, _, h, _⟩ := s.finish_of x status result rekey; rw [h]
@[simp] theorem State.finish_chan (x : Held) (status : Nat) (result : List Byte) (rekey : Bool) : (s.finish x status result rekey).chan = s.chan := by obtain ⟨_, _, _, _, _, _, _, h, _⟩ := s.finish_of x status result rekey; rw [h]
@[simp] theorem State.finish_refs (x : Held) (status : Nat) (result : List Byte) (rekey : Bool) : (s.finish x status result rekey).refs = s.refs := by obtain ⟨_, _, _, _, _, _, _, h, _⟩ := s.finish_of x status result rekey; rw [h]
@[simp] theorem State.finish_seals (x : Held) (status : Nat) (result : List Byte) (rekey : Bool) : (s.finish x status result rekey).seals = s.seals := by obtain ⟨_, _, _, _, _, _, _, h, _⟩ := s.finish_of x status result rekey; rw [h]
@[simp] theorem State.finish_mtr (x : Held) (status : Nat) (result : List Byte) (rekey : Bool) : (s.finish x status result rekey).mtr = s.mtr := by obtain ⟨_, _, _, _, _, _, _, h, _⟩ := s.finish_of x status result rekey; rw [h]
@[simp] theorem State.finish_cf (x : Held) (status : Nat) (result : List Byte) (rekey : Bool) : (s.finish x status result rekey).cf = s.cf := by obtain ⟨_, _, _, _, _, _, _, h, _⟩ := s.finish_of x status result rekey; rw [h]
@[simp] theorem State.finish_led (x : Held) (status : Nat) (result : List Byte) (rekey : Bool) : (s.finish x status result rekey).led = s.led := by obtain ⟨_, _, _, _, _, _, _, h, _⟩ := s.finish_of x status result rekey; rw [h]
@[simp] theorem State.finish_book (x : Held) (status : Nat) (result : List Byte) (rekey : Bool) : (s.finish x status result rekey).book = s.book := by obtain ⟨_, _, _, _, _, _, _, h, _⟩ := s.finish_of x status result rekey; rw [h]
@[simp] theorem State.finish_tar (x : Held) (status : Nat) (result : List Byte) (rekey : Bool) : (s.finish x status result rekey).tar = s.tar := by obtain ⟨_, _, _, _, _, _, _, h, _⟩ := s.finish_of x status result rekey; rw [h]
@[simp] theorem State.finish_sign (x : Held) (status : Nat) (result : List Byte) (rekey : Bool) : (s.finish x status result rekey).sign = s.sign := by obtain ⟨_, _, _, _, _, _, _, h, _⟩ := s.finish_of x status result rekey; rw [h]
@[simp] theorem State.finish_par (x : Held) (status : Nat) (result : List Byte) (rekey : Bool) : (s.finish x status result rekey).par = s.par := by obtain ⟨_, _, _, _, _, _, _, h, _⟩ := s.finish_of x status result rekey; rw [h]
@[simp] theorem State.finish_bc (x : Held) (status : Nat) (result : List Byte) (rekey : Bool) : (s.finish x status result rekey).bc = s.bc := by obtain ⟨_, _, _, _, _, _, _, h, _⟩ := s.finish_of x status result rekey; rw [h]
@[simp] theorem State.finish_pq (x : Held) (status : Nat) (result : List Byte) (rekey : Bool) : (s.finish x status result rekey).pq = s.pq := by obtain ⟨_, _, _, _, _, _, _, h, _⟩ := s.finish_of x status result rekey; rw [h]
@[simp] theorem State.finish_plc (x : Held) (status : Nat) (result : List Byte) (rekey : Bool) : (s.finish x status result rekey).plc = s.plc := by obtain ⟨_, _, _, _, _, _, _, h, _⟩ := s.finish_of x status result rekey; rw [h]
@[simp] theorem State.finish_tdm (x : Held) (status : Nat) (result : List Byte) (rekey : Bool) : (s.finish x status result rekey).tdm = s.tdm := by obtain ⟨_, _, _, _, _, _, _, h, _⟩ := s.finish_of x status result rekey; rw [h]
@[simp] theorem State.finish_flash (x : Held) (status : Nat) (result : List Byte) (rekey : Bool) : (s.finish x status result rekey).flash = s.flash := by obtain ⟨_, _, _, _, _, _, _, h, _⟩ := s.finish_of x status result rekey; rw [h]
@[simp] theorem State.finish_dbl (x : Held) (status : Nat) (result : List Byte) (rekey : Bool) : (s.finish x status result rekey).dbl = s.dbl := by obtain ⟨_, _, _, _, _, _, _, h, _⟩ := s.finish_of x status result rekey; rw [h]
@[simp] theorem State.finish_log (x : Held) (status : Nat) (result : List Byte) (rekey : Bool) : (s.finish x status result rekey).log = s.log := by obtain ⟨_, _, _, _, _, _, _, h, _⟩ := s.finish_of x status result rekey; rw [h]
@[simp] theorem State.finish_guard (x : Held) (status : Nat) (result : List Byte) (rekey : Bool) : (s.finish x status result rekey).guard = s.guard := by obtain ⟨_, _, _, _, _, _, _, h, _⟩ := s.finish_of x status result rekey; rw [h]
@[simp] theorem State.finish_tmp (x : Held) (status : Nat) (result : List Byte) (rekey : Bool) : (s.finish x status result rekey).tmp = s.tmp := by obtain ⟨_, _, _, _, _, _, _, h, _⟩ := s.finish_of x status result rekey; rw [h]
@[simp] theorem State.finish_closing (x : Held) (status : Nat) (result : List Byte) (rekey : Bool) : (s.finish x status result rekey).closing = s.closing := by obtain ⟨_, _, _, _, _, _, _, h, _⟩ := s.finish_of x status result rekey; rw [h]
@[simp] theorem State.finish_older (x : Held) (status : Nat) (result : List Byte) (rekey : Bool) : (s.finish x status result rekey).older = s.older := by obtain ⟨_, _, _, _, _, _, _, h, _⟩ := s.finish_of x status result rekey; rw [h]
@[simp] theorem State.finish_cut (x : Held) (status : Nat) (result : List Byte) (rekey : Bool) : (s.finish x status result rekey).cut = s.cut := by obtain ⟨_, _, _, _, _, _, _, h, _⟩ := s.finish_of x status result rekey; rw [h]
@[simp] theorem State.finish_tripKick (x : Held) (status : Nat) (result : List Byte) (rekey : Bool) : (s.finish x status result rekey).tripKick = s.tripKick := by obtain ⟨_, _, _, _, _, _, _, h, _⟩ := s.finish_of x status result rekey; rw [h]
@[simp] theorem State.finish_irqKick (x : Held) (status : Nat) (result : List Byte) (rekey : Bool) : (s.finish x status result rekey).irqKick = s.irqKick := by obtain ⟨_, _, _, _, _, _, _, h, _⟩ := s.finish_of x status result rekey; rw [h]
@[simp] theorem State.finish_fresh (x : Held) (status : Nat) (result : List Byte) (rekey : Bool) : (s.finish x status result rekey).fresh = s.fresh := by obtain ⟨_, _, _, _, _, _, _, h, _⟩ := s.finish_of x status result rekey; rw [h]
@[simp] theorem State.finish_pending (x : Held) (status : Nat) (result : List Byte) (rekey : Bool) : (s.finish x status result rekey).pending = s.pending := by obtain ⟨_, _, _, _, _, _, _, h, _⟩ := s.finish_of x status result rekey; rw [h]
@[simp] theorem State.finish_doms (x : Held) (status : Nat) (result : List Byte) (rekey : Bool) : (s.finish x status result rekey).pwr.doms = s.pwr.doms := by obtain ⟨_, _, _, _, _, _, _, h, hd⟩ := s.finish_of x status result rekey; rw [h]; exact hd

end

end Sys2Proof.Machine
end

