-- ==== Sys2Proof/Laws/Memory.lean ====
section
/-! SUPPORT. Memory: what a byte reads as after a write, and that every operation keeps the one canonical form. -/
namespace Sys2Proof.Machine

/-! ## Reading after a change -/

/-- Below the first address listed every byte reads as zero. -/
theorem Mem.read_of_wfFrom {m : Mem} {a b : Nat} (h : m.wfFrom a = true) (hb : b < a) : m.read b = 0 := by
  induction m generalizing a with
  | nil => rfl
  | cons c m ih =>
    obtain ⟨k, v⟩ := c
    simp only [Mem.wfFrom, Bool.and_eq_true, decide_eq_true_eq] at h
    have hk : ¬ k = b := by omega
    simp only [Mem.read, hk, if_false]
    exact ih h.2 (by omega)

/-- A canonical list stays canonical from any lower bound. -/
theorem Mem.wfFrom_mono {m : Mem} {a b : Nat} (h : m.wfFrom a = true) (hb : b ≤ a) : m.wfFrom b = true := by
  cases m with
  | nil => rfl
  | cons c m =>
    obtain ⟨k, v⟩ := c
    simp only [Mem.wfFrom, Bool.and_eq_true, decide_eq_true_eq] at h ⊢
    exact ⟨⟨by omega, h.1.2⟩, h.2⟩

/-- Read after write: the address written gives the byte written, every other address what it gave before. -/
theorem Mem.read_write {m : Mem} {l : Nat} (h : m.wfFrom l = true) (a : Nat) (b : Byte) (x : Nat) :
    (m.write a b).read x = if x = a then b else m.read x := by
  induction m generalizing l with
  | nil =>
    unfold Mem.write
    by_cases hb : b = 0
    · simp only [hb, if_true, Mem.read, ite_self]
    · by_cases hx : x = a
      · simp only [hb, if_false, hx, if_true, Mem.read]
      · have : ¬ a = x := fun e => hx e.symm
        simp only [hb, if_false, hx, Mem.read, this]
  | cons c m ih =>
    obtain ⟨k, v⟩ := c
    have hw := h
    simp only [Mem.wfFrom, Bool.and_eq_true, decide_eq_true_eq] at h
    unfold Mem.write
    by_cases h1 : a < k
    · by_cases hb : b = 0
      · simp only [h1, if_true, hb]
        by_cases hx : x = a
        · simp only [hx, if_true]
          exact Mem.read_of_wfFrom (a := k) (by simp only [Mem.wfFrom, Bool.and_eq_true, decide_eq_true_eq]; exact ⟨⟨Nat.le_refl _, h.1.2⟩, h.2⟩) h1
        · simp only [hx, if_false]
      · simp only [h1, if_true, hb, if_false]
        by_cases hx : x = a
        · simp only [hx, Mem.read, if_true]
        · have : ¬ a = x := fun e => hx e.symm
          simp only [hx, if_false, Mem.read, this]
    · by_cases h2 : a = k
      · subst h2
        by_cases hb : b = 0
        · simp only [h1, if_false, if_true, hb]
          by_cases hx : x = a
          · simp only [hx, if_true]; exact Mem.read_of_wfFrom h.2 (by omega)
          · have : ¬ a = x := fun e => hx e.symm
            simp only [hx, if_false, Mem.read, this]
        · by_cases hx : x = a
          · simp only [h1, if_false, if_true, hb, hx, Mem.read]
          · have : ¬ a = x := fun e => hx e.symm
            simp only [h1, if_false, if_true, hb, hx, Mem.read, this]
      · simp only [h1, if_false, h2, Mem.read]
        by_cases hk : k = x
        · have : ¬ x = a := fun e => h2 (e.symm.trans hk.symm)
          simp only [hk, if_true, this, if_false]
        · simp only [hk, if_false]; exact ih h.2

/-! ## The canonical form -/

theorem Mem.wfFrom_write {m : Mem} {l : Nat} (h : m.wfFrom l = true) (a : Nat) (b : Byte) : (m.write a b).wfFrom (Nat.min l a) = true := by
  induction m generalizing l with
  | nil =>
    unfold Mem.write
    by_cases hb : b = 0
    · simp only [hb, if_true, Mem.wfFrom]
    · simp only [hb, if_false, Mem.wfFrom, Bool.and_true, Bool.and_eq_true, decide_eq_true_eq, bne_iff_ne, ne_eq, not_false_eq_true, and_true]
      exact Nat.min_le_right _ _
  | cons c m ih =>
    obtain ⟨k, v⟩ := c
    simp only [Mem.wfFrom, Bool.and_eq_true, decide_eq_true_eq] at h
    have hm1 : Nat.min l a ≤ a := Nat.min_le_right _ _
    have hm2 : Nat.min l a ≤ l := Nat.min_le_left _ _
    unfold Mem.write
    by_cases h1 : a < k
    · by_cases hb : b = 0
      · simp only [h1, if_true, hb, Mem.wfFrom, Bool.and_eq_true, decide_eq_true_eq]
        exact ⟨⟨by omega, h.1.2⟩, h.2⟩
      · simp only [h1, if_true, hb, if_false, Mem.wfFrom, Bool.and_eq_true, decide_eq_true_eq, bne_iff_ne, ne_eq, not_false_eq_true, and_true]
        exact ⟨hm1, ⟨by omega, by simpa using h.1.2⟩, h.2⟩
    · by_cases h2 : a = k
      · subst h2
        by_cases hb : b = 0
        · simp only [h1, if_false, if_true, hb]; exact Mem.wfFrom_mono h.2 (by omega)
        · simp only [h1, if_false, if_true, hb, Mem.wfFrom, Bool.and_eq_true, decide_eq_true_eq, bne_iff_ne, ne_eq, not_false_eq_true, and_true]
          exact ⟨hm1, h.2⟩
      · simp only [h1, if_false, h2, Mem.wfFrom, Bool.and_eq_true, decide_eq_true_eq]
        refine ⟨⟨by omega, h.1.2⟩, ?_⟩
        have := ih h.2
        have e : Nat.min (k + 1) a = k + 1 := Nat.min_eq_left (by omega)
        rwa [e] at this

/-- A write keeps memory canonical. -/
theorem Mem.wf_write {m : Mem} (h : m.wf = true) (a : Nat) (b : Byte) : (m.write a b).wf = true := by
  have := Mem.wfFrom_write (l := 0) h a b
  have e : Nat.min 0 a = 0 := Nat.min_eq_left (Nat.zero_le _)
  rwa [e] at this

/-- Writing bytes keeps memory canonical. -/
theorem Mem.wf_writeAll {m : Mem} (h : m.wf = true) (a : Nat) (bs : List Byte) : (m.writeAll a bs).wf = true := by
  induction bs generalizing m a with
  | nil => exact h
  | cons b bs ih => exact ih (Mem.wf_write h a b) (a + 1)

theorem Mem.wfFrom_filter {m : Mem} {l : Nat} (h : m.wfFrom l = true) (p : Host.Cell → Bool) : Mem.wfFrom (m.filter p) l = true := by
  induction m generalizing l with
  | nil => rfl
  | cons c m ih =>
    obtain ⟨k, v⟩ := c
    simp only [Mem.wfFrom, Bool.and_eq_true, decide_eq_true_eq] at h
    rw [List.filter_cons]
    split
    · simp only [Mem.wfFrom, Bool.and_eq_true, decide_eq_true_eq]; exact ⟨h.1, ih h.2⟩
    · exact ih (Mem.wfFrom_mono h.2 (by omega))

/-- Clearing a range keeps memory canonical. -/
theorem Mem.wf_clear {m : Mem} (h : m.wf = true) (a n : Nat) : (m.clear a n).wf = true := Mem.wfFrom_filter h _

/-- Writing bytes leaves every address outside them as it was. -/
theorem Mem.read_writeAll_out {m : Mem} (h : m.wf = true) (a : Nat) (bs : List Byte) (x : Nat) (hx : x < a ∨ a + bs.length ≤ x) :
    (m.writeAll a bs).read x = m.read x := by
  induction bs generalizing m a with
  | nil => rfl
  | cons b bs ih =>
    simp only [List.length_cons] at hx
    show (Mem.writeAll (m.write a b) (a + 1) bs).read x = _
    rw [ih (Mem.wf_write h a b) (a + 1) (by omega), Mem.read_write (l := 0) h]
    have : ¬ x = a := by omega
    simp only [this, if_false]

/-- Bytes written read back. -/
theorem Mem.read_writeAll_in {m : Mem} (h : m.wf = true) (a : Nat) (bs : List Byte) (i : Nat) (hi : i < bs.length) :
    (m.writeAll a bs).read (a + i) = bs[i] := by
  induction bs generalizing m a i with
  | nil => simp at hi
  | cons b bs ih =>
    show (Mem.writeAll (m.write a b) (a + 1) bs).read (a + i) = _
    cases i with
    | zero =>
      rw [Mem.read_writeAll_out (Mem.wf_write h a b) _ _ _ (by omega), Mem.read_write (l := 0) h]
      simp
    | succ j =>
      have := ih (Mem.wf_write h a b) (a + 1) j (by simpa using hi)
      have e : a + (j + 1) = a + 1 + j := by omega
      rw [e, this]; simp

theorem Mem.read_filter {m : Mem} {l : Nat} (h : m.wfFrom l = true) (p : Nat → Bool) (x : Nat) :
    Mem.read (m.filter fun c => p c.1) x = if p x then m.read x else 0 := by
  induction m generalizing l with
  | nil => simp [Mem.read]
  | cons c m ih =>
    obtain ⟨k, v⟩ := c
    simp only [Mem.wfFrom, Bool.and_eq_true, decide_eq_true_eq] at h
    rw [List.filter_cons]
    by_cases hp : p k = true
    · simp only [hp, if_true, Mem.read]
      by_cases hk : k = x
      · subst hk; simp only [if_true, hp]
      · simp only [hk, if_false]; exact ih h.2
    · simp only [hp, Bool.false_eq_true, if_false]
      rw [ih h.2]
      by_cases hk : k = x
      · subst hk; simp only [hp, Bool.false_eq_true, if_false]
      · simp only [Mem.read, hk, if_false]

/-- A cleared range reads as zero, every other address as before. -/
theorem Mem.read_clear {m : Mem} (h : m.wf = true) (a n x : Nat) : (m.clear a n).read x = if a ≤ x ∧ x < a + n then 0 else m.read x := by
  unfold Mem.clear
  rw [Mem.read_filter (l := 0) h fun k => k < a || a + n ≤ k]
  by_cases h1 : a ≤ x ∧ x < a + n
  · have : ¬ (x < a ∨ a + n ≤ x) := by omega
    simp [h1, this]
  · have : x < a ∨ a + n ≤ x := by omega
    simp [h1, this]

end Sys2Proof.Machine
end

