-- ==== Sys2Proof/Tests/Slice0.lean ====
section
/-! SUPPORT. The model's own tests: well-formedness refuses ill-formed terms, every mailbox command is accepted somewhere, every
statement with hypotheses has a concrete witness of them, and the specification's worked examples come out as it gives them. -/
set_option linter.unusedVariables false
set_option Elab.async false
namespace Sys2Proof.Tests
open Sys2Proof Sys2Proof.Machine

/-! ## Small states -/

/-- A device that runs in RUN with the host ports ready, P00 holding keys, the clock trusted, in its cadence 1,000 (second 8). -/
def up : State :=
  { State.reset with
    time := { Time.reset with cad := 1000, bnd := 1000, causes := 0 }
    pwr := { Power.reset with state := .run, held := .run, porstHigh := true, dryOk := true, wetAOk := true, wetBOk := true, firstPub := true, portsReady := true }
    pol := [(0, { Polder.foundation with hasKeys := true, rekeyed := true })]
    irqKick := false }

/-- Power domains switched ON. -/
def powered (l : List Nat) (s : State) : State := l.foldl (fun s n => s.modDom n fun d => { d with state := .on }) s

/-- A four-wire meter of P00 on channels 0 to 5. -/
def def5 : MeterDefine :=
  { meter := 5, owner := 0, type := 2, options := 0, vSlot := [0, 1, 2, 0xFF], iSlot := [3, 4, 5, 0xFF], invert := 0, iStart := 0, creep := 0 }

/-- The device with that meter defined and its channels scaled. -/
def metered : State :=
  (List.range 6).foldl (fun s c => s.modChannel c fun x => { x with scale := 0x3F800000 })
    ({ up with mtr := [(5, { Meter.reset 5 with state := .defined, def_ := def5 })] })

/-- An entry of SL00 with nonce `n`: sealed under the keys of P00, for the side of `c`. -/
def sealedEntry (n : Nat) (c : Cmd) : Submit :=
  { port := 0, sluice := 0, t := 1000, sealing := .envelope c.dry false 0 0 true true, nonce := BitVec.ofNat 32 n, tag := 7, roff := 0, rmax := 0x1000 }

/-- A command that the device accepts in state `s`. -/
def accepts (c : Cmd) (s : State) : Bool := accepted (sealedEntry 9 c) c (s.advance 1000)

/-- The device with one part changed. -/
def pwr (f : Power → Power) : State := { up with pwr := f up.pwr }
def fab (f : Fabric → Fabric) : State := { up with fab := f up.fab }
def tim (f : Time → Time) : State := { up with time := f up.time }
def tdm (f : Tdm → Tdm) : State := { powered [16] up with tdm := f Tdm.reset }
def plc (f : Plc → Plc) : State := { powered [14, 15] up with plc := f Plc.reset }
def whl (f : Wheel → Wheel) : State := (powered [17] up).modWheel 0 f
def sliceAt (k : Nat) (f : Slice → Slice) : State := whl fun x => x.modSlice k f
def chn (f : Chan → Chan) : State := up.modChannel 0 f
def cfs (f : Cf → Cf) : State := up.modCf 0 f
def led (f : Ledger → Ledger) : State := metered.modLedger 5 f
def tar (f : Tariff → Tariff) : State := up.modTariff 0 f
def fls (f : Flash → Flash) : State := { up with flash := f Flash.reset }
def tmp (f : Tamper → Tamper) : State := { up with tmp := f Tamper.reset }
def grd (f : Guard → Guard) : State := { up with guard := f Guard.reset }
def clo (f : Closing → Closing) : State := { up with closing := f Closing.before }

/-- Inputs with nothing in them. -/
def bIn : BoundaryIn :=
  { work := [], visit := 0, cap := [], temps := [], katFailed := [], mainOk := false, retireCore := none, devWake := false, witness := false, last := ⟨[]⟩ }
def startIn (tmode : Bool) : StartIn := { tiebreak := false, tmode, mclk := 1000, dryOk := true, wetAOk := true, wetBOk := true }
def held (n : Nat) : Held :=
  { sluice := 0, polder := 0, port := 0, handle := 0, cindex := 0, nonce := BitVec.ofNat 32 n, tag := 0, roff := 0, rmax := 0, env := .clear, order := n }
def staged (c : Cmd) (due : Nat) : Staged := { held := held 1, cmd := c, due, at_ := 0, batch := 0, unacked := false }
def posted (final : Bool) : Completion :=
  { sluice := 31, ticket := 0, cindex := 0, nonce := 1, tag := 2, status := 0, final, sealed := false, roff := 0, result := zeros 40, order := some 1 }

def pubRec : Published :=
  { meter := 5, born := 0, rate := 7, default := false, residual := none, v3 := false, fund := [], fundSum := 0
    result := { cadence := 1000, stamp := 0, meter := 5, owner := 0, type := 2, gates := 0, flags := 8, valid := 128, defGen := 0
                inc := List.replicate 16 1, odo := [], p := [], q := [], p1 := 0, q1 := 0, s := 0, vrms := [], irms := [], pf := 0, dpf := 0, freq := 0, angV := [], angI := [] } }
def pqOn (c : Nat) : State := (powered [12] up).modChannel c fun x => { x with pq := { PqCfg.reset c with enable := true } }
def winRec : WinRec :=
  { seq := 0, start := 0, end_ := 1, endT := 0, flags := 0, rmsSq := 1, freq := 50, count := 1, thdSq := 0, hg := [], hsg := [], ig := [], isg := [] }
def openEv : OpenEvent := { start := some 0, extreme := 0, rel := 0, extremeAt := 0, eflags := 0, slots := 0 }
def capCfg : PqSetCapture :=
  { capture := 3, format := 0, nseg := 1, nchan := 1, preMs := 10, postMs := 10, kinds := 0, channels := 0 :: List.replicate 31 0xFF
    sources := List.replicate 8 0xFF, srcIsMeter := 0, flagMeter := 0xFF, flagMask := 0 }
def capOf (owner : Nat) : Capture :=
  { owner, cfg := capCfg, base := 0x01900000, segSize := 4096, enabled := false, segs := [], missed := 0, frozen := 0, flagSeen := false }
def capPost : Capture := { capOf 0 with cfg := { capCfg with nseg := 16 }, segs := [(15, { Segment.free with state := .post, endAt := 5 })] }
def strCfg : PqStreamOpen := { nchan := 1, format := 0, size := 1, channels := 0 :: List.replicate 15 0xFF }
def strOf (owner : Nat) : Stream :=
  { owner, cfg := strCfg, base := 0x01B00000, prod := 0, cons := 0, spilling := false, dropped := 0, spills := 0, staged := [], episode := none, ended := false, next := 0 }
/-- A stream whose credit is used up, with `n` rows staged. -/
def strFull (n : Nat) : Stream := { strOf 0 with prod := BitVec.ofNat 32 (strOf 0).size, staged := List.replicate n ⟨0, 5, []⟩ }
def withCap : State := { up with pq := { Pq.reset with captures := [(3, capOf 0)] } }
def withStr : State := { up with pq := { Pq.reset with streams := [(2, strOf 0)] } }
def carried (s : State) : State := s.modPort 1 fun p => { p with perm := 1 }
def run0 : CalRun :=
  { kind := 0, ntarget := 1, signal := 0, phaseRef := 0, n := 8, tol := 0, index := 0, meter := 0, phase := 0, refMag := 0, refAng := 0, refP1 := 0, refQ1 := 0
    targets := List.replicate 16 ⟨0, 0⟩ }
def cand0 (st : CandStatus) : Cand :=
  { status := st, run := run0, gear := 1, bc := 900, leg := false, legHalves := Halves.zero, refResp := none, spokePath := true, jockeyPath := true
    a0 := RunSum.zero, b0 := RunSum.zero, a1 := RunSum.zero, b1 := RunSum.zero, rSum := 0, thetaSum := 0, counted := 0, freqSum := 0, seen := 999
    new0 := some (CalSet.factory false), new1 := some (CalSet.factory false), readyAt := none, broken := false }
def candAt (k : Cand) : State := up.modChannel 127 fun c => { c with cand := [(1, k)] }
def rec1 : PolderRecord :=
  { polder := 1, state := 0, priv := 0, sluices := 2, tickets := 8, options := 0, ftripOut := 0, cfOut := 0, tripCh := 0, pqCh := 0, domains := 0
    poolShare := 0, streamShare := 0, keyGen := 0, keyId := 0, evt := 0 }
/-- No ticket of SL00 is free: eight reserved ones are held, and P00 may hold no more. -/
def noTicket : State :=
  { up.modPolder 0 (fun q => { q with tickets := 8 }) with
    out := { Outstanding.reset with held := (List.range 8).map fun i => { held i with handle := i }, count := 8 } }
def parOn (op : Option Nat) : State := { up with par := { Par.reset with enable := true, bank := 3, op } }
def net0 : Net := { name := 1, node := 2, coordinator := false, key := 5 }
def cur0 : TxCur :=
  { frame := { type := 1, hops := 0, orig := 2, final := 3, destPolder := 0, srcPolder := 0, mseq := 7, cls := 1, mode := 0, body := [], order := some 1 }
    pn := 0, next := 3, try_ := 1, backoff := some 1, nblk := 2, acked := [false, false], altTried := false, total := 0, contending := false, sent := false }
def plcCur (c : TxCur) : State := plc fun p => { p with link := ⟨1, 0, 0, 0, 0⟩, net := some net0, state := 2, cur := some c }
/-- A frame of `control` that is not for this device, and one whose two blocks came in with a MAC frame of zeros. -/
def frameIn (srx : Nat) : FrameIn := { control := frameControl 1 0 1 1 3 srx 0, blocks := [true], mac := none, snr := List.replicate 206 0 }
def plcFrame : PlcFrame := { src := 3, dest := 2, srcPolder := 0, destPolder := 0, priority := 0, mode := 0, stamp := 0, data := [1], order := 0 }
def neigh0 : Neigh :=
  { stratum := 1, trusted := true, coordinator := false, deviceId := 9, heard := 0, beaconAt := none, mapsIn := [], mapOut := none, loss := 0, blocks := []
    phase := none, stamps := [], mapNum := 0, snrs := [] }
def withNeigh : State := plc fun p => { p with state := 2, neigh := [(2, neigh0)] }
/-- A device of a pair whose link is up. -/
def pair (r : Role) : State := tdm fun x => { x with enabled := true, link := true, role := r }
def heart (cad : Nat) : HeartIn := { term := 1, cadence := cad, role := .stoker, ckptEpoch := 0, commits := 0, bcount := 0, digest := 0 }
def mirror (n : BitVec 32) : MirrorIn :=
  { term := 1, seq := n, cmd := .timeTrust 0, polder := 0, sluice := 0, nonce := 4, keys := none, readSeq := none, due := 1001 }
def ckptIn (ok : Bool) : CkptIn :=
  { epoch := 1, hashOk := ok, content := { meters := [], ledgers := [], tariffs := [], polders := [], guardResp := [], guardKey := none, mark := false, count := 0, term := 1, log := [] } }
def serving (l : SliceState) : State := up.modWheel 0 fun x => x.modSlice 0 fun y => { y with state := l }
/-- Two polders: P00, and P01 that holds SL01 and SL02. -/
def two : State :=
  { up with pol := [(0, { Polder.foundation with hasKeys := true, rekeyed := true }),
                    (1, { Polder.free with state := 1, sluices := 6, tickets := 16, hasKeys := true, rekeyed := true })] }
/-- An entry of SL01, sealed under the keys of P01. -/
def sealedOne (n : Nat) (c : Cmd) : Submit := { sealedEntry n c with sluice := 1, sealing := .envelope c.dry false 1 0 true true }
/-- The generator of the curve P-256, a point that a key may name. -/
def p256Gx : Nat := 0x6B17D1F2E12C4247F8BCE6E563A440F277037D812DEB33A0F4A13945D898C296
def p256Gy : Nat := 0x4FE342E2FE1A7F9B8EE7EB4A7C0F9E162BCE33576B315ECECBB6406837BF51F5
/-- A transmission that ended long ago, with its end not yet acted on unless `done`. -/
def onAir (done : Bool) : OnAir :=
  { control := frameControl 1 0 1 1 2 3 0, payload := [], phases := 1, cyclic := false, levels := [], start := 0, samples := 5120, done }
/-- A MAC frame for node 2, type 1, PN 1, in ROBUST-4, and the bytes of it. -/
def macIn : List Byte := ({ cur0.frame with final := 2 } : MacFrame).header 1 ++ zeros 104
def frameFull : FrameIn := { frameIn 2 with control := frameControl 1 4 1 1 3 2 0, mac := some macIn }
/-- The acknowledgement of the frame that `cur0` sends. -/
def sackIn : SackIn := { control := frameControl 2 0 1 0 3 2 3 }
/-- The frame `c` sent, its EOF at `e`. -/
def sentAt (e : Nat) : State := (plcCur { cur0 with sent := true }).modPlc fun p => { p with eof := some e }
def neigh1 : Neigh := { neigh0 with snrs := [List.replicate 206 100] }
/-- A segment that records, with one row whole at stamp 5 and its end there. -/
def laid : Laid := { index := 0, stamp := 5, parts := [], lost := false, shed := false }
def capRow : Capture := { capPost with segs := [(15, { Segment.free with state := .post, endAt := 5, kept := [laid] })] }
/-- A stream of a device whose sample copy holds one cadence. -/
def streamOn (x : Stream) : State := { powered [12] up with pq := { Pq.reset with streams := [(2, x)], copy := [(0, 0)] } }
/-- The power-quality engine on channel 0 after a cadence with `x` as its first two samples, its last refresh at 0. -/
def pqWave (x y : Int) : State :=
  let f (v : Int) : Fine := { Fine.missing with x := v, lost := false }
  { (powered [12] up).modChannel 0 (fun c => { c with past := [{ at_ := 0, pos := 0, fine := [f x, f y], fast := [], al := [] }] }) with
    pq := { Pq.reset with
      copy := [(0, 0)]
      recs := [(0, { PqRec.reset with cfg := { PqCfg.reset 0 with enable := true }, refresh := some 0, edges := { PqRec.reset.edges with upto := -1 } })] } }
def pqSilent : State :=
  let s := pqWave 0 0
  { s with pq := { s.pq with copy := [(1, 1)] } }

/-! ## Well-formedness refuses an ill-formed term for each of its checks -/

theorem test_ill_formed_events :
    Instr.wf (.alarm cadenceClocks) = false ∧ Instr.wf (.evtCtrlRead 0 2) = false ∧ Instr.wf (.deferredCompletionPost 0 32) = false
      ∧ Instr.wf (.crossFadeEnd 0 16) = false ∧ Instr.wf (.upShift 0 0 9 0) = false ∧ Instr.wf (.dcFreezeEnd 0 128) = false
      ∧ Instr.wf (.candidateExpiry 0 0 2) = false ∧ Instr.wf (.demandSubintervalClose 256) = false
      ∧ Instr.wf (.calendarActivation 16) = false ∧ Instr.wf (.cfEdge 0 16) = false ∧ Instr.wf (.domainRiseComplete 0 33) = false
      ∧ Instr.wf (.streamConsWrite 0 0 16 0) = false ∧ Instr.wf (.referenceFailure 0 3) = false ∧ Instr.wf (.supplyGlitch 0 4) = false
      ∧ Instr.wf (.tamperInputActive 0 ⟨8, []⟩) = false ∧ Instr.wf (.tamperCriterionStart 0 5) = false ∧ Instr.wf (.evtStatRead 0 0 32) = false
      ∧ Instr.wf (.unalignedAddress 0 0 (2 ^ 32)) = false ∧ Instr.wf (.toneMapExpiry 0 65536) = false
      ∧ Instr.wf (.laneErrorRetrain 0 3) = false ∧ Instr.wf (.registerWrite 0 0 0 (zeros 3)) = false
      ∧ Instr.wf (.captureFreeze 0 32 0) = false ∧ Instr.wf (.captureFreeze 0 0 16) = false ∧ Instr.wf (.toneMapIssue 0 1 8) = false
      ∧ Instr.wf (.sliceSelfCheckFailure 0 0 ⟨0, 32769⟩) = false := by decide

theorem test_ill_formed_samples :
    Instr.wf (.publication ⟨[(0, [0, 9])]⟩) = false ∧ Instr.wf (.latePublication 0 ⟨[(0, [-9])]⟩) = false
      ∧ Instr.wf (.fastTripAssert 0 0 ⟨[[8, 9]]⟩) = false ∧ Instr.wf (.fastTripDeassert 0 0 ⟨[[-9]]⟩) = false
      ∧ Instr.wf (.publication ⟨[(0, [-8, 8])]⟩) = true ∧ Instr.wf (.fastTripAssert 0 127 ⟨[[-8, 8]]⟩) = true := by decide

theorem test_ill_formed_frames :
    Instr.wf (.frameReceived 0 { frameIn 2 with control := zeros 11 }) = false
      ∧ Instr.wf (.frameReceived 0 { frameIn 2 with blocks := List.replicate 13 true }) = false
      ∧ Instr.wf (.frameReceived 0 { frameIn 2 with snr := [] }) = false ∧ Instr.wf (.sackReceived 0 ⟨zeros 13⟩) = false
      ∧ Instr.wf (.frameReceived 0 (frameIn 2)) = true ∧ Instr.wf (.sackReceived 0 sackIn) = true := by decide +kernel

theorem test_well_formed_events :
    Instr.wf (.alarm (cadenceClocks - 1)) = true ∧ Instr.wf (.upShift 0 15 8 0) = true ∧ Instr.wf (.domainRiseComplete 0 32) = true
      ∧ Instr.wf (.laneErrorRetrain 0 4) = true ∧ Instr.wf (.registerWrite 0 1 0xFFFFFFFF (zeros 8)) = true := by decide

theorem test_ill_formed_payloads :
    Cmd.wf (.devEcho (zeros 33)) = false ∧ Cmd.wf (.powerSetState ⟨256, 0⟩) = false ∧ Cmd.wf (.wheelSetGear ⟨1, 256⟩) = false
      ∧ Cmd.wf (.wheelSetJockey ⟨1, 0, 65536, 0⟩) = false ∧ Cmd.wf (.wheelServiceSpoke ⟨0, 256, 0⟩) = false
      ∧ Cmd.wf (.wheelReturnSpoke ⟨256, 0⟩) = false ∧ Cmd.wf (.wheelUseRelief 0 256) = false ∧ Cmd.wf (.wheelStatus 256) = false
      ∧ Cmd.wf (.chainLoadBank ⟨1, zeros 1767⟩) = false ∧ Cmd.wf (.chainSwitchBank ⟨1, 256⟩) = false
      ∧ Cmd.wf (.chainSetTrip ⟨0, 0, 0, 0, 0, 0, 2 ^ 31, 0⟩) = false ∧ Cmd.wf (.chainSetTrip ⟨0, 0, 0, 0, 0, 0, 0, -2 ^ 31 - 1⟩) = false
      ∧ Cmd.wf (.meterDefine { def5 with vSlot := [0, 1, 2] }) = false ∧ Cmd.wf (.meterDefine { def5 with iSlot := [0, 1, 2, 256] }) = false
      ∧ Cmd.wf (.pqSetMeter ⟨256, 0⟩) = false ∧ Cmd.wf (.pqSetCapture { capCfg with channels := [0] }) = false
      ∧ Cmd.wf (.pqStreamOpen { strCfg with channels := List.replicate 16 256 }) = false
      ∧ Cmd.wf (.calRun { run0 with targets := [] }) = false ∧ Cmd.wf (.calCommit ⟨1, List.replicate 16 ⟨0, 256⟩⟩) = false
      ∧ Cmd.wf (.tariffSetMeter ⟨0, 0, 256, 0, 0⟩) = false ∧ Cmd.wf (.ledgerSetDemand ⟨0, [⟨0, 0, 0, 0⟩]⟩) = false
      ∧ Cmd.wf (.ledgerSetTamper ⟨0, { TamperCfg.factory with tOn := 65536 }⟩) = false
      ∧ Cmd.wf (.polderAssign 2 [rec1]) = false ∧ Cmd.wf (.polderRelease { rec1 with tickets := 65536 }) = false
      ∧ Cmd.wf (.polderRekey ⟨0, 1, zeros 63, zeros 72⟩) = false ∧ Cmd.wf (.polderReadAudit ⟨0, 65536⟩) = false
      ∧ Cmd.wf (.plcSend ⟨2, 0, 0, 0, 4, zeros 3⟩) = false ∧ Cmd.wf (.timeSet ⟨0, 2 ^ 63⟩) = false
      ∧ Cmd.wf (.storeProgram ⟨0, 16, zeros 15⟩) = false ∧ Cmd.wf (.storeErase ⟨2 ^ 32, 0⟩) = false
      ∧ Cmd.wf (.guardUnlock ⟨0, 1, []⟩) = false ∧ Cmd.wf (.guardUnlock ⟨1, 1, zeros 63⟩) = false ∧ Cmd.wf (.guardSetKey (zeros 63)) = false
      ∧ Cmd.wf (.guardSetResponse ⟨1, [⟨65536, 0, 0⟩]⟩) = false ∧ Cmd.wf (.imageStage ⟨0, 0, zeros 15⟩) = false := by decide +kernel

theorem test_ill_formed_entries :
    Submit.wf { sealedEntry 1 .devInfo with port := 2 } = false ∧ Submit.wf { sealedEntry 1 .devInfo with sluice := 32 } = false
      ∧ Submit.wf { sealedEntry 1 .devInfo with t := cadenceClocks } = false ∧ Submit.wf { sealedEntry 1 .devInfo with roff := 65536 } = false
      ∧ Submit.wf { sealedEntry 1 .devInfo with sealing := .envelope true false 256 0 true true } = false
      ∧ Submit.wf (sealedEntry 1 .devInfo) = true := by decide

/-! ## Every mailbox command is accepted somewhere: the hypothesis of the statements on entries (`accepted`) is met -/

theorem test_accepts_dev :
    accepts (.devInfo) (up) = true
      ∧ accepts (.devEcho (zeros 32)) (up) = true := by
  decide +kernel

theorem test_accepts_power :
    accepts (.powerSetDomains ⟨1#64 <<< 17, 1#64 <<< 18⟩) (up) = true
      ∧ accepts (.powerSetState ⟨3, 0x010⟩) (up) = true
      ∧ accepts (.powerStatus) (up) = true := by
  decide +kernel

theorem test_accepts_wheel :
    accepts (.wheelSetGear ⟨1, 2⟩) (up) = true
      ∧ accepts (.wheelSetJockey ⟨1, 0, 10000, 20⟩) (up) = true
      ∧ accepts (.wheelServiceSpoke ⟨0, 0, 2⟩) (serving .serving) = true
      ∧ accepts (.wheelReturnSpoke ⟨0, 0⟩) (serving .covered) = true
      ∧ accepts (.wheelUseRelief 15 1) (up) = true
      ∧ accepts (.wheelUseRelief 0 0) ({ up with relief := { Relief.reset with phase := .serving } }) = true
      ∧ accepts (.wheelStatus 15) (up) = true := by
  decide +kernel

theorem test_accepts_chain :
    accepts (.chainSwitchBank ⟨0x8000, 3⟩) (up) = true
      ∧ accepts (.chainSetChannel ⟨127, 63, 3, 1, 1, 127, 15, 23, 0x3F800000⟩) (up) = true
      ∧ accepts (.chainSetTrip ⟨127, 3, 8, 3, 15, 65535, 0, 0⟩) (up) = true
      ∧ accepts (.chainClearTrip 1) (up) = true
      ∧ accepts (.chainStatus 127) (up) = true := by
  decide +kernel

theorem test_accepts_meter :
    accepts (.meterDefine { def5 with meter := 255 }) (metered) = true
      ∧ accepts (.meterUndefine ⟨5, 0x10000⟩) (metered) = true
      ∧ accepts (.meterMapCf ⟨15, 5, 15, 80, 1000000, 0⟩) (metered) = true
      ∧ accepts (.meterMapCf ⟨15, 0, 0xFF, 0, 0, 0⟩) (up) = true
      ∧ accepts (.meterStatus 5) (metered) = true := by
  decide +kernel

theorem test_accepts_pq :
    accepts (.pqSetChannel ⟨127, 1, 1, 1, 127, 1, 1, 0x43660000, 9999, 10001, 1, 1000⟩) (up) = true
      ∧ accepts (.pqSetMeter ⟨5, 1⟩) (metered) = true
      ∧ accepts (.pqSetCapture { capCfg with capture := 0xFF }) (powered [8] up) = true
      ∧ accepts (.pqArm 3 1) (withCap) = true
      ∧ accepts (.pqTrigger 3) (withCap) = true
      ∧ accepts (.pqRelease ⟨3, 1⟩) (withCap) = true
      ∧ accepts (.pqStatus 3) (withCap) = true
      ∧ accepts (.pqStreamOpen strCfg) (powered [8] up) = true
      ∧ accepts (.pqStreamClose 2) (withStr) = true := by
  decide +kernel

theorem test_accepts_cal :
    accepts (.calRun run0) (up) = true
      ∧ accepts (.calCommit ⟨1, run0.targets⟩) (up.modChannel 0 fun c => { c with cand := [(0, cand0 .ready)] }) = true
      ∧ accepts (.calDiscard ⟨0, 0⟩) (up.modChannel 0 fun c => { c with cand := [(0, cand0 .ready)] }) = true
      ∧ accepts (.calStatus ⟨127, 1⟩) (up) = true
      ∧ accepts (.calRead ⟨127, 1, 1⟩) (up) = true
      ∧ accepts (.calAnchor) (up) = true
      ∧ accepts (.calSetReference ⟨1, 1⟩) (up) = true := by
  decide +kernel

theorem test_accepts_tariff :
    accepts (.tariffActivateAt 10) (up.modTariff 0 fun t => { t with passiveValid := true }) = true
      ∧ accepts (.tariffSetMeter ⟨5, 1, 7, 15, 0xFF⟩) (metered) = true
      ∧ accepts (.tariffStatus) (up) = true := by
  decide +kernel

theorem test_accepts_ledger :
    accepts (.ledgerReadSigned ⟨5, 0, 31⟩) (metered) = true
      ∧ accepts (.ledgerSetDemand ⟨5, ⟨15, 60, 15, 255⟩ :: List.replicate 3 ⟨0xFF, 0, 0, 0⟩⟩) (metered) = true
      ∧ accepts (.ledgerSetTamper ⟨5, { TamperCfg.factory with enable := 7 }⟩) (metered) = true
      ∧ accepts (.ledgerClosePeriod 32) (metered) = true
      ∧ accepts (.ledgerStatus 5) (metered) = true := by
  decide +kernel

theorem test_accepts_polder :
    accepts (.polderCreate ⟨rec1, 1, 2⟩) (up) = true
      ∧ accepts (.polderAssign 1 [rec1]) (up.modPolder 1 fun q => { q with state := 1, sluices := 2 }) = true
      ∧ accepts (.polderDissolve 1) (up.modPolder 1 fun q => { q with state := 1, sluices := 2 }) = true
      ∧ accepts (.polderGetKey) (up) = true
      ∧ accepts (.polderStatus 15) (up) = true
      ∧ accepts (.polderReadAudit ⟨0, 64⟩) (up) = true := by
  decide +kernel

theorem test_accepts_event :
    accepts (.eventRead 64) (up) = true
      ∧ accepts (.eventMask ⟨31, 0, 0⟩) (up) = true
      ∧ accepts (.eventRoute ⟨3, 0xFFFF⟩) (up) = true := by
  decide +kernel

theorem test_accepts_plc :
    accepts (.plcSetLink ⟨1, 2, 0, 1, 0⟩) (up) = true
      ∧ accepts (.plcSetNetwork ⟨1, 0xFFFE, 1, 5⟩) (up) = true
      ∧ accepts (.plcSetSpectrum ⟨1, (40, 245) :: List.replicate 15 (0, 0), List.replicate 206 60⟩) (up) = true
      ∧ accepts (.plcSend ⟨2, 15, 3, 2, 1500, zeros 1500⟩) ({ up with plc := { Plc.reset with link := ⟨1, 0, 0, 0, 0⟩ } }) = true
      ∧ accepts (.plcRecv) (up) = true
      ∧ accepts (.plcStatus) (up) = true := by
  decide +kernel

theorem test_accepts_time :
    accepts (.timeSet ⟨0, 5⟩) (up) = true
      ∧ accepts (.timeSet ⟨1, -16777216⟩) (up) = true
      ∧ accepts (.timeTrust 1) (up) = true
      ∧ accepts (.timeSetAlarm ⟨9, 0xFFFFFFFFFF, 1⟩) (up) = true
      ∧ accepts (.timeSetPeriodic ⟨22, 1⟩) (up) = true
      ∧ accepts (.timeStatus) (up) = true := by
  decide +kernel

theorem test_accepts_store :
    accepts (.storeRead ⟨16383, 1⟩) (up) = true
      ∧ accepts (.storeProgram ⟨16368, 16, zeros 16⟩) (up) = true
      ∧ accepts (.storeErase ⟨0, 4⟩) (up) = true := by
  decide +kernel

theorem test_accepts_guard :
    accepts (.guardUnlock ⟨0, 0, []⟩) (up) = true
      ∧ accepts (.guardSetKey ((leBytes 32 p256Gx).reverse ++ (leBytes 32 p256Gy).reverse)) (up) = true
      ∧ accepts (.guardSetResponse ⟨1, [⟨511, 1, 7⟩]⟩) (up) = true := by
  decide +kernel

theorem test_accepts_tandem :
    accepts (.tandemEnable ⟨1, 3⟩) (up) = true
      ∧ accepts (.tandemHandover) ({ up with tdm := { Tdm.reset with role := .captain, heldEpoch := 1 } }) = true
      ∧ accepts (.tandemStatus) (up) = true := by
  decide +kernel

theorem test_accepts_image :
    accepts (.imageStage ⟨1, 0, zeros 16⟩) ({ up with seals := { Seal.reset with open_ := true } }) = true
      ∧ accepts (.imageStage ⟨0, 0, zeros 16⟩) (up) = true
      ∧ accepts (.imageConfirm) ({ up with flash := { Flash.reset with trial := some (5, false) } }) = true
      ∧ accepts (.imageStatus) (up) = true := by
  decide +kernel

theorem test_accepts_polder_self :
    accepted (sealedOne 9 .polderClose) .polderClose (two.advance 1000) = true
      ∧ accepted (sealedOne 9 (.polderRelease { rec1 with sluices := 4 })) (.polderRelease { rec1 with sluices := 4 }) (two.advance 1000) = true := by
  decide +kernel

theorem length_leBytes (n v : Nat) : (leBytes n v).length = n := by
  induction n generalizing v with
  | zero => rfl
  | succ n ih => simp [leBytes, ih]

theorem length_zeros (n : Nat) : (zeros n).length = n := by simp [zeros]

theorem length_slice (l : List Byte) (o n : Nat) : (slice l o n).length = n := by
  simp only [slice, List.length_append, length_zeros, List.length_take]
  omega

/-- The longest certificate fits the result (R383), so `dev.identity` is accepted whatever the certificate of the device. -/
theorem test_accepts_identity : accepts .devIdentity up = true := by
  have hl : devIdentityBytes.length ≤ 1176 := by
    simp only [devIdentityBytes, List.length_append, length_leBytes, length_zeros, length_slice, List.length_take]
    omega
  have hr : resultFits (ticketOf (sealedEntry 9 .devIdentity) .devIdentity (up.advance 1000)) .devIdentity = true := by
    show decide (devIdentityBytes.length + _ ≤ _) = true
    exact decide_eq_true (Nat.le_trans (Nat.add_le_add_right hl _) (by decide +kernel))
  have hu : unrefused (sealedEntry 9 .devIdentity) .devIdentity (up.advance 1000) = true := by decide +kernel
  simp only [accepts, accepted, wellSubmitted, hr, hu]
  decide +kernel

/-! ## The specification's worked examples

Every expected number is the specification's own; each test names the file whose example it takes. -/

/-- 06: fine index 100 of cadence 37 at position 0 is stamped s + 0x4D6042; position 5, 302,284.722 us into the second, at 5,071,496 x 2^-24 s. -/
theorem test_fine_stamp : fineStamp 37 100 0 = 0x4D6042 ∧ fineStamp 37 100 5 = 5071496 := by decide +kernel

/-- 02: 860 at 0b010 raises the request to 0b011, and AVG 480 at 0b011 after 125 low cadences lowers it to 0b010. -/
theorem test_voltage_request :
    ({ Fabric.reset with vreq := 2, last := 860, forced := false, fixed := false } : Fabric).raise.vreq = 3
      ∧ ({ Fabric.reset with vreq := 3, hist := List.replicate 125 480, lowRun := 125, settleLeft := 0, forced := false, fixed := false } : Fabric).predicted = 536
      ∧ ({ Fabric.reset with vreq := 3, hist := List.replicate 125 480, lowRun := 125, settleLeft := 0, forced := false, fixed := false } : Fabric).lower.vreq = 2 := by
  decide +kernel

/-- 12: a doorbell 7.200 ms into a cadence leads to the boundary after the next, one at 6.900 ms to the next. -/
theorem test_commit_boundary :
    (up.advance 353895).commitBoundary = up.b + 2 ∧ (up.advance 339149).commitBoundary = up.b + 1 := by decide +kernel

/-- 13: the dry envelope of 8 bytes takes 60, that of a reading of 552 bytes 604. -/
theorem test_envelope_span :
    (Envelope.sealed true false 1 0 0 0).span 8 = 60 ∧ (Envelope.sealed true false 1 0 0 0).span 552 = 604 := by decide

/-- 10: three sub-intervals of 5 minutes with 0.90, 0.92 and 0.91 kWh make the maximum 10,920 W; 0.30 kWh after them leaves it. -/
theorem test_demand_window :
    let wh (n : Nat) := n * 2 ^ 32
    let cfg (h : List (Nat × Bool)) (a : Nat) (m : Nat × Nat) : Ledger :=
      { Ledger.cleared 0 with
        demand := [{ Demand.unused with cfg := ⟨0, 5, 3, 0xFF⟩, hist := h, acc := a, short := false }], md := [m] }
    ((cfg [(wh 920, false), (wh 900, false), (wh 200, false)] (wh 910) (8080 * 2 ^ 16, 5)).closeSub 0 6 false false).md = [(0x2AA80000, 6)]
      ∧ ((cfg [(wh 910, false), (wh 920, false), (wh 900, false)] (wh 300) (0x2AA80000, 6)).closeSub 0 7 false false).md = [(0x2AA80000, 6)]
      ∧ ((cfg [(wh 200, false)] (wh 900) (0, 0)).closeSub 0 4 false false).md = [(0, 0)] := by decide +kernel

/-- 16: an offset of 0.3172 s is 40 cadences and -2.8 ms; one of 789,004,662 s is 98,625,582,750 cadences and nothing more. -/
theorem test_step_split :
    (splitOffset (3172 / 10000 * 16777216)).1 = 40 ∧ (splitOffset (3172 / 10000 * 16777216)).2 = -28 / 10000 * 16777216
      ∧ splitOffset (789004662 * 16777216) = (98625582750, 0) := by decide +kernel

/-- 15: 150 carriers at 16-QAM and 56 at QPSK with 2 % loss cost 1,814; ROBUST-4 without loss costs 18,725. -/
theorem test_link_cost :
    ({ neigh0 with loss := 1 / 50, mapOut := some ⟨1, true, List.replicate 150 3 ++ List.replicate 56 2, 0, []⟩ } : Neigh).cost 0 = some 1814
      ∧ ({ neigh0 with mapOut := none } : Neigh).cost 0 = some 18725 := by decide +kernel

/-- 08: a segment of 600 rows of three channels takes 118,784 bytes packed and 262,144 in full. -/
theorem test_segment_size :
    capSegSize { capCfg with nchan := 3, format := 1, preMs := 100, postMs := 400 } = 118784
      ∧ capSegSize { capCfg with nchan := 3, format := 0, preMs := 100, postMs := 400 } = 262144 := by decide +kernel

/-- 14: with bits 3 and 4 of group 16 pending and bit 3 fired again since the read, the number 0x0041 clears neither; read as 0x18 with
the number 0x0042, both clear. -/
theorem test_sequence_clear :
    let s (r : LastRead) : State :=
      { up with
        hp := (up.modPort 0 fun p => { p with lastRead := [(16, r)] }).hp
        evt := { up.evt with pending := 1 <<< 515 ||| 1 <<< 516 } }
    (evtSeqWrite 0 16 0x41 (s ⟨0x41, 8, 8⟩)).evt.pending = (1 <<< 515 ||| 1 <<< 516)
      ∧ (evtSeqWrite 0 16 0x42 (s ⟨0x42, 0x18, 0⟩)).evt.pending = 0 := by decide +kernel

/-- 13: the payload of `wheel.use_relief` begins WHEEL, MODE; that of `chain.switch_bank` WHEELS, least byte first, FADE. -/
theorem test_payload_bytes :
    (Cmd.wheelUseRelief 15 1).payload.take 2 = [15, 1] ∧ (Cmd.devEcho [1, 2, 3]).payload = [1, 2, 3]
      ∧ (Cmd.chainSwitchBank ⟨0x8001, 3⟩).payload.take 3 = [0x01, 0x80, 3] := by decide +kernel

/-- 13: `dev.echo` gives its bytes back. -/
theorem test_echo : (applyNow 0 (.devEcho [7, 8]) up).1 = [7, 8] := by decide +kernel

/-- IEEE 802.3: the CRC-32 of the digits 1 to 9 is 0xCBF43926. -/
theorem test_crc32 : crc32 ((List.range 9).map fun i => BitVec.ofNat 8 (0x31 + i)) = 0xCBF43926 := by decide +kernel

/-- 05 (R138, R139, R187): a wheel that settles for the first time has its spokes serving and its jockey settling on S0. -/
theorem test_first_settle :
    let s := wheelSettledPass 0 ((powered [17] up).modDom 17 fun d => { d with onAt := some 0 })
    ((s.wheel 0).slice 7).state = .serving ∧ ((s.wheel 0).slice 8).state = .settling ∧ (s.wheel 0).jockeyAt = some 0 := by decide +kernel

/-- 15 (R432, R441): the check of a frame control's own bytes holds and fails with a bit changed; a SACK begins 30.72 us, 1,510 master clocks, after EOF. -/
theorem test_frame_control :
    controlOk 1 (frameControl 1 4 1 1 3 2 0) = true ∧ controlOk 2 (frameControl 1 4 1 1 3 2 0) = false
      ∧ controlOk 1 ((frameControl 1 4 1 1 3 2 0).set 4 2) = false ∧ sampleClocks sackGap = 1510 := by decide +kernel

/-! ## Witnesses of the statements' hypotheses

One theorem for each statement that has hypotheses: a state and operands that meet the hypotheses of each of its clauses. -/

theorem witness_StepRunsFrontCommand :
    (∃ (c : Instr) (rest : List Instr) (s : State), s.pending = c :: rest) :=
  ⟨.booking, [.booking], { up with pending := [.booking, .booking] }, rfl⟩

theorem witness_EmptyQueueIdles :
    (∃ s : State, s.pending = []) :=
  ⟨up, by decide +kernel⟩

theorem witness_CommandsKeepQueue :
    (∃ (i : Instr) (s t : State), exec i s = .next t) :=
  ⟨.booking, up, up, rfl⟩

theorem witness_StepKeepsOrder :
    (∃ s t : State, s.Inv ∧ step s = .next t) :=
  ⟨up, up, ⟨⟨by decide +kernel, by decide +kernel⟩, rfl⟩⟩

theorem witness_BoundaryInOrder :
    (∃ (b : BoundaryIn) (s : State), s.runs = true) ∧
    (∃ (b : BoundaryIn) (s : State), s.runs = false) :=
  ⟨⟨bIn, up, by decide +kernel⟩,
   ⟨bIn, State.reset, by decide +kernel⟩⟩

theorem witness_RaisedRequest :
    (∃ (occ cap : List Nat) (newSecond : Bool) (s : State), s.fab.fixed = false ∧ s.fab.vreq ≤ 7 ∧ (s.fab.forced = false ∨ (s.pwr.portsReady = true ∧ s.pwr.dryOk = true)) ∧ 819 < (deviceOcc occ).1) :=
  ⟨[820], [], false, (fab (fun f => { f with vreq := 7 })), by decide +kernel⟩

theorem witness_FabricRows :
    (∃ s : State, s.time.off = 0 ∧ s.fab.forced = false ∧ s.fab.fixed = false ∧ 0 < s.fab.vreq ∧ 125 ≤ s.fab.lowRun ∧ s.fab.settleLeft = 0 ∧ s.fab.avg * guaranteed s.fab.vreq / guaranteed (s.fab.vreq - 1) < 717) ∧
    (∃ s : State, s.time.off = 0 ∧ s.fab.settleLeft = 1) ∧
    (∃ s : State, s.time.off = 0 ∧ 125 ≤ s.fab.shedRun ∧ 0 < s.fab.shed) ∧
    (∃ s : State, s.time.off ≠ 0) ∧
    (∃ (occ cap : List Nat) (newSecond : Bool) (s : State), s.fab.forced = true ∧ (s.pwr.portsReady = false ∨ s.pwr.dryOk = false)) ∧
    (∃ (occ cap : List Nat) (newSecond : Bool) (s : State), s.pwr.portsReady = true ∧ s.pwr.dryOk = true) :=
  ⟨⟨(fab (fun f => { f with forced := false, vreq := 1, lowRun := 125 })), by decide +kernel⟩,
   ⟨(fab (fun f => { f with settleLeft := 1 })), by decide +kernel⟩,
   ⟨(fab (fun f => { f with shedRun := 125, shed := 1 })), by decide +kernel⟩,
   ⟨(tim (fun x => { x with off := 1 })), by decide +kernel⟩,
   ⟨[], [], true, State.reset, by decide +kernel⟩,
   ⟨[], [], true, up, by decide +kernel⟩⟩

theorem witness_UnobservedDoorbell :
    (∃ (i : Instr) (x : Submit) (c : Cmd) (s : State), i.entry = some (x, c) ∧ (s.pwr.portsReady = false ∨ s.pwr.pfail = true ∨ 2 ≤ x.port ∨ 32 ≤ x.sluice ∨ ∀ p, p < 16 → (s.polder p).sluices.getLsbD x.sluice = false)) :=
  ⟨.timeStatus (sealedEntry 9 .timeStatus), sealedEntry 9 .timeStatus, .timeStatus, State.reset, ⟨rfl, .inl rfl⟩⟩

theorem witness_NoTicketBusyRetry :
    (∃ (i : Instr) (x : Submit) (c : Cmd) (s : State), i.entry = some (x, c) ∧ (s.advance x.t).observes x.port x.sluice = true ∧ (s.advance x.t).allocate x.sluice = none) :=
  ⟨.timeStatus (sealedEntry 9 .timeStatus), sealedEntry 9 .timeStatus, .timeStatus, noTicket, by decide +kernel⟩

theorem witness_RefusedEntry :
    (∃ (i : Instr) (x : Submit) (c : Cmd) (s : State) (r : Nat), i.entry = some (x, c) ∧ let t := s.advance x.t
      let h := ticketOf x c t
      t.observes x.port x.sluice = true ∧ (t.allocate x.sluice).isSome = true ∧ refusalOf h.polder (entryOf x c t) (ticketed x c t) = some r) ∧
    (∃ (t : Nat) (s : State) (r : RefusalDue), s.out.refusals = [r] ∧ (s.out.held.any fun h => h.order == r.held.order) = true ∧ r.due ≤ (s.advance t).now) ∧
    (∃ (t : Nat) (s : State), (∀ r ∈ s.out.refusals, (s.advance t).now < r.due)) :=
  ⟨⟨(.timeStatus { sealedEntry 9 .timeStatus with sealing := .envelope false false 0 0 true true }), { sealedEntry 9 .timeStatus with sealing := .envelope false false 0 0 true true }, .timeStatus, up, 6, by decide +kernel⟩,
   ⟨5000, { up with out := { Outstanding.reset with held := [held 1], refusals := [⟨held 1, up.now⟩] } }, ⟨held 1, up.now⟩, by decide +kernel⟩,
   ⟨0, { up with out := { Outstanding.reset with refusals := [⟨held 1, up.now + 1⟩] } }, by decide +kernel⟩⟩

theorem witness_AcceptedIsStaged :
    (∃ (i : Instr) (x : Submit) (c : Cmd) (s : State), i.entry = some (x, c) ∧ c.staged = true ∧ let t := s.advance x.t
      let u := ticketed x c t
      let g := stagedOf x c t
      s.time.off < cadenceClocks ∧ accepted x c t = true ∧ unmirrored c t = true) ∧
    (∃ (i : Instr) (x : Submit) (c : Cmd) (s : State), i.entry = some (x, c) ∧ c.staged = true ∧ let t := s.advance x.t
      let u := ticketed x c t
      let g := stagedOf x c t
      s.time.off < cadenceClocks ∧ accepted x c t = true ∧ unmirrored c t = false) :=
  ⟨⟨.timeTrustMark (sealedEntry 9 (.timeTrust 0)), sealedEntry 9 (.timeTrust 0), .timeTrust 0, up, by decide +kernel⟩,
   ⟨.timeTrustMark (sealedEntry 9 (.timeTrust 0)), sealedEntry 9 (.timeTrust 0), .timeTrust 0, (tdm (fun x => { x with role := .captain })), by decide +kernel⟩⟩

theorem witness_AcceptedRunsNow :
    (∃ (i : Instr) (x : Submit) (c : Cmd) (s : State), i.entry = some (x, c) ∧ c.staged = false ∧ (∀ r, c ≠ .plcSend r) ∧ (∀ r, c ≠ .ledgerReadSigned r) ∧ let t := s.advance x.t
      let h := ticketOf x c t
      let r := applyNow h.polder c (ticketed x c t)
      accepted x c t = true ∧ unmirrored c t = true) :=
  ⟨.timeStatus (sealedEntry 9 .timeStatus), sealedEntry 9 .timeStatus, .timeStatus, up, ⟨by decide +kernel, by decide +kernel, by nofun, by nofun, by decide +kernel⟩⟩

theorem witness_FailedChecksComplete :
    (∃ (i : Instr) (x : Submit) (c : Cmd) (s : State), i.entry = some (x, c) ∧ let t := s.advance x.t
      let h := ticketOf x c t
      let u := ticketed x c t
      unrefused x c t = true ∧ let ends (status : Nat) (result : List Byte) : Prop := exec i s = .next (u.finish h status result false)
      (c.authority = true ∧ u.acceptsAuthority = false)) ∧
    (∃ (i : Instr) (x : Submit) (c : Cmd) (s : State), i.entry = some (x, c) ∧ let t := s.advance x.t
      let h := ticketOf x c t
      let u := ticketed x c t
      unrefused x c t = true ∧ let ends (status : Nat) (result : List Byte) : Prop := exec i s = .next (u.finish h status result false)
      (c.authority = false ∨ u.acceptsAuthority = true) ∧ u.journaled h.polder x.nonce = true) ∧
    (∃ (i : Instr) (x : Submit) (c : Cmd) (s : State), i.entry = some (x, c) ∧ let t := s.advance x.t
      let h := ticketOf x c t
      let u := ticketed x c t
      unrefused x c t = true ∧ let ends (status : Nat) (result : List Byte) : Prop := exec i s = .next (u.finish h status result false)
      (c.authority = false ∨ u.acceptsAuthority = true) ∧ u.journaled h.polder x.nonce = false ∧ (x.nonce ≠ 0 ∧ ((othersOf x c t).any fun y => y.nonce == x.nonce) = true)) ∧
    (∃ (i : Instr) (x : Submit) (c : Cmd) (s : State), i.entry = some (x, c) ∧ let t := s.advance x.t
      let h := ticketOf x c t
      let u := ticketed x c t
      unrefused x c t = true ∧ let ends (status : Nat) (result : List Byte) : Prop := exec i s = .next (u.finish h status result false)
      (c.authority = false ∨ u.acceptsAuthority = true) ∧ u.journaled h.polder x.nonce = false ∧ (x.nonce = 0 ∨ ((othersOf x c t).any fun y => y.nonce == x.nonce) = false) ∧ (c.sizeOk = false ∨ 0x8000 < x.roff + x.rmax ∨ resultFits h c = false)) ∧
    (∃ (i : Instr) (x : Submit) (c : Cmd) (s : State), i.entry = some (x, c) ∧ let t := s.advance x.t
      let h := ticketOf x c t
      let u := ticketed x c t
      unrefused x c t = true ∧ let ends (status : Nat) (result : List Byte) : Prop := exec i s = .next (u.finish h status result false)
      (c.authority = false ∨ u.acceptsAuthority = true) ∧ u.journaled h.polder x.nonce = false ∧ (x.nonce = 0 ∨ ((othersOf x c t).any fun y => y.nonce == x.nonce) = false) ∧ c.sizeOk = true ∧ x.roff + x.rmax ≤ 0x8000 ∧ resultFits h c = true ∧ x.roff % 8 ≠ 0) ∧
    (∃ (i : Instr) (x : Submit) (c : Cmd) (s : State), i.entry = some (x, c) ∧ let t := s.advance x.t
      let h := ticketOf x c t
      let u := ticketed x c t
      unrefused x c t = true ∧ let ends (status : Nat) (result : List Byte) : Prop := exec i s = .next (u.finish h status result false)
      (c.authority = false ∨ u.acceptsAuthority = true) ∧ u.journaled h.polder x.nonce = false ∧ (x.nonce = 0 ∨ ((othersOf x c t).any fun y => y.nonce == x.nonce) = false) ∧ c.sizeOk = true ∧ x.roff + x.rmax ≤ 0x8000 ∧ resultFits h c = true ∧ x.roff % 8 = 0 ∧ ∃ n, judge h.polder c false [] (othersOf x c t).isEmpty u = .status n ∧ (∀ r, c ≠ .guardUnlock r)) ∧
    (∃ (i : Instr) (x : Submit) (c : Cmd) (s : State), i.entry = some (x, c) ∧ let t := s.advance x.t
      let h := ticketOf x c t
      let u := ticketed x c t
      unrefused x c t = true ∧ let ends (status : Nat) (result : List Byte) : Prop := exec i s = .next (u.finish h status result false)
      (c.authority = false ∨ u.acceptsAuthority = true) ∧ u.journaled h.polder x.nonce = false ∧ (x.nonce = 0 ∨ ((othersOf x c t).any fun y => y.nonce == x.nonce) = false) ∧ c.sizeOk = true ∧ x.roff + x.rmax ≤ 0x8000 ∧ resultFits h c = true ∧ x.roff % 8 = 0 ∧ ∃ f n l, judge h.polder c false [] (othersOf x c t).isEmpty u = .group f n l) ∧
    (∃ (i : Instr) (x : Submit) (c : Cmd) (s : State), i.entry = some (x, c) ∧ let t := s.advance x.t
      let h := ticketOf x c t
      let u := ticketed x c t
      unrefused x c t = true ∧ let ends (status : Nat) (result : List Byte) : Prop := exec i s = .next (u.finish h status result false)
      (c.authority = false ∨ u.acceptsAuthority = true) ∧ u.journaled h.polder x.nonce = false ∧ (x.nonce = 0 ∨ ((othersOf x c t).any fun y => y.nonce == x.nonce) = false) ∧ c.sizeOk = true ∧ x.roff + x.rmax ≤ 0x8000 ∧ resultFits h c = true ∧ x.roff % 8 = 0 ∧ judge h.polder c false [] (othersOf x c t).isEmpty u = .ok ∧ floodgated c u = true) ∧
    (∃ (i : Instr) (x : Submit) (c : Cmd) (s : State), i.entry = some (x, c) ∧ let t := s.advance x.t
      let h := ticketOf x c t
      let u := ticketed x c t
      unrefused x c t = true ∧ let ends (status : Nat) (result : List Byte) : Prop := exec i s = .next (u.finish h status result false)
      (c.authority = false ∨ u.acceptsAuthority = true) ∧ u.journaled h.polder x.nonce = false ∧ (x.nonce = 0 ∨ ((othersOf x c t).any fun y => y.nonce == x.nonce) = false) ∧ c.sizeOk = true ∧ x.roff + x.rmax ≤ 0x8000 ∧ resultFits h c = true ∧ x.roff % 8 = 0 ∧ judge h.polder c false [] (othersOf x c t).isEmpty u = .ok ∧ floodgated c u = false ∧ sealGated c u = true ∧ u.seals.open_ = false) :=
  ⟨⟨.timeTrustMark (sealedEntry 9 (.timeTrust 0)), sealedEntry 9 (.timeTrust 0), .timeTrust 0, (tdm (fun x => { x with role := .stoker })), by decide +kernel⟩,
   ⟨.timeStatus (sealedEntry 9 .timeStatus), sealedEntry 9 .timeStatus, .timeStatus, (up.modPolder 0 fun q => { q with journal := [9] }), by decide +kernel⟩,
   ⟨.timeStatus (sealedEntry 9 .timeStatus), sealedEntry 9 .timeStatus, .timeStatus, { up with out := { Outstanding.reset with held := [held 9], count := 1 } }, by decide +kernel⟩,
   ⟨(.timeStatus { sealedEntry 9 .timeStatus with rmax := 0x8001 }), { sealedEntry 9 .timeStatus with rmax := 0x8001 }, .timeStatus, up, by decide +kernel⟩,
   ⟨(.timeStatus { sealedEntry 9 .timeStatus with roff := 4 }), { sealedEntry 9 .timeStatus with roff := 4 }, .timeStatus, up, by decide +kernel⟩,
   ⟨.wheelStatus (sealedEntry 9 (.wheelStatus 16)) 16, sealedEntry 9 (.wheelStatus 16), .wheelStatus 16, up, by decide +kernel, by decide +kernel, by decide +kernel, by decide +kernel, by decide +kernel, by decide +kernel, by decide +kernel, by decide +kernel, by decide +kernel, stBadArgument, by decide +kernel, by nofun⟩,
   ⟨.ledgerClosePeriod (sealedEntry 9 (.ledgerClosePeriod 2)) 2, sealedEntry 9 (.ledgerClosePeriod 2), .ledgerClosePeriod 2, up, by decide +kernel, by decide +kernel, by decide +kernel, by decide +kernel, by decide +kernel, by decide +kernel, by decide +kernel, by decide +kernel, by decide +kernel, stBadArgument, 1, [1], by decide +kernel⟩,
   ⟨.wheelStatus (sealedEntry 9 (.wheelStatus 15)) 15, sealedEntry 9 (.wheelStatus 15), .wheelStatus 15, (grd (fun g => { g with closed := true })), by decide +kernel⟩,
   ⟨.imageStage (sealedEntry 9 (.imageStage ⟨1, 0, zeros 16⟩)) ⟨1, 0, zeros 16⟩, sealedEntry 9 (.imageStage ⟨1, 0, zeros 16⟩), .imageStage ⟨1, 0, zeros 16⟩, up, by decide +kernel⟩⟩

theorem witness_StagedCommits :
    (∃ (b : BoundaryIn) (done : List Nat) (g : Staged) (s : State), let u : State := { s with out := { s.out with staged := s.out.staged.filter fun x => x.held.order != g.held.order } }
      recheck g done u = none ∧ activates 0 g.cmd = false ∧ activates 1 g.cmd = false) ∧
    (∃ (b : BoundaryIn) (done : List Nat) (g : Staged) (s : State) (status : Nat) (result : List Byte) (reason : Nat), let u : State := { s with out := { s.out with staged := s.out.staged.filter fun x => x.held.order != g.held.order } }
      recheck g done u = some (status, result, reason)) ∧
    (∃ (b : BoundaryIn) (g : Staged) (s : State), s.out.staged = [g] ∧ g.due ≤ s.b ∧ switches g.cmd = [] ∧ s.tdm.mirrors = []) ∧
    (∃ (b : BoundaryIn) (s : State), (∀ g ∈ s.out.staged, s.b < g.due) ∧ s.tdm.mirrors = []) :=
  ⟨⟨bIn, [], staged (.timeTrust 0) 1000, up, by decide +kernel⟩,
   ⟨bIn, [], staged (.timeTrust 2) 1000, up, stBadArgument, [], 0, by decide +kernel⟩,
   ⟨bIn, staged (.timeTrust 0) 1000, { up with out := { Outstanding.reset with staged := [staged (.timeTrust 0) 1000] } }, by decide +kernel⟩,
   ⟨bIn, { up with out := { Outstanding.reset with staged := [staged (.timeTrust 0) 1001] } }, by decide +kernel⟩⟩

theorem witness_PayloadRoundTrip :
    (∃ c : Cmd, c.wf = true) :=
  ⟨.devEcho (zeros 32), by decide +kernel⟩

theorem witness_DomainChangeCompletes :
    (∃ (t n : Nat) (s : State), 0 < n ∧ n < 33 ∧ ((s.advance t).dom n).state = .rising ∧ ((s.advance t).dom n).offPending = false) ∧
    (∃ (t n : Nat) (s : State), 0 < n ∧ n < 33 ∧ ((s.advance t).dom n).state = .rising ∧ ((s.advance t).dom n).offPending = true) ∧
    (∃ (t n : Nat) (s : State), 0 < n ∧ n < 33 ∧ ((s.advance t).dom n).state = .draining ∧ (s.advance t).napOrder n = true) ∧
    (∃ (t n : Nat) (s : State), 0 < n ∧ n < 33 ∧ ((s.advance t).dom n).state = .drainThenOn ∧ (s.advance t).napOrder n = true) ∧
    (∃ (d : Dom) (x now : Nat), d.riseFrom = some x) ∧
    (∃ (n : Nat) (s : State), n < 17 ∧ n ≠ 5 ∧ n ≠ 12 ∧ n ≠ 13 ∧ n ≠ 14 ∧ n ≠ 15) ∧
    (∃ (n : Nat) (s : State), n ≠ 12 ∧ n ≠ 14 ∧ n ≠ 15 ∧ n ≠ 16) ∧
    (∃ (n : Nat) (s : State), n ≠ 5 ∧ n ≠ 8 ∧ n ≠ 9 ∧ n ≠ 14 ∧ n ≠ 15) ∧
    (∃ (n : Nat) (s : State), s.mem.wf = true ∧ (n = 8 ∨ n = 9)) :=
  ⟨⟨0, 32, (up.modDom 32 fun d => { d with state := .rising }), by decide +kernel⟩,
   ⟨0, 1, (up.modDom 1 fun d => { d with state := .rising, offPending := true }), by decide +kernel⟩,
   ⟨0, 32, (pwr (fun p => { p with state := .nap })).modDom 32 fun d => { d with state := .draining }, by decide +kernel⟩,
   ⟨0, 1, (up.modDom 1 fun d => { d with state := .drainThenOn }), by decide +kernel⟩,
   ⟨{ Dom.reset with riseFrom := some 5 }, 5, 9, by decide +kernel⟩,
   ⟨16, up, by decide +kernel⟩,
   ⟨13, up, by decide +kernel⟩,
   ⟨32, up, by decide +kernel⟩,
   ⟨9, up, by decide +kernel⟩⟩

theorem witness_SupplyRows :
    (∃ (t : Nat) (s : State), s.pwr.state ≠ .nap ∧ s.pwr.porstHigh = true ∧ s.pwr.aonLost = false ∧ s.pwr.pfail = false) ∧
    (∃ (t : Nat) (s : State), (s.pwr.state = .nap ∨ s.pwr.porstHigh = false ∨ s.pwr.aonLost = true ∨ s.pwr.pfail = true)) ∧
    (∃ (t : Nat) (kept : Bool) (s : State), s.pwr.state = .nap ∧ s.pwr.afterPfail = true ∧ s.pwr.porstHigh = true ∧ s.pwr.aonLost = false ∧ s.pwr.halted = false) ∧
    (∃ (t : Nat) (kept : Bool) (s : State), (s.pwr.state ≠ .nap ∨ s.pwr.afterPfail = false ∨ s.pwr.porstHigh = false ∨ s.pwr.aonLost = true ∨ s.pwr.halted = true)) ∧
    (∃ (t held : Nat) (opened : Bool) (s : State), s.seals.open_ ≠ opened ∧ 656 ≤ held ∧ (∀ x, s.seals.changedAt = some x → x + 983040 ≤ (s.advance t).now) ∧ let u : State := { s.advance t with seals := { s.seals with open_ := opened, changedAt := some (s.advance t).now } }
      s.dryRuns = true) ∧
    (∃ (t held : Nat) (opened : Bool) (s : State), s.seals.open_ ≠ opened ∧ 656 ≤ held ∧ (∀ x, s.seals.changedAt = some x → x + 983040 ≤ (s.advance t).now) ∧ let u : State := { s.advance t with seals := { s.seals with open_ := opened, changedAt := some (s.advance t).now } }
      s.dryRuns = false ∧ s.seals.latched.length < 4) ∧
    (∃ (t held : Nat) (opened : Bool) (s : State), s.seals.open_ ≠ opened ∧ 656 ≤ held ∧ (∀ x, s.seals.changedAt = some x → x + 983040 ≤ (s.advance t).now) ∧ let u : State := { s.advance t with seals := { s.seals with open_ := opened, changedAt := some (s.advance t).now } }
      s.dryRuns = false ∧ 4 ≤ s.seals.latched.length) ∧
    (∃ (t held : Nat) (opened : Bool) (s : State), (opened = s.seals.open_ ∨ held < 656 ∨ ∃ x, s.seals.changedAt = some x ∧ (s.advance t).now < x + 983040)) :=
  ⟨⟨0, up, by decide +kernel⟩,
   ⟨0, State.reset, by decide +kernel⟩,
   ⟨0, true, (pwr (fun p => { p with state := .nap, afterPfail := true })), by decide +kernel⟩,
   ⟨0, true, up, by decide +kernel⟩,
   ⟨0, 656, true, up, ⟨by decide +kernel, by decide +kernel, by intro x h; have h : Option.none = some x := h; (cases h), by decide +kernel⟩⟩,
   ⟨0, 656, true, { pwr (fun p => { p with state := .nap }) with seals := { Seal.reset with latched := [(false, 1), (true, 2), (false, 3)] } }, ⟨by decide +kernel, by decide +kernel, by intro x h; have h : Option.none = some x := h; (cases h), by decide +kernel, by decide +kernel⟩⟩,
   ⟨0, 656, true, { pwr (fun p => { p with state := .nap }) with seals := { Seal.reset with latched := [(false, 1), (true, 2), (false, 3), (true, 4)] } }, ⟨by decide +kernel, by decide +kernel, by intro x h; have h : Option.none = some x := h; (cases h), by decide +kernel, by decide +kernel⟩⟩,
   ⟨0, 655, true, up, Or.inr (Or.inl (by decide +kernel))⟩⟩

theorem witness_WakeReasons :
    (∃ (r : Nat) (s : State), (s.pwr.porstHigh = false ∨ s.pwr.aonLost = true ∨ s.pwr.halted = true)) ∧
    (∃ (r : Nat) (s : State), s.pwr.state ≠ .nap ∧ s.pwr.state ≠ .hush ∧ s.pwr.episodeOpen = false) ∧
    (∃ (r : Nat) (s : State), s.pwr.porstHigh = true ∧ s.pwr.aonLost = false ∧ s.pwr.halted = false ∧ s.pwr.state ≠ .nap ∧ s.pwr.state ≠ .hush ∧ s.pwr.episodeOpen = true ∧ r < 7) ∧
    (∃ (r : Nat) (s : State), s.pwr.porstHigh = true ∧ s.pwr.aonLost = false ∧ s.pwr.halted = false ∧ s.pwr.state = .hush ∧ r < 7) ∧
    (∃ (r : Nat) (s : State), s.pwr.porstHigh = true ∧ s.pwr.aonLost = false ∧ s.pwr.halted = false ∧ s.pwr.state = .nap ∧ r < 7 ∧ s.pwr.afterPfail = true ∧ s.pwr.mainWarn = true ∧ s.pwr.aonVbat = true) ∧
    (∃ (r : Nat) (s : State), s.pwr.porstHigh = true ∧ s.pwr.aonLost = false ∧ s.pwr.halted = false ∧ s.pwr.state = .nap ∧ r < 7 ∧ (s.pwr.afterPfail = false ∨ s.pwr.mainWarn = false)) ∧
    (∃ s : State, s.pwr.portsReady = true ∧ ∃ d, s.pwr.after = some d ∧ d ≠ .hush) ∧
    (∃ s : State, s.pwr.portsReady = true ∧ s.pwr.after = some .hush) :=
  ⟨⟨0, State.reset, by decide +kernel⟩,
   ⟨6, up, by decide +kernel⟩,
   ⟨6, (pwr (fun p => { p with episodeOpen := true })), by decide +kernel⟩,
   ⟨6, (pwr (fun p => { p with state := .hush })), by decide +kernel⟩,
   ⟨6, (pwr (fun p => { p with state := .nap, afterPfail := true, mainWarn := true, aonVbat := true })), by decide +kernel⟩,
   ⟨6, (pwr (fun p => { p with state := .nap })), by decide +kernel⟩,
   ⟨(pwr (fun p => { p with after := some .run })), by decide +kernel, .run, by decide +kernel⟩,
   ⟨(pwr (fun p => { p with after := some .hush })), by decide +kernel⟩⟩

theorem witness_ResetRows :
    (∃ (r : StartIn) (s : State), s.pwr.porstHigh = true ∧ s.pwr.aonLost = false) ∧
    (∃ (r : StartIn) (s : State), (s.pwr.porstHigh = false ∨ s.pwr.aonLost = true) ∧ r.tmode = true) ∧
    (∃ (r : StartIn) (s : State), (s.pwr.porstHigh = false ∨ s.pwr.aonLost = true) ∧ r.tmode = false) :=
  ⟨⟨startIn false, up, by decide +kernel⟩,
   ⟨startIn true, State.reset, by decide +kernel⟩,
   ⟨startIn false, (pwr (fun p => { p with aonLost := true })), by decide +kernel⟩⟩

theorem witness_PowerSequenceRows :
    (∃ (t n : Nat) (s : State), n ∈ [1, 2, 3, 4, 6, 7, 10, 11] ∧ ((s.advance t).dom n).decidedOn = true ∧ (s.pwr.state = .run ∨ s.pwr.state = .trim ∨ (s.pwr.state = .hush ∧ (s.pwr.held = .run ∨ s.pwr.held = .trim)))) ∧
    (∃ (t n : Nat) (s : State), 0 < n ∧ n < 33 ∧ ((s.advance t).dom n).decidedOn = true ∧ s.pwr.state ≠ .nap) ∧
    (∃ (t n : Nat) (e : BitVec 32) (s : State), (n = 0 ∨ 33 ≤ n ∨ ((s.advance t).dom n).decidedOn = false ∨ s.pwr.state = .nap ∨ ((s.advance t).dom n).epoch ≠ e)) ∧
    (∃ s : State, s.time.off = 0 ∧ s.pwr.hushDefer = true ∧ s.pwr.hushWant = true ∧ s.pwr.devWakeHigh = false ∧ s.pwr.portsReady = true ∧ (s.pwr.state = .run ∨ s.pwr.state = .trim)) ∧
    (∃ s : State, (s.time.off ≠ 0 ∨ s.pwr.hushDefer = false)) ∧
    (∃ (p : PubIn) (s : State), s.pwr.pfail = true ∧ s.pwr.pfailClosed = true ∧ s.older = []) ∧
    (∃ (p : PubIn) (s : State), (s.pwr.pfail = false ∨ s.pwr.pfailClosed = false ∨ s.older ≠ [])) ∧
    (∃ (m : Nat) (s : State), m ∈ s.definedMeters) :=
  ⟨⟨0, 11, powered [11] up, by decide +kernel⟩,
   ⟨0, 32, powered [32] up, by decide +kernel⟩,
   ⟨0, 13, 0, up, by decide +kernel⟩,
   ⟨(pwr (fun p => { p with hushDefer := true, hushWant := true })), by decide +kernel⟩,
   ⟨up, by decide +kernel⟩,
   ⟨⟨[]⟩, (pwr (fun p => { p with pfail := true, pfailClosed := true })), by decide +kernel⟩,
   ⟨⟨[]⟩, up, by decide +kernel⟩,
   ⟨5, metered, by decide +kernel⟩⟩

theorem witness_PortsReadyRows :
    (∃ (t : Nat) (s : State), s.pwr.portsReady = false ∧ s.pwr.porstHigh = true ∧ s.pwr.aonLost = false ∧ s.pwr.halted = false ∧ (s.pwr.state = .run ∨ s.pwr.state = .trim) ∧ s.flash.restarting = none ∧ s.pwr.startBoundary = false ∧ (s.pwr.dryOk = false ∨ s.pwr.firstPub = true)) ∧
    (∃ (t : Nat) (s : State), (s.pwr.portsReady = true ∨ s.pwr.state = .hush ∨ s.pwr.state = .nap ∨ (s.pwr.dryOk = true ∧ s.pwr.firstPub = false))) ∧
    (∃ (t port sluice : Nat) (s : State), s.pwr.portsReady = true ∧ port < 2 ∧ sluice < 32) :=
  ⟨⟨0, (pwr (fun p => { p with portsReady := false })), by decide +kernel⟩,
   ⟨0, up, by decide +kernel⟩,
   ⟨0, 1, 31, up, by decide +kernel⟩⟩

theorem witness_PublicationRows :
    (∃ (p : PubIn) (s : State), s.closing.open_ = true ∧ s.older = [] ∧ s.dryRuns = true) ∧
    (∃ (p : PubIn) (s : State), (s.closing.open_ = false ∨ s.older ≠ [] ∨ s.dryRuns = false)) ∧
    (∃ (t : Nat) (p : PubIn) (s : State), s.dryRuns = true ∧ (s.older ≠ [] ∨ (s.closing.open_ = true ∧ 196608 < (s.advance t).time.off))) ∧
    (∃ (t : Nat) (p : PubIn) (s : State), (s.dryRuns = false ∨ (s.older = [] ∧ (s.closing.open_ = false ∨ (s.advance t).time.off ≤ 196608)))) :=
  ⟨⟨⟨[]⟩, (clo (fun c => { c with open_ := true })), by decide +kernel⟩,
   ⟨⟨[]⟩, up, by decide +kernel⟩,
   ⟨196609, ⟨[]⟩, (clo (fun c => { c with open_ := true })), by decide +kernel⟩,
   ⟨196608, ⟨[]⟩, (clo (fun c => { c with open_ := true })), by decide +kernel⟩⟩

theorem witness_BookingRow :
    (∃ (a : PubCadence) (rest : List PubCadence) (s : State), s.book.awaiting = a :: rest ∧ (a.meters.map (·.meter)).Nodup) ∧
    (∃ s : State, s.book.awaiting = []) ∧
    (∃ (l : Ledger) (p : Published) (cad : Nat) (untrusted : Bool), l.rateQ0 < 16 ∧ l.rateQ1 = 0xFF ∧ 2 * p.rate < l.rate.length) :=
  ⟨⟨⟨999, 1000, [pubRec]⟩, [], { metered with book := { Booking.reset with awaiting := [⟨999, 1000, [pubRec]⟩] } }, by decide +kernel⟩,
   ⟨up, by decide +kernel⟩,
   ⟨{ Ledger.cleared 0 with rateQ1 := 0xFF }, pubRec, 7, false, by decide +kernel⟩⟩

theorem witness_CfAndChainRows :
    (∃ (t n : Nat) (e : CfEdge) (rest : List CfEdge) (s : State), (s.cfOut n).edges = e :: rest ∧ (s.cfOut n).kick = false ∧ (s.cfOut n).level = false ∧ e.at_ ≤ (s.advance t).now ∧ (∀ r, (s.cfOut n).lastRise = some r → r + 308 * 8 ≤ (s.advance t).now)) ∧
    (∃ (t n r : Nat) (e : CfEdge) (rest : List CfEdge) (s : State), (s.cfOut n).edges = e :: rest ∧ (s.cfOut n).kick = false ∧ e.at_ ≤ (s.advance t).now ∧ (s.cfOut n).lastRise = some r ∧ (s.advance t).now < r + 308 * 8) ∧
    (∃ (t n : Nat) (e : CfEdge) (rest : List CfEdge) (s : State), (s.cfOut n).edges = e :: rest ∧ (s.cfOut n).kick = false ∧ (s.cfOut n).level = true ∧ e.at_ ≤ (s.advance t).now ∧ (∀ r, (s.cfOut n).lastRise = some r → r + 308 * 8 ≤ (s.advance t).now)) ∧
    (∃ (t n : Nat) (s : State), ((s.cfOut n).kick = true ∨ (s.cfOut n).edges = [] ∨ ∀ e ∈ (s.cfOut n).edges, (s.advance t).now < e.at_)) ∧
    (∃ (t n : Nat) (s : State), (s.cfOut n).level = true ∧ (s.cfOut n).highUntil ≤ (s.advance t).now) ∧
    (∃ (t n : Nat) (s : State), ((s.cfOut n).level = false ∨ (s.advance t).now < (s.cfOut n).highUntil)) ∧
    (∃ (t w : Nat) (f : Fade) (s : State), (s.wheel w).fade = some f ∧ f.from_ * cadenceClocks + 3072 * f.length ≤ (s.advance t).now) ∧
    (∃ (w : Nat) (f : Fade) (s : State), (s.wheel w).fade = some f) ∧
    (∃ (t w : Nat) (f : Fade) (s : State), (s.wheel w).fade = some f ∧ (s.advance t).now < f.from_ * cadenceClocks + 3072 * f.length) ∧
    (∃ (t c x : Nat) (s : State), (s.channel c).shiftAt = some x ∧ x + (3840 + 82774 + 98304) ≤ (s.advance t).now ∧ (s.channel c).tripQuiet = false) ∧
    (∃ (t c : Nat) (s : State), (s.channel c).shiftAt = none ∧ (s.channel c).tripQuiet = true) ∧
    (∃ (t c : Nat) (s : State), (∀ x ∈ (s.channel c).cycleX.cycles.head?, (x.2 + 1600) * 3072 ≤ ((s.advance t).now : Rat))) :=
  ⟨⟨0, 0, ⟨up.now, 80⟩, [], (cfs (fun x => { x with kick := false, edges := [⟨up.now, 80⟩] })), ⟨by decide +kernel, by decide +kernel, by decide +kernel, by decide +kernel, by intro r h; have h : Option.none = some r := h; cases h⟩⟩,
   ⟨0, 0, up.now, ⟨up.now, 80⟩, [], (cfs (fun x => { x with kick := false, edges := [⟨up.now, 80⟩], lastRise := some up.now })), by decide +kernel⟩,
   ⟨0, 0, ⟨up.now, 80⟩, [], (cfs (fun x => { x with kick := false, level := true, edges := [⟨up.now, 80⟩] })), ⟨by decide +kernel, by decide +kernel, by decide +kernel, by decide +kernel, by intro r h; have h : Option.none = some r := h; cases h⟩⟩,
   ⟨0, 0, up, by decide +kernel⟩,
   ⟨0, 0, (cfs (fun x => { x with level := true, highUntil := up.now })), by decide +kernel⟩,
   ⟨0, 0, (cfs (fun x => { x with level := true, highUntil := up.now + 1 })), by decide +kernel⟩,
   ⟨49152, 0, ⟨16, 1000, false⟩, (whl (fun x => { x with fade := some ⟨16, 1000, false⟩ })), by decide +kernel⟩,
   ⟨0, ⟨16, 1000, false⟩, (whl (fun x => { x with fade := some ⟨16, 1000, false⟩ })), by decide +kernel⟩,
   ⟨49151, 0, ⟨16, 1000, false⟩, (whl (fun x => { x with fade := some ⟨16, 1000, false⟩ })), by decide +kernel⟩,
   ⟨0, 0, up.now - 184918, (chn (fun c => { c with shiftAt := some (up.now - 184918), tripQuiet := false })), by decide +kernel⟩,
   ⟨0, 0, up, by decide +kernel⟩,
   ⟨0, 0, up, by intro x h; have h : Option.none = some x := h; cases h⟩⟩

theorem witness_FastTripRows :
    (∃ (st : TripState) (c : TripCfg) (v : Rat) (lost : Bool) (stamp : Nat), c.mode ≠ 0 ∧ (if lost then c.lostTrip else c.sides v != 0) = true ∧ st.asserted = false ∧ c.count ≤ st.run + 1) ∧
    (∃ (st : TripState) (c : TripCfg) (v : Rat) (lost : Bool) (stamp : Nat), (c.mode = 0 ∨ (if lost then c.lostTrip else c.sides v != 0) = false) ∧ st.asserted = true ∧ st.latched = false ∧ c.release ≤ st.clear + 1) ∧
    (∃ (st : TripState) (c : TripCfg) (v : Rat) (lost : Bool) (stamp : Nat), st.asserted = true ∧ st.latched = true) ∧
    (∃ (t c : Nat) (levels : List Int) (s : State), c < 128 ∧ let a := s.advance t
      let x := a.fastInstant 0
      let f := a.fastSample c x levels
      let st := (s.channel c).tripState.next ((a.viewAt x).channel c).trip f.v f.lost (a.stampAt x)
      st.asserted = true ∧ (s.channel c).tripState.asserted = false) ∧
    (∃ (t c : Nat) (levels : List Int) (s : State), c < 128 ∧ let a := s.advance t
      let x := a.fastInstant 0
      let f := a.fastSample c x levels
      let st := (s.channel c).tripState.next ((a.viewAt x).channel c).trip f.v f.lost (a.stampAt x)
      st.asserted = false ∧ (s.channel c).tripState.asserted = true) :=
  ⟨⟨TripState.reset, { TripCfg.reset with mode := 1, tHi := 5 }, 327681, false, 0, by decide +kernel⟩,
   ⟨{ TripState.reset with asserted := true }, { TripCfg.reset with mode := 1, tHi := 5 }, 327680, false, 0, by decide +kernel⟩,
   ⟨{ TripState.reset with asserted := true, latched := true }, TripCfg.reset, 0, false, 0, by decide +kernel⟩,
   ⟨1000, 127, [], (up.modChannel 127 fun c => { c with trip := { c.trip with mode := 1, outMask := 8 } }), by decide +kernel⟩,
   ⟨1000, 127, [], (up.modChannel 127 fun c => { c with trip := { c.trip with mode := 1, lostTrip := false }, tripState := { TripState.reset with asserted := true } }), by decide +kernel⟩⟩

theorem witness_SliceRows :
    (∃ (t w k back : Nat) (s : State), w < 16 ∧ k ≤ 8 ∧ (s.advance t).domOn (17 + w) = true ∧ let y := (s.wheel w).slice k
      y.state ≠ .retired ∧ y.state ≠ .failed ∧ (y.state = .off → y.kept ≠ .retired)) ∧
    (∃ (t w k back : Nat) (s : State), (8 < k ∨ (s.advance t).domOn (17 + w) = false ∨ ((s.wheel w).slice k).state = .retired ∨ ((s.wheel w).slice k).state = .failed ∨ (((s.wheel w).slice k).state = .off ∧ ((s.wheel w).slice k).kept = .retired))) ∧
    (∃ (t w k sp mag : Nat) (s : State), (s.wheel w).servedBy k = some sp ∧ s.gearPolicy w sp = 0 ∧ ((s.wheel w).slice k).climb = true ∧ 49152 < mag) ∧
    (∃ (t w k mag : Nat) (s : State), (mag ≤ 49152 ∨ (s.wheel w).servedBy k = none)) ∧
    (∃ (t w k sp run : Nat) (s : State), (s.wheel w).servedBy k = some sp ∧ s.gearPolicy w sp = 0 ∧ ((s.wheel w).slice k).climb = false ∧ 6144 ≤ run) ∧
    (∃ (t w k sp run : Nat) (s : State), (s.wheel w).servedBy k = some sp ∧ run < 6144) ∧
    (∃ (t w k run : Nat) (s : State), (s.wheel w).servedBy k = none) ∧
    (∃ (w k : Nat) (climb : Bool) (s : State), k < 8 ∧ ((s.wheel w).slice k).state = .serving ∧ ((s.wheel w).slice k).climb = !climb) :=
  ⟨⟨0, 0, 8, 32769, (sliceAt 8 (fun y => { y with state := .dwell })), by decide +kernel⟩,
   ⟨0, 0, 0, 0, (sliceAt 0 (fun y => { y with state := .retired })), by decide +kernel⟩,
   ⟨0, 0, 0, 0, 49153, (sliceAt 0 (fun y => { y with state := .serving, climb := true })).modChannel 0 fun c => c.putSet 1 0 { CalSet.factory true with calCount := 1 }, by decide +kernel⟩,
   ⟨0, 0, 0, 49152, up, by decide +kernel⟩,
   ⟨0, 0, 0, 0, 6144, (sliceAt 0 (fun y => { y with state := .serving })).modChannel 0 fun c => c.putSet 1 0 { CalSet.factory true with calCount := 1 }, by decide +kernel⟩,
   ⟨0, 0, 0, 0, 6143, (sliceAt 0 (fun y => { y with state := .serving })).modChannel 0 fun c => c.putSet 1 0 { CalSet.factory true with calCount := 1 }, by decide +kernel⟩,
   ⟨0, 0, 8, 0, up, by decide +kernel⟩,
   ⟨0, 7, true, (sliceAt 7 (fun y => { y with state := .serving })), by decide +kernel⟩⟩

theorem witness_DwellVerdicts :
    (∃ (w : Nat) (v : Visit) (s : State), (s.wheel w).verdictDue = some v ∧ v.at_ + 18 ≤ s.time.bnd) ∧
    (∃ (w : Nat) (s : State), (∀ v ∈ (s.wheel w).verdictDue, s.time.bnd < v.at_ + 18)) ∧
    (∃ (w k : Nat) (v : Verdict) (s : State), (s.wheel w).jockey.suspect = false ∧ 3 ≤ (failedSpokes (((k, v) :: (s.wheel w).jcount).take 8)).length ∧ (∃ j, j < 8 ∧ ((s.wheel w).slice j).state.skipped = false)) ∧
    (∃ (w k : Nat) (v : Verdict) (s : State), k < 8 ∧ (s.wheel w).jockey.suspect = false ∧ (failedSpokes (((k, v) :: (s.wheel w).jcount).take 8)).length < 3) :=
  ⟨⟨0, ⟨3, 982, ⟨12, 9⟩⟩, (whl (fun x => { x with verdictDue := some ⟨3, 982, ⟨12, 9⟩⟩ })), by decide +kernel⟩,
   ⟨0, (whl (fun x => { x with verdictDue := some ⟨3, 983, ⟨12, 9⟩⟩ })), by intro v h; cases h; decide +kernel⟩,
   ⟨0, 2, .fail, (sliceAt 7 (fun y => { y with state := .serving })).modWheel 0 fun x => { x with jcount := [(1, .fail), (0, .fail)] }, ⟨by decide +kernel, by decide +kernel, 7, by decide +kernel⟩⟩,
   ⟨0, 7, .fail, (whl (fun x => { x with jcount := [(0, .fail)], verdicts := [(7, .fail)] })), by decide +kernel⟩⟩

theorem witness_TakeoverRow :
    (∃ (w : Nat) (k : Takeover) (s : State), (s.wheel w).takeover = some k ∧ (s.wheel w).jockey.state ≠ .failed ∧ (s.wheel w).jockey.state ≠ .off ∧ k.spoke < 8 ∧ k.bt ≤ s.time.bnd) ∧
    (∃ (w : Nat) (k : Takeover) (s : State), (s.wheel w).takeover = some k ∧ ((s.wheel w).jockey.state = .failed ∨ (s.wheel w).jockey.state = .off)) ∧
    (∃ (w : Nat) (s : State), (∀ k ∈ (s.wheel w).takeover, (s.wheel w).jockey.state ≠ .failed ∧ (s.wheel w).jockey.state ≠ .off ∧ s.time.bnd < k.bt)) ∧
    (∃ (w : Nat) (k : Takeover) (s : State), k.action = 1 ∧ (((s.wheel w).slice k.spoke).state = .failed ∨ (s.sealedChannel (8 * w + k.spoke) = true ∧ s.seals.open_ = false))) :=
  ⟨⟨0, ⟨7, 1, 1000, false⟩, (sliceAt 8 (fun y => { y with state := .settling })).modWheel 0 fun x => { x with takeover := some ⟨7, 1, 1000, false⟩ }, by decide +kernel⟩,
   ⟨0, ⟨7, 1, 1000, false⟩, (sliceAt 8 (fun y => { y with state := .failed })).modWheel 0 fun x => { x with takeover := some ⟨7, 1, 1000, false⟩ }, by decide +kernel⟩,
   ⟨0, (sliceAt 8 (fun y => { y with state := .settling })).modWheel 0 fun x => { x with takeover := some ⟨7, 1, 1001, false⟩ }, by intro k h; cases h; decide +kernel⟩,
   ⟨0, ⟨7, 1, 1000, false⟩, (sliceAt 7 (fun y => { y with state := .failed })), by decide +kernel⟩⟩

theorem witness_ServiceRows :
    (∃ (w : Nat) (v : Service) (m : Rat) (s : State), (s.wheel w).service = some v ∧ v.means.length < 4 ∧ v.bt + 17 * (v.means.length + 1) + 1 ≤ s.time.bnd ∧ phaseAccepted v v.means.length = some m) ∧
    (∃ (w : Nat) (v : Service) (s : State), (s.wheel w).service = some v ∧ v.means.length < 4 ∧ v.bt + 17 * (v.means.length + 1) + 1 ≤ s.time.bnd ∧ phaseAccepted v v.means.length = none) ∧
    (∃ (w : Nat) (v : Service) (s : State), (s.wheel w).service = some v ∧ v.means.length = 4 ∧ v.bt + 69 ≤ s.time.bnd ∧ v.spoke < 8) ∧
    (∃ (w : Nat) (s : State), (∀ v ∈ (s.wheel w).service, s.time.bnd < v.bt + 18)) :=
  ⟨⟨0, ⟨7, 982, [(0, ⟨8, 8, 8, 8⟩)], []⟩, 1, (whl (fun x => { x with service := some ⟨7, 982, [(0, ⟨8, 8, 8, 8⟩)], []⟩ })), by decide +kernel⟩,
   ⟨0, ⟨7, 982, [], []⟩, (whl (fun x => { x with service := some ⟨7, 982, [], []⟩ })), by decide +kernel⟩,
   ⟨0, ⟨7, 931, [], [0, 100, 0, 100]⟩, (whl (fun x => { x with service := some ⟨7, 931, [], [0, 100, 0, 100]⟩ })), by decide +kernel⟩,
   ⟨0, (whl (fun x => { x with service := some ⟨7, 983, [], []⟩ })), by intro v h; cases h; decide +kernel⟩⟩

theorem witness_ReturnRows :
    (∃ (w : Nat) (r : Return) (s : State), (s.wheel w).ret = some r ∧ r.br + 1 ≤ s.time.bnd ∧ ((s.wheel w).slice r.spoke).state = .settling) ∧
    (∃ (w : Nat) (r : Return) (s : State), (s.wheel w).ret = some r ∧ r.passed < (if r.stale then 4 else 1) ∧ r.br + 18 + 16 * (r.passed + r.inconclusive) ≤ s.time.bnd ∧ let row := if r.stale then Instr.probationVerdict w else Instr.returnCheckVerdict w
      let other := if r.stale then Instr.returnCheckVerdict w else Instr.probationVerdict w
      let v := verdictOf (r.tallies.get ⟨0, 0⟩ (r.passed + r.inconclusive))
      v = .pass) ∧
    (∃ (w : Nat) (r : Return) (s : State), (s.wheel w).ret = some r ∧ r.passed < (if r.stale then 4 else 1) ∧ r.br + 18 + 16 * (r.passed + r.inconclusive) ≤ s.time.bnd ∧ let row := if r.stale then Instr.probationVerdict w else Instr.returnCheckVerdict w
      let other := if r.stale then Instr.returnCheckVerdict w else Instr.probationVerdict w
      let v := verdictOf (r.tallies.get ⟨0, 0⟩ (r.passed + r.inconclusive))
      v = .inconclusive ∧ r.inconclusive ≠ 4) ∧
    (∃ (w : Nat) (r : Return) (s : State), (s.wheel w).ret = some r ∧ r.passed < (if r.stale then 4 else 1) ∧ r.br + 18 + 16 * (r.passed + r.inconclusive) ≤ s.time.bnd ∧ let row := if r.stale then Instr.probationVerdict w else Instr.returnCheckVerdict w
      let other := if r.stale then Instr.returnCheckVerdict w else Instr.probationVerdict w
      let v := verdictOf (r.tallies.get ⟨0, 0⟩ (r.passed + r.inconclusive))
      (v = .fail ∨ (v = .inconclusive ∧ r.inconclusive = 4))) ∧
    (∃ (w : Nat) (r : Return) (s : State), (s.wheel w).ret = some r ∧ (if r.stale then 4 else 1) ≤ r.passed ∧ (s.wheel w).calRun = none ∧ (s.wheel w).jockey.state = .serving ∧ r.spoke < 8) ∧
    (∃ (w k : Nat) (s : State), (s.wheel w).jockey.state = .failed ∧ (s.wheel w).jockeyAt = some k ∧ k < 8 ∧ ((s.wheel w).slice k).state = .covered ∧ (s.wheel w).prob = none) ∧
    (∃ (w : Nat) (s : State), (s.wheel w).jockey.state ≠ .failed) ∧
    (∃ (w : Nat) (s : State), (s.wheel w).ret = none) :=
  ⟨⟨0, ⟨7, 999, false, [], 0, 0⟩, (sliceAt 7 (fun y => { y with state := .settling })).modWheel 0 fun x => { x with ret := some ⟨7, 999, false, [], 0, 0⟩ }, by decide +kernel⟩,
   ⟨0, ⟨7, 934, true, [(3, ⟨12, 8⟩)], 3, 0⟩, (whl (fun x => { x with ret := some ⟨7, 934, true, [(3, ⟨12, 8⟩)], 3, 0⟩ })), by decide +kernel⟩,
   ⟨0, ⟨7, 982, false, [(0, ⟨11, 11⟩)], 0, 0⟩, (whl (fun x => { x with ret := some ⟨7, 982, false, [(0, ⟨11, 11⟩)], 0, 0⟩ })), by decide +kernel⟩,
   ⟨0, ⟨7, 982, false, [(0, ⟨12, 9⟩)], 0, 0⟩, (whl (fun x => { x with ret := some ⟨7, 982, false, [(0, ⟨12, 9⟩)], 0, 0⟩ })), by decide +kernel⟩,
   ⟨0, ⟨7, 900, false, [], 1, 0⟩, (sliceAt 8 (fun y => { y with state := .serving })).modWheel 0 fun x => { x with jockeyAt := some 7, ret := some ⟨7, 900, false, [], 1, 0⟩ }, by decide +kernel⟩,
   ⟨0, 7, ((sliceAt 8 (fun y => { y with state := .failed })).modWheel 0 fun x => { x.modSlice 7 (fun y => { y with state := .covered }) with jockeyAt := some 7 }), by decide +kernel⟩,
   ⟨0, up, by decide +kernel⟩,
   ⟨0, up, by decide +kernel⟩⟩

theorem witness_WheelProbationRows :
    (∃ (w at_ : Nat) (s : State), s.domOn (17 + w) = true ∧ (s.wheel w).settled = false ∧ (s.dom (17 + w)).onAt = some at_ ∧ at_ + 196608 ≤ s.now) ∧
    (∃ (w : Nat) (s : State), (s.domOn (17 + w) = false ∨ (s.wheel w).settled = true ∨ ∀ x ∈ (s.dom (17 + w)).onAt, s.now < x + 196608)) ∧
    (∃ (w : Nat) (p : WheelProb) (s : State), (s.wheel w).prob = some p ∧ p.bw + 8 * p.verdicts.length + 9 ≤ s.time.bnd) ∧
    (∃ (w : Nat) (p : WheelProb) (s : State), (s.wheel w).prob = some p ∧ ((s.wheel w).jockey.state = .failed ∨ (8 ≤ p.verdicts.length ∧ p.unjudged = []) ∨ 16 ≤ p.verdicts.length)) ∧
    (∃ (w : Nat) (s : State), (s.wheel w).prob = none) :=
  ⟨⟨0, 0, (powered [17] up).modDom 17 fun d => { d with onAt := some 0 }, by decide +kernel⟩,
   ⟨0, up, by decide +kernel⟩,
   ⟨0, ⟨991, [0], [], [], []⟩, (whl (fun x => { x with prob := some ⟨991, [0], [], [], []⟩ })), by decide +kernel⟩,
   ⟨0, ⟨0, [], [], [], List.replicate 16 (0, .inconclusive)⟩, (whl (fun x => { x with prob := some ⟨0, [], [], [], List.replicate 16 (0, .inconclusive)⟩ })), by decide +kernel⟩,
   ⟨0, up, by decide +kernel⟩⟩

theorem witness_EngineRows :
    (∃ (t w : Nat) (full : Bool) (s : State), (s.wheel w).engine = 0 ∧ (s.advance t).domOn (17 + w) = true ∧ s.relief.phase = .free ∧ s.relief.failed = false) ∧
    (∃ (t w : Nat) (full : Bool) (s : State), (s.wheel w).engine = 0 ∧ (s.advance t).domOn (17 + w) = true ∧ (s.relief.phase ≠ .free ∨ s.relief.failed = true)) ∧
    (∃ (t w : Nat) (full : Bool) (s : State), ((s.wheel w).engine ≠ 0 ∨ (s.advance t).domOn (17 + w) = false)) ∧
    (∃ (w : Nat) (s : State), s.relief.phase = .free ∧ s.relief.failed = false ∧ w < 16 ∧ (s.wheel w).engine = 2 ∧ (∀ v, v < w → (s.wheel v).engine ≠ 2)) ∧
    (∃ s : State, (s.relief.phase ≠ .free ∨ s.relief.failed = true ∨ ∀ w, w < 16 → (s.wheel w).engine ≠ 2)) ∧
    (∃ s : State, s.relief.phase = .loading ∧ s.relief.due ≤ s.time.bnd ∧ s.domOn 13 = true) ∧
    (∃ s : State, s.relief.phase = .taking ∧ s.relief.due ≤ s.time.bnd ∧ s.domOn 13 = true) ∧
    (∃ s : State, s.relief.phase = .returning ∧ s.relief.due ≤ s.time.bnd ∧ (s.wheel s.relief.wheel).engFailed = false) ∧
    (∃ (t : Nat) (s : State), s.relief.failed = false ∧ (s.relief.phase = .serving ∨ s.relief.phase = .returning)) ∧
    (∃ (t : Nat) (s : State), s.relief.failed = false ∧ s.relief.phase = .free) :=
  ⟨⟨0, 0, false, powered [17] up, by decide +kernel⟩,
   ⟨0, 0, true, { powered [17] up with relief := { Relief.reset with failed := true } }, by decide +kernel⟩,
   ⟨0, 0, true, up, by decide +kernel⟩,
   ⟨1, (up.modWheel 1 fun x => { x with engine := 2 }), by decide +kernel⟩,
   ⟨{ up with relief := { Relief.reset with phase := .serving } }, by decide +kernel⟩,
   ⟨{ powered [13] up with relief := { Relief.reset with phase := .loading, due := 1000 } }, by decide +kernel⟩,
   ⟨{ powered [13] up with relief := { Relief.reset with phase := .taking, due := 1000 } }, by decide +kernel⟩,
   ⟨{ up with relief := { Relief.reset with phase := .returning, due := 1000 } }, by decide +kernel⟩,
   ⟨0, { up with relief := { Relief.reset with phase := .serving } }, by decide +kernel⟩,
   ⟨0, up, by decide +kernel⟩⟩

theorem witness_PqRefreshRows :
    (∃ (t c : Nat) (x : Rat) (rising : Bool) (e : Edges) (s : State), (s.advance t).pqActive c = true ∧ (s.advance t).nextRefresh c = .crossing x rising e) ∧
    (∃ (t c : Nat) (rising : Bool) (s : State), ((s.advance t).pqActive c = false ∨ ∀ x e, (s.advance t).nextRefresh c ≠ .crossing x rising e)) ∧
    (∃ (t c : Nat) (x : Rat) (e : Edges) (s : State), (s.advance t).pqActive c = true ∧ (s.advance t).nextRefresh c = .synthetic x e) ∧
    (∃ (t c n : Nat) (s : State), ((s.advance t).pqActive c = false ∨ n ≠ (s.pqRec c).hcSeq + 1 ∨ ∀ x e, (s.advance t).nextRefresh c ≠ .synthetic x e)) ∧
    (∃ (c : Nat) (x : Rat) (e : Edges) (s : State), s.nextRefresh c = .synthetic x e) ∧
    (∃ (c : Nat) (x : Rat) (rising : Bool) (e : Edges) (s : State), s.nextRefresh c = .crossing x rising e) :=
  ⟨⟨0, 0, 1 / 2, true, { upto := 1, prev := some 1000000000000, low := false, high := true, crossings := [] }, pqWave (-1000000000000) 1000000000000, by decide +kernel⟩,
   ⟨0, 127, false, up, Or.inl (by decide +kernel)⟩,
   ⟨0, 0, 160, { upto := 240, prev := none, low := false, high := false, crossings := [] }, pqSilent, by decide +kernel⟩,
   ⟨0, 127, 5, up, Or.inl (by decide +kernel)⟩,
   ⟨0, 160, { upto := 240, prev := none, low := false, high := false, crossings := [] }, pqSilent, by decide +kernel⟩,
   ⟨0, 1 / 2, true, { upto := 1, prev := some 1000000000000, low := false, high := true, crossings := [] }, pqWave (-1000000000000) 1000000000000, by decide +kernel⟩⟩

theorem witness_PqIntervalRows :
    (∃ (t c : Nat) (s : State), 15 ≤ (s.pqRec c).held150.length ∧ (s.advance t).domOn 12 = true) ∧
    (∃ (t c : Nat) (s : State), (s.pqRec c).held150.length < 15 ∨ (s.advance t).domOn 12 = false) ∧
    (∃ (t c : Nat) (s : State), (s.pqRec c).open_ ≠ [] ∧ (s.pqRec c).validAt.getD 0 + 2 ^ 24 ≤ (s.advance t).stamp) ∧
    (∃ (t c : Nat) (s : State), ((s.pqRec c).open_ = [] ∨ (s.advance t).stamp < (s.pqRec c).validAt.getD 0 + 2 ^ 24)) :=
  ⟨⟨0, 0, { powered [12] up with pq := { Pq.reset with recs := [(0, { PqRec.reset with held150 := List.replicate 15 winRec })] } }, by decide +kernel⟩,
   ⟨0, 0, up, by decide +kernel⟩,
   ⟨0, 0, { up with pq := { Pq.reset with recs := [(0, { PqRec.reset with open_ := [(0, openEv)], validAt := some (up.stamp - 2 ^ 24) })] } }, by decide +kernel⟩,
   ⟨0, 0, up, by decide +kernel⟩⟩

theorem witness_CaptureAndStreamRows :
    (∃ (t k i : Nat) (c : Capture) (l : Laid) (s : State), s.pq.captures.find k = some c ∧ (c.inState .post).head? = some i ∧ (c.seg i).kept.getLast? = some l ∧ (c.seg i).endAt < l.stamp + rowSpan c.cfg.format) ∧
    (∃ (t k i : Nat) (s : State), (∀ c, s.pq.captures.find k = some c → (c.inState .post).head? = some i → ∀ l ∈ (c.seg i).kept.getLast?, l.stamp + rowSpan c.cfg.format ≤ (c.seg i).endAt)) ∧
    (∃ (t k : Nat) (x : Stream) (s : State), s.pq.streams.find k = some x ∧ (s.advance t).rowReady x = true ∧ x.staged = [] ∧ let a := s.advance t
      let w := a.rowAt x.cfg.format x.cfg.channels x.next
      let n := { x with next := x.next + 1, spilling := false }
      x.covers w = true) ∧
    (∃ (t k : Nat) (x : Stream) (s : State), s.pq.streams.find k = some x ∧ (s.advance t).rowReady x = true ∧ x.staged = [] ∧ let a := s.advance t
      let w := a.rowAt x.cfg.format x.cfg.channels x.next
      let n := { x with next := x.next + 1, spilling := false }
      x.covers w = false) ∧
    (∃ (t k : Nat) (x : Stream) (v : Row) (rest : List Row) (s : State), s.pq.streams.find k = some x ∧ (s.advance t).rowReady x = true ∧ x.staged = v :: rest ∧ x.staged.length = 8 ∧ x.covers v = false) ∧
    (∃ (t k n : Nat) (s : State), (∀ x, s.pq.streams.find k = some x → (s.advance t).rowReady x = false ∨ n ≠ x.next)) ∧
    (∃ (t p k : Nat) (v : BitVec 32) (x : Stream) (s : State), s.pwr.portsReady = true ∧ p < 2 ∧ s.pq.streams.find k = some x ∧ x.ended = false ∧ s.carries p x.owner = true ∧ (x.prod - v).toNat ≤ x.size ∧ (v - x.cons).toNat ≤ x.size) ∧
    (∃ (t p k : Nat) (v : BitVec 32) (x : Stream) (s : State), s.pwr.portsReady = true ∧ p < 2 ∧ s.pq.streams.find k = some x ∧ x.ended = false ∧ s.carries p x.owner = true ∧ (x.size < (x.prod - v).toNat ∨ x.size < (v - x.cons).toNat)) ∧
    (∃ (t p k : Nat) (v : BitVec 32) (x : Stream) (s : State), s.pwr.portsReady = true ∧ p < 2 ∧ s.pq.streams.find k = some x ∧ x.ended = false ∧ s.carries p x.owner = false) :=
  ⟨⟨0, 31, 15, capRow, laid, { up with pq := { Pq.reset with captures := [(31, capRow)] } }, by decide +kernel⟩,
   ⟨0, 3, 0, withCap, by
      intro c hc h
      have e : withCap.pq.captures.find 3 = some (capOf 0) := by decide +kernel
      rw [e] at hc; cases hc; revert h; decide +kernel⟩,
   ⟨0, 2, strOf 0, streamOn (strOf 0), by decide +kernel⟩,
   ⟨0, 2, strFull 0, streamOn (strFull 0), by decide +kernel⟩,
   ⟨0, 2, strFull 8, ⟨0, 5, []⟩, List.replicate 7 ⟨0, 5, []⟩, streamOn (strFull 8), by decide +kernel⟩,
   ⟨0, 2, 1, withStr, by
      intro x hx
      have e : withStr.pq.streams.find 2 = some (strOf 0) := by decide +kernel
      rw [e] at hx; cases hx; decide +kernel⟩,
   ⟨0, 1, 2, 0, strOf 0, carried withStr, by decide +kernel⟩,
   ⟨0, 1, 2, 5, strOf 0, carried withStr, by decide +kernel⟩,
   ⟨0, 0, 2, 0, strOf 0, withStr, by decide +kernel⟩⟩

theorem witness_CandidateRows :
    (∃ (c g : Nat) (k : Cand) (s : State), s.cand c g = some k ∧ k.status = .running ∧ k.runEnd ≤ k.seen + 1) ∧
    (∃ (c g : Nat) (s : State), (∀ k ∈ s.cand c g, k.status ≠ .running ∨ k.seen + 1 < k.runEnd)) ∧
    (∃ (c g : Nat) (k : Cand) (s : State), s.cand c g = some k ∧ k.status = .running ∧ k.leg = true ∧ k.bc + 18 ≤ s.time.bnd ∧ ((s.wheel (c / 8)).slice (c % 8)).state = .service ∧ (s.wheel (c / 8)).ret = none ∧ k.seen + 1 < k.bc + 18) ∧
    (∃ (c g : Nat) (k : Cand) (s : State), s.cand c g = some k ∧ k.status = .running ∧ k.leg = true ∧ k.bc + 18 ≤ k.seen + 1 ∧ k.refResp = none ∧ k.broken = false ∧ ((s.wheel (c / 8)).slice (c % 8)).state ≠ .service) ∧
    (∃ (c g : Nat) (s : State), (∀ k ∈ s.cand c g, k.status ≠ .running ∨ k.leg = false)) ∧
    (∃ (t c g a : Nat) (k : Cand) (s : State), s.cand c g = some k ∧ k.readyAt = some a ∧ k.status = .ready ∧ a + seconds 3600 ≤ (s.advance t).now) ∧
    (∃ (t c g a : Nat) (k : Cand) (s : State), s.cand c g = some k ∧ k.readyAt = some a ∧ (s.advance t).now < a + seconds 3600) :=
  ⟨⟨127, 1, cand0 .running, candAt (cand0 .running), by decide +kernel⟩,
   ⟨127, 1, (candAt { cand0 .running with bc := 2000 }), by intro k h; cases h; decide +kernel⟩,
   ⟨127, 1, { cand0 .running with leg := true, bc := 982, seen := 998 }, (candAt { cand0 .running with leg := true, bc := 982, seen := 998 }).modWheel 15 fun x => x.modSlice 7 fun y => { y with state := .service }, by decide +kernel⟩,
   ⟨127, 1, { cand0 .running with leg := true, bc := 982, seen := 999 }, (candAt { cand0 .running with leg := true, bc := 982, seen := 999 }), by decide +kernel⟩,
   ⟨127, 1, candAt (cand0 .running), by intro k h; cases h; decide +kernel⟩,
   ⟨0, 127, 1, 0, { cand0 .ready with readyAt := some 0 }, { candAt { cand0 .ready with readyAt := some 0 } with time := { up.time with bnd := 450000 } }, by decide +kernel⟩,
   ⟨0, 127, 1, 0, { cand0 .ready with readyAt := some 0 }, { candAt { cand0 .ready with readyAt := some 0 } with time := { up.time with bnd := 449999 } }, by decide +kernel⟩⟩

theorem witness_ReferenceRows :
    (∃ (r : RatioIn) (s : State), s.time.off = 0 ∧ s.time.cad % 125 = 0) ∧
    (∃ (r : RatioIn) (s : State), (s.time.off ≠ 0 ∨ s.time.cad % 125 ≠ 0)) ∧
    (∃ (l : Tab (List Rat)) (r : Refs) (x : Nat), x < 3 ∧ r.failed.contains x = true) ∧
    (∃ (l : Tab (List Rat)) (r : Refs) (x : Nat), x < 3 ∧ r.failed.contains x = false ∧ x = r.sel) ∧
    (∃ (l : Tab (List Rat)) (r : Refs) (x : Nat), x < 3 ∧ r.failed.contains x = false ∧ x ≠ r.sel ∧ l.get [] x = []) ∧
    (∃ (l : Tab (List Rat)) (r : Refs) (x : Nat), x < 3 ∧ r.failed.contains x = false ∧ x ≠ r.sel ∧ l.get [] x ≠ []) ∧
    (∃ (t x : Nat) (s : State), x < 3 ∧ s.refs.failed.contains x = false) ∧
    (∃ (t x : Nat) (s : State), (3 ≤ x ∨ s.refs.failed.contains x = true)) ∧
    (∃ (n : Nat) (s : State), s.refs.handoverDue = true ∧ ({ s.refs.slew with handed := false } : Refs).target = some n) :=
  ⟨⟨⟨[(1, [1])]⟩, up, by decide +kernel⟩,
   ⟨⟨[(1, [1])]⟩, up.advance 1, by decide +kernel⟩,
   ⟨[], { Refs.reset with failed := [1] }, 1, by decide +kernel⟩,
   ⟨[], Refs.reset, 0, by decide +kernel⟩,
   ⟨[], Refs.reset, 2, by decide +kernel⟩,
   ⟨[(1, [0])], Refs.reset, 1, by decide +kernel⟩,
   ⟨0, 2, up, by decide +kernel⟩,
   ⟨0, 3, up, by decide +kernel⟩,
   ⟨1, { up with refs := { Refs.reset with handoverDue := true, failed := [0], ratios := [(1, 1)] } }, by decide +kernel⟩⟩

theorem witness_TariffRows :
    (∃ (p : Nat) (s : State), (s.tariff p).pendingT = some s.second ∧ s.tariffTurn = true ∧ s.trusted = true) ∧
    (∃ (p x : Nat) (s : State), (s.tariff p).pendingT = some x ∧ x < s.second ∧ s.tariffTurn = true ∧ s.trusted = true) ∧
    (∃ (p : Nat) (s : State), ((∀ x ∈ (s.tariff p).pendingT, x ≠ s.second) ∨ s.tariffTurn = false ∨ s.trusted = false)) ∧
    (∃ (p : Nat) (s : State), ((∀ x ∈ (s.tariff p).pendingT, s.second ≤ x) ∨ s.tariffTurn = false ∨ s.trusted = false)) ∧
    (∃ (m k : Nat) (s : State), s.beginsSecond = true ∧ (s.ledger m).subAt ≠ some s.b ∧ (s.meter m).state ≠ .undefined ∧ s.bookingDue = false ∧ (s.ledger m).ops = [] ∧ k < 4 ∧ k < (s.ledger m).demand.length ∧ let d := (s.ledger m).demand.getD k Demand.unused
      let moved := offsetMoves s (s.meter m).def_.owner
      d.cfg.q ≠ 0xFF ∧ (moved = true ∨ (s.tariff (s.meter m).def_.owner).active.localAt s.second % ((60 * d.cfg.l : Nat) : Int) = 0)) ∧
    (∃ (m : Nat) (s : State), (s.beginsSecond = false ∨ (s.ledger m).subAt = some s.b ∨ (s.meter m).state = .undefined)) ∧
    (∃ (p key : Nat) (s : State), (s.tariff p).active.billKey s.second = some key ∧ (∀ k ∈ (s.tariff p).billDone, k < key) ∧ s.beginsSecond = true ∧ (s.tariff p).billWait = false ∧ s.trusted = true) ∧
    (∃ (p key : Nat) (s : State), (s.tariff p).active.billKey s.second = some key ∧ (∀ k ∈ (s.tariff p).billDone, k < key) ∧ s.beginsSecond = true ∧ (s.tariff p).billWait = false ∧ s.trusted = false) ∧
    (∃ (p key : Nat) (s : State), (s.tariff p).active.billKey s.second = some key ∧ s.beginsSecond = true ∧ (s.tariff p).billWait = true ∧ s.trusted = true) ∧
    (∃ (p : Nat) (s : State), s.beginsSecond = false) :=
  ⟨⟨15, (up.modTariff 15 fun t => { t with pendingT := some 8 }), by decide +kernel⟩,
   ⟨15, 7, (up.modTariff 15 fun t => { t with pendingT := some 7 }), by decide +kernel⟩,
   ⟨15, (up.modTariff 15 fun t => { t with pendingT := some 9 }), by decide +kernel⟩,
   ⟨15, (up.modTariff 15 fun t => { t with pendingT := some 8 }), by decide +kernel⟩,
   ⟨5, 3, { led (fun l => { l with demand := List.replicate 4 { Demand.unused with cfg := ⟨15, 60, 15, 1⟩ } }) with time := { up.time with cad := 3600 * 125 } }, by decide +kernel⟩,
   ⟨5, up, by decide +kernel⟩,
   ⟨0, 24001, (up.modTariff 0 fun t => { t with active := { Calendar.blank with billDay := 1 } }), by decide +kernel⟩,
   ⟨0, 24001, { tim (fun t => { t with causes := 1 }) with tar := (up.modTariff 0 fun t => { t with active := { Calendar.blank with billDay := 1 } }).tar }, by decide +kernel⟩,
   ⟨0, 24001, (up.modTariff 0 fun t => { t with active := { Calendar.blank with billDay := 1 }, billWait := true }), by decide +kernel⟩,
   ⟨0, up.advance 1, by decide +kernel⟩⟩

theorem witness_PeriodsAndDemand :
    (∃ (l : Ledger) (k stamp : Nat) (e st : Bool), k < l.md.length) ∧
    (∃ (l : Ledger) (k stamp : Nat) (st : Bool), (l.demand.getD k Demand.unused).cfg.q ≠ 0xFF ∧ 0 < (l.demand.getD k Demand.unused).cfg.s) ∧
    (∃ (l : Ledger) (k stamp : Nat) (e st : Bool), (l.demand.getD k Demand.unused).cfg.q = 0xFF) :=
  ⟨⟨Ledger.cleared 0, 3, 7, true, true, by decide +kernel⟩,
   ⟨{ Ledger.cleared 0 with demand := [{ Demand.unused with cfg := ⟨0, 15, 1, 1⟩ }] }, 0, 7, true, by decide +kernel⟩,
   ⟨Ledger.cleared 0, 3, 7, true, true, by decide +kernel⟩⟩

theorem witness_TamperAndReadingRows :
    (∃ (m k : Nat) (s : State), m < 256 ∧ k < 5 ∧ k < (s.ledger m).tamper.length ∧ let e := (s.ledger m).tamper.getD k TamperEnt.zero
      e.active = false ∧ (s.ledger m).cfg.tOn ≤ e.onRun ∧ s.guard.fuses.getLsbD (19 + criterionOf k) = false) ∧
    (∃ (m k : Nat) (s : State), (5 ≤ k ∨ s.guard.fuses.getLsbD (19 + criterionOf k) = true ∨ ((s.ledger m).tamper.getD k TamperEnt.zero).active = true ∨ ((s.ledger m).tamper.getD k TamperEnt.zero).onRun < (s.ledger m).cfg.tOn)) ∧
    (∃ (m k : Nat) (s : State), m < 256 ∧ k < 5 ∧ k < (s.ledger m).tamper.length ∧ let e := (s.ledger m).tamper.getD k TamperEnt.zero
      e.active = true ∧ (s.ledger m).cfg.tOff ≤ e.offRun) ∧
    (∃ (t : Nat) (q : SignReq) (rest : List SignReq) (s : State), s.sign.busy = none ∧ s.sign.queue = q :: rest ∧ s.maySign = true) ∧
    (∃ (t : Nat) (q : SignReq) (rest : List SignReq) (s : State), s.sign.busy = none ∧ s.sign.queue = q :: rest ∧ s.maySign = false) ∧
    (∃ (t : Nat) (s : State), (s.sign.busy.isSome = true ∨ s.sign.queue = [])) ∧
    (∃ (t : Nat) (r : SignRec) (s : State), s.sign.busy = some r) ∧
    (∃ (t : Nat) (s : State), s.sign.busy = none) :=
  ⟨⟨5, 4, (led (fun l => { l with tamper := List.replicate 5 { TamperEnt.zero with onRun := 1250 } })), by decide +kernel⟩,
   ⟨255, 5, up, by decide +kernel⟩,
   ⟨5, 4, (led (fun l => { l with tamper := List.replicate 5 { TamperEnt.zero with active := true, offRun := 1250 } })), by decide +kernel⟩,
   ⟨0, ⟨held 1, ⟨5, 0, 31⟩⟩, [], { metered with sign := ⟨[⟨held 1, ⟨5, 0, 31⟩⟩], none⟩ }, by decide +kernel⟩,
   ⟨0, ⟨held 1, ⟨5, 0, 31⟩⟩, [], { metered with sign := ⟨[⟨held 1, ⟨5, 0, 31⟩⟩], none⟩, tdm := { Tdm.reset with enabled := true, role := .stoker } }, by decide +kernel⟩,
   ⟨0, up, by decide +kernel⟩,
   ⟨0, ⟨held 1, 5, 9, [], 0⟩, { metered with sign := ⟨[], some ⟨held 1, 5, 9, [], 0⟩⟩ }, by decide +kernel⟩,
   ⟨0, up, by decide +kernel⟩⟩

theorem witness_CompletionWritten :
    (∃ (k : Completion) (s : State), k.sluice < 32 ∧ k.result.length ≤ 40 ∧ let base := 0x01000000 + k.sluice * 0x10000 + 0x4000 + 64 * ((s.sluice k.sluice).posts % 256)
      let u := s.writeCompletion k
      s.mem.wf = true) ∧
    (∃ (k : Completion) (s : State), k.sluice < 32 ∧ k.result.length ≤ 40 ∧ let base := 0x01000000 + k.sluice * 0x10000 + 0x4000 + 64 * ((s.sluice k.sluice).posts % 256)
      let u := s.writeCompletion k
      s.evt.disabled.getLsbD (512 + k.sluice) = false) :=
  ⟨⟨posted true, up, by decide +kernel⟩,
   ⟨posted true, up, by decide +kernel⟩⟩

theorem witness_DoorbellRows :
    (∃ (t p n : Nat) (v : BitVec 32) (s : State), s.observes p n = true ∧ v.toNat / 2 ^ 16 ≠ (s.sluice n).epoch.toNat) ∧
    (∃ (t p n : Nat) (v : BitVec 32) (s : State), s.observes p n = true ∧ v.toNat / 2 ^ 16 = (s.sluice n).epoch.toNat ∧ 256 < (v.setWidth 16 - (s.sluice n).taken).toNat) ∧
    (∃ (t p n : Nat) (v : BitVec 32) (s : State), s.observes p n = true ∧ v.toNat / 2 ^ 16 = (s.sluice n).epoch.toNat ∧ v.setWidth 16 = (s.sluice n).taken) ∧
    (∃ (t p n : Nat) (v : BitVec 32) (s : State), s.observes p n = true ∧ v.toNat / 2 ^ 16 = (s.sluice n).epoch.toNat ∧ v.setWidth 16 = (s.sluice n).taken + 1) ∧
    (∃ (t p n : Nat) (v : BitVec 32) (s : State), s.observes p n = false) ∧
    (∃ (t p n : Nat) (v : BitVec 32) (s : State), s.pwr.portsReady = true ∧ p < 2 ∧ n < 32) ∧
    (∃ (k : Completion) (s : State), k.final = false) ∧
    (∃ (t n : Nat) (k : Completion) (rest : List Completion) (s : State), (s.sluice n).waiting = k :: rest) ∧
    (∃ (t n : Nat) (s : State), (s.sluice n).waiting = []) :=
  ⟨⟨0, 1, 0, 0x00010001, up, by decide +kernel⟩,
   ⟨0, 0, 0, 257, up, by decide +kernel⟩,
   ⟨0, 0, 0, 0, up, by decide +kernel⟩,
   ⟨0, 0, 0, 1, up, by decide +kernel⟩,
   ⟨0, 0, 31, 1, up, by decide +kernel⟩,
   ⟨0, 1, 31, 1, up, by decide +kernel⟩,
   ⟨posted false, up, by decide +kernel⟩,
   ⟨0, 31, posted true, [], (up.modSluice 31 fun x => { x with waiting := [posted true] }), by decide +kernel⟩,
   ⟨0, 31, up, by decide +kernel⟩⟩

theorem witness_EventQueueFull :
    (∃ (s : State) (e code stamp : Nat) (data : BitVec 32), s.evt.disabled.getLsbD e = false ∧ sourceExists e = true ∧ let p := s.owner e
      let q := s.polder p
      let r := (s.post e code data stamp).polder p
      q.queue.length < 256) ∧
    (∃ (s : State) (e code stamp : Nat) (data : BitVec 32), s.evt.disabled.getLsbD e = false ∧ sourceExists e = true ∧ let p := s.owner e
      let q := s.polder p
      let r := (s.post e code data stamp).polder p
      q.queue.length = 256) ∧
    (∃ (s : State) (e code stamp : Nat) (data : BitVec 32), s.evt.disabled.getLsbD e = false ∧ sourceExists e = true ∧ let p := s.owner e
      p < 16 ∧ (s.polder p).queue.length = 256 ∧ (s.polder p).overflow = false ∧ s.evt.disabled.getLsbD (704 + p) = false) ∧
    (∃ (s : State) (e code stamp : Nat) (data : BitVec 32), s.evt.disabled.getLsbD e = false ∧ sourceExists e = true ∧ let p := s.owner e
      p < 16 ∧ (s.polder p).queue.length = 256 ∧ (s.polder p).overflow = true) :=
  ⟨⟨(up.modPolder 0 (fun q => { q with queue := List.replicate 255 ⟨0, 0, 0, 0⟩ })), 641, 1, 2, 3, by decide +kernel⟩,
   ⟨(up.modPolder 0 (fun q => { q with queue := List.replicate 256 ⟨0, 0, 0, 0⟩ })), 641, 1, 2, 3, by decide +kernel⟩,
   ⟨(up.modPolder 0 (fun q => { q with queue := List.replicate 256 ⟨0, 0, 0, 0⟩ })), 641, 1, 2, 3, by decide +kernel⟩,
   ⟨(up.modPolder 0 (fun q => { q with queue := List.replicate 256 ⟨0, 0, 0, 0⟩, overflow := true })), 641, 1, 2, 3, by decide +kernel⟩⟩

theorem witness_RestartRows :
    (∃ (t : Nat) (s : State), s.dryRuns = true) ∧
    (∃ (t : Nat) (s : State), s.dryRuns = false) ∧
    (∃ (t : Nat) (ok : Bool) (x : Nat × Bool) (s : State), s.flash.restarting = some x) ∧
    (∃ (t : Nat) (ok : Bool) (s : State), s.flash.restarting = none) ∧
    (∃ (a : Nat) (former : Bool) (s : State), s.flash.trial = some (a, former) ∧ s.flash.restarting = none ∧ a + seconds 600 ≤ s.now) ∧
    (∃ s : State, (s.flash.trial = none ∨ s.flash.restarting.isSome = true ∨ ∀ x ∈ s.flash.trial, s.now < x.1 + seconds 600)) :=
  ⟨⟨0, up, by decide +kernel⟩,
   ⟨0, State.reset, by decide +kernel⟩,
   ⟨0, true, (0, true), (fls (fun f => { f with restarting := some (0, true), trial := some (1, false) })), by decide +kernel⟩,
   ⟨0, true, up, by decide +kernel⟩,
   ⟨0, true, { fls (fun f => { f with trial := some (0, true) }) with time := { up.time with bnd := 75000 } }, by decide +kernel⟩,
   ⟨up, by decide +kernel⟩⟩

theorem witness_HostTransfers :
    (∃ (t p : Nat) (i : Byte) (s : State), s.pwr.portsReady = true ∧ p < 2) ∧
    (∃ (t p a : Nat) (s : State), s.pwr.portsReady = true ∧ p < 2) ∧
    (∃ (t p a : Nat) (write : Bool) (s : State), s.pwr.portsReady = true ∧ p < 2 ∧ inAperture a = true ∧ s.permitted p a write = false) ∧
    (∃ (t p a : Nat) (write : Bool) (s : State), (inAperture a = false ∨ s.permitted p a write = true)) ∧
    (∃ (t p a : Nat) (v : BitVec 32) (s : State), s.pwr.portsReady = true ∧ p < 2 ∧ a < 0x10000 ∧ a % 4 = 0 ∧ (¬ (0x6400 ≤ a ∧ a < 0x6600 ∧ a % 16 = 0))) ∧
    (∃ (t p a : Nat) (v : BitVec 32) (s : State), s.pwr.portsReady = true ∧ p < 2 ∧ a < 0x10000 ∧ a % 4 = 0 ∧ (0x6400 ≤ a ∧ a < 0x6600 ∧ a % 16 = 0)) ∧
    (∃ (t p a : Nat) (data : List Byte) (s : State), s.pwr.portsReady = true ∧ p < 2 ∧ a % 4 ≠ 0) ∧
    (∃ (p a : Nat) (v : BitVec 32) (s : State), (a < 0x2000 ∧ a ≠ 0x114) ∨ (0x3000 ≤ a ∧ a < 0x5000) ∨ (0x5014 ≤ a ∧ a < 0x6000)) ∧
    (∃ (t p n off : Nat) (v : BitVec 32) (s : State), s.pwr.portsReady = true ∧ p < 2 ∧ n < 32 ∧ off < 0x10000 ∧ off % 4 = 0) ∧
    (∃ (t p n a : Nat) (v : BitVec 32) (data : List Byte) (i : Byte) (w : Bool) (s : State), s.pwr.portsReady = false) :=
  ⟨⟨0, 1, 0x0B, up, by decide +kernel⟩,
   ⟨0, 1, 2, up, by decide +kernel⟩,
   ⟨0, 1, 0x01000000, false, up, by decide +kernel⟩,
   ⟨0, 1, 0, false, up, by decide +kernel⟩,
   ⟨0, 1, 0x6604, 1, up, by decide +kernel⟩,
   ⟨0, 1, 0x65F0, 1, up, by decide +kernel⟩,
   ⟨0, 1, 1, zeros 4, up, by decide +kernel⟩,
   ⟨1, 0x1FFC, 1, up, by decide +kernel⟩,
   ⟨0, 1, 31, 0xFFFC, 1, up, by decide +kernel⟩,
   ⟨0, 1, 2, 0, 1, [], 0x0B, true, State.reset, by decide +kernel⟩⟩

theorem witness_EventStatusRead :
    (∃ (t p g : Nat) (s : State), s.pwr.portsReady = true ∧ p < 2 ∧ g < 32) :=
  ⟨0, 1, 31, up, by decide +kernel⟩

theorem witness_EventAndClockRegisters :
    (∃ (t p : Nat) (s : State), s.pwr.portsReady = true ∧ p < 2 ∧ ∃ (g : Nat) (v : BitVec 32) (r : LastRead), (s.port p).lastRead.find g = some r ∧ g < 32 ∧ s.evt.mode.getLsbD g = true ∧ v.setWidth 16 = r.seq) ∧
    (∃ (t p : Nat) (s : State), s.pwr.portsReady = true ∧ p < 2 ∧ ∃ (g : Nat) (v : BitVec 32), (s.evt.mode.getLsbD g = false ∨ (s.port p).lastRead.find g = none ∨ ∀ r ∈ (s.port p).lastRead.find g, v.setWidth 16 ≠ r.seq)) ∧
    (∃ (t p : Nat) (s : State), s.pwr.portsReady = true ∧ p < 2 ∧ ∃ v : BitVec 32, s.evt.enable = false) ∧
    (∃ (t p : Nat) (s : State), s.pwr.portsReady = true ∧ p < 2 ∧ ∃ v : BitVec 32, s.evt.enable = true ∧ v = s.evt.mode) ∧
    (∃ (t p : Nat) (s : State), s.pwr.portsReady = true ∧ p < 2 ∧ ∃ v : BitVec 32, s.evt.enable = true ∧ v ≠ s.evt.mode) :=
  ⟨⟨0, 1, (up.modPort 1 (fun p => { p with lastRead := [(31, ⟨1, 5, 0⟩)] })), by decide +kernel, by decide +kernel, 31, 1, ⟨1, 5, 0⟩, by decide +kernel⟩,
   ⟨0, 1, up, by decide +kernel, by decide +kernel, 31, 1, by decide +kernel⟩,
   ⟨0, 1, { up with evt := { Evt.reset with enable := false } }, by decide +kernel, by decide +kernel, 0, by decide +kernel⟩,
   ⟨0, 1, up, by decide +kernel, by decide +kernel, 0xFFFFFFFF, by decide +kernel⟩,
   ⟨0, 1, up, by decide +kernel, by decide +kernel, 0, by decide +kernel⟩⟩

theorem witness_ParityAndWheelTests :
    (∃ (t p : Nat) (v : BitVec 32) (s : State), s.pwr.portsReady = true ∧ p < 2 ∧ s.par.enable = false) ∧
    (∃ (t p : Nat) (v : BitVec 32) (s : State), s.pwr.portsReady = true ∧ p < 2 ∧ s.par.enable = true) ∧
    (∃ (t p : Nat) (s : State), s.pwr.portsReady = true ∧ p < 2 ∧ s.par.enable = true ∧ s.par.op = none) ∧
    (∃ (t p op : Nat) (v : BitVec 32) (s : State), s.pwr.portsReady = true ∧ p < 2 ∧ s.par.enable = true ∧ s.par.op = some op) ∧
    (∃ (t p w : Nat) (v : BitVec 32) (s : State), s.pwr.portsReady = true ∧ p < 2 ∧ w < 16 ∧ (s.wheel w).test.enable = false) ∧
    (∃ (t p w : Nat) (s : State), s.pwr.portsReady = true ∧ p < 2 ∧ w < 16) ∧
    (∃ (w b : Nat) (r : TestIn) (s : State), (s.wheel w).test.startAt = some b ∧ b + 32 ≤ s.time.bnd) ∧
    (∃ (w : Nat) (r : TestIn) (s : State), (∀ b ∈ (s.wheel w).test.startAt, s.time.bnd < b + 32)) :=
  ⟨⟨0, 1, 7, up, by decide +kernel⟩,
   ⟨0, 1, 7, parOn none, by decide +kernel⟩,
   ⟨0, 1, parOn none, by decide +kernel⟩,
   ⟨0, 1, 4, 1, parOn (some 4), by decide +kernel⟩,
   ⟨0, 1, 15, 1, up, by decide +kernel⟩,
   ⟨0, 1, 15, up, by decide +kernel⟩,
   ⟨15, 968, ⟨0x1FF, true, 0⟩, (up.modWheel 15 fun x => { x with test := { x.test with startAt := some 968 } }), by decide +kernel⟩,
   ⟨15, ⟨0x1FF, true, 0⟩, (up.modWheel 15 fun x => { x with test := { x.test with startAt := some 969 } }), by intro b h; cases h; decide +kernel⟩⟩

theorem witness_IntegrityRows :
    (∃ (t : Nat) (e : ParityIn) (s : State), e.bank < 4 ∧ 0x01000000 ≤ e.address ∧ e.address < 0x02000000 ∧ s.pwr.porstHigh = true ∧ s.pwr.state ≠ .nap) ∧
    (∃ (t : Nat) (e : ParityIn) (s : State), (4 ≤ e.bank ∨ e.address < 0x01000000 ∨ 0x02000000 ≤ e.address ∨ s.pwr.porstHigh = false ∨ s.pwr.state = .nap)) ∧
    (∃ (t : Nat) (e : FlashIn) (s : State), e.corrected = true) ∧
    (∃ (t : Nat) (e : FlashIn) (s : State), e.corrected = false ∧ 0x600000 ≤ e.address ∧ e.address < 0x7C0000) ∧
    (∃ (t : Nat) (e : FlashIn) (s : State), e.corrected = false ∧ (e.address < 0x600000 ∨ 0x7C0000 ≤ e.address)) ∧
    (∃ (t : Nat) (l : List FlashIn) (s : State), s.dryRuns = true ∧ s.flash.patrolAt + seconds 86400 ≤ (s.advance t).now) ∧
    (∃ (t : Nat) (l : List FlashIn) (s : State), (s.dryRuns = false ∨ (s.advance t).now < s.flash.patrolAt + seconds 86400)) ∧
    (∃ (t : Nat) (e : MramIn) (s : State), e.corrected = true) ∧
    (∃ (t : Nat) (e : MramIn) (s : State), e.corrected = false) ∧
    (∃ s : State, s.log.compromisedDue = true) ∧
    (∃ s : State, s.log.compromisedDue = false) :=
  ⟨⟨0, ⟨3, 0, 0x01FFFFFF, false, []⟩, up, by decide +kernel⟩,
   ⟨0, ⟨3, 0, 0x02000000, false, []⟩, up, by decide +kernel⟩,
   ⟨0, ⟨5, true⟩, up, by decide +kernel⟩,
   ⟨0, ⟨0x7BFFFF, false⟩, up, by decide +kernel⟩,
   ⟨0, ⟨0x0FFFFF, false⟩, up, by decide +kernel⟩,
   ⟨0, [], { up with time := { up.time with bnd := 10800000 } }, by decide +kernel⟩,
   ⟨0, [], { up with time := { up.time with bnd := 10799999 } }, by decide +kernel⟩,
   ⟨0, ⟨5, .crest, true⟩, up, by decide +kernel⟩,
   ⟨0, ⟨5, .record 255 0, false⟩, up, by decide +kernel⟩,
   ⟨{ up with log := { Logs.reset with compromisedDue := true } }, by decide +kernel⟩,
   ⟨up, by decide +kernel⟩⟩

theorem witness_TamperRows :
    (∃ (t k : Nat) (s : State), k < 4 ∧ s.tmp.armed.getLsbD k = true ∧ s.fused (8 + k) = false) ∧
    (∃ (t k : Nat) (s : State), k < 4 ∧ s.tmp.armed.getLsbD k = true ∧ s.fused (12 + k) = false) ∧
    (∃ (t k : Nat) (s : State), (4 ≤ k ∨ s.tmp.armed.getLsbD k = false)) ∧
    (∃ (t k : Nat) (s : State), k < 4 ∧ s.pwr.porstHigh = true ∧ s.pwr.aonLost = false ∧ s.pwr.state ≠ .nap ∧ s.pwr.pfail = false ∧ s.pwr.startAt + 98304 ≤ (s.advance t).now ∧ (k ≠ 3 ∨ (s.pwr.aonVbat = false ∧ s.tmp.aonBack + 98304 ≤ (s.advance t).now))) ∧
    (∃ (t k : Nat) (s : State), (4 ≤ k ∨ s.pwr.pfail = true ∨ s.pwr.state = .nap ∨ (s.advance t).now < s.pwr.startAt + 98304 ∨ (k = 3 ∧ (s.pwr.aonVbat = true ∨ (s.advance t).now < s.tmp.aonBack + 98304)))) ∧
    (∃ (t i : Nat) (l : List Bool) (s : State), (s.advance t).tamperHeld i true l = true ∧ s.sampled i = true ∧ s.tmp.active.getLsbD i = false ∧ s.pwr.state ≠ .nap ∧ (s.pwr.state = .hush → s.pwr.held = .run ∨ s.pwr.held = .trim)) ∧
    (∃ (t i : Nat) (l : List Bool) (s : State), ((s.advance t).tamperHeld i true l = false ∨ s.sampled i = false ∨ s.tmp.active.getLsbD i = true)) ∧
    (∃ (t i : Nat) (l : List Bool) (s : State), i < 8 ∧ (s.advance t).tamperHeld i false l = true ∧ s.tmp.active.getLsbD i = true) ∧
    (∃ (t i : Nat) (l : List Bool) (s : State), ((s.advance t).tamperHeld i false l = false ∨ s.tmp.active.getLsbD i = false)) ∧
    (∃ (i : Nat) (on : Bool) (l : List Bool) (s : State), s.tamperHeld i on l = true ∧ ∃ x, s.tmp.changed.find i = some x) ∧
    (∃ (g : Nat) (rest : List Nat) (s : State), s.guard.due = g :: rest ∧ s.guard.closed = false ∧ s.dryRuns = true) ∧
    (∃ s : State, (s.guard.closed = true ∨ s.dryRuns = false)) ∧
    (∃ s : State, s.guard.due = []) :=
  ⟨⟨0, 3, (tmp (fun x => { x with armed := 8 })), by decide +kernel⟩,
   ⟨0, 3, (tmp (fun x => { x with armed := 8 })), by decide +kernel⟩,
   ⟨0, 4, up, by decide +kernel⟩,
   ⟨0, 3, up, by decide +kernel⟩,
   ⟨0, 3, (pwr (fun p => { p with aonVbat := true })), by decide +kernel⟩,
   ⟨0, 7, List.replicate 8 false, (grd (fun g => { g with resp := [(7, ⟨2, 0⟩)] })), by decide +kernel⟩,
   ⟨0, 8, [], up, by decide +kernel⟩,
   ⟨0, 7, List.replicate 8 true, (tmp (fun x => { x with active := 0x80 })), by decide +kernel⟩,
   ⟨0, 7, [], up, by decide +kernel⟩,
   ⟨7, true, List.replicate 9 false, (tmp (fun x => { x with changed := [(7, up.now - 384000)] })), by decide +kernel, up.now - 384000, by decide +kernel⟩,
   ⟨18, [], (grd (fun g => { g with due := [18] })), by decide +kernel⟩,
   ⟨(grd (fun g => { g with closed := true })), by decide +kernel⟩,
   ⟨up, by decide +kernel⟩⟩

theorem witness_TimeRows :
    (∃ s : State, s.time.ppsValid = true ∧ s.time.disqPps = false) ∧
    (∃ s : State, s.time.ppsValid = false ∧ s.time.beaconOk = true ∧ s.time.disqBeacon = false) ∧
    (∃ s : State, (s.time.ppsValid = false ∨ s.time.disqPps = true) ∧ (s.time.ppsValid = true ∨ s.time.beaconOk = false ∨ s.time.disqBeacon = true)) ∧
    (∃ s : State, (sourcePass true s).time.source ≠ s.time.source ∧ s.evt.disabled.getLsbD 646 = false) ∧
    (∃ (t : Nat) (s : State), s.pwr.state ≠ .nap ∧ s.pwr.porstHigh = true ∧ (∀ e, s.time.ppsEdge = some e → s.time.ppsFresh = true ∨ s.time.ppsValid = false ∨ ((s.advance t).now ≤ e + 49152000 + 9830 ∧ e + 49152000 ≤ (s.advance t).now + 9830))) ∧
    (∃ (t e : Nat) (s : State), (s.pwr.state = .nap ∨ s.pwr.porstHigh = false ∨ (s.time.ppsEdge = some e ∧ s.time.ppsFresh = false ∧ s.time.ppsValid = true ∧ (e + 49152000 + 9830 < (s.advance t).now ∨ (s.advance t).now + 9830 < e + 49152000)))) ∧
    (∃ (t e : Nat) (s : State), s.time.ppsEdge = some e ∧ s.time.ppsValid = true ∧ e + 73728000 ≤ (s.advance t).now) ∧
    (∃ (t e : Nat) (s : State), s.time.ppsEdge = some e ∧ s.time.ppsValid = true ∧ (s.advance t).now < e + 73728000) ∧
    (∃ (o : Rat) (s : State), s.rtcHolds o = true ∧ absRat o ≤ fourMs) ∧
    (∃ (o : Rat) (s : State), s.rtcHolds o = true ∧ fourMs < absRat o ∧ (absRat o ≤ hundredMs ∨ s.trusted = false)) ∧
    (∃ (o : Rat) (s : State), s.rtcHolds o = true ∧ hundredMs < absRat o ∧ s.trusted = true ∧ s.time.bigRun + 1 ≠ 3) ∧
    (∃ (o : Rat) (s : State), s.rtcHolds o = true ∧ hundredMs < absRat o ∧ s.trusted = true ∧ s.time.bigRun + 1 = 3 ∧ s.time.source = 1) ∧
    (∃ (o : Rat) (s : State), s.rtcHolds o = true ∧ hundredMs < absRat o ∧ s.trusted = true ∧ s.time.bigRun + 1 = 3 ∧ s.time.source = 2) ∧
    (∃ o : Rat, absRat o ≤ ((2 ^ 24 : Nat) : Rat) / 250) ∧
    (∃ (k : Int) (rest : Rat) (s : State), s.time.off = 0 ∧ s.time.stepDue = some (k, rest) ∧ s.time.stepped = false ∧ s.dryRuns = true ∧ s.rtcHolds ((k : Rat) * (2 ^ 24 : Nat) / 125 + rest) = true ∧ (s.pwr.state = .hush → s.pwr.held = .run ∨ s.pwr.held = .trim)) ∧
    (∃ s : State, (s.time.off ≠ 0 ∨ s.time.stepDue = none ∨ s.dryRuns = false)) ∧
    (∃ (t : Nat) (s : State), absRat s.time.slew ≤ (((s.advance t).time.off : Nat) : Rat) * 128 / 375 * 20 / 1000000) ∧
    (∃ (t : Nat) (s : State), (((s.advance t).time.off : Nat) : Rat) * 128 / 375 * 20 / 1000000 < absRat s.time.slew) ∧
    (∃ (t : Nat) (s : State), s.time.locked = true ∧ (s.time.steerStored = none ∨ s.time.steerAt + 450000 ≤ s.time.bnd)) ∧
    (∃ (t : Nat) (w : Int) (s : State), (s.time.locked = false ∨ (s.time.steerStored = some w ∧ s.time.bnd < s.time.steerAt + 450000))) ∧
    (∃ s : State, s.time.off = 0 ∧ s.time.causesDue ≠ 0) ∧
    (∃ s : State, (s.time.off ≠ 0 ∨ s.time.causesDue = 0)) ∧
    (∃ (t : Nat) (s : State), s.time.alarmOn = true ∧ (s.advance t).time.off = 0 ∧ s.time.cad % 125 = 0 ∧ s.time.matches s.second = true ∧ s.time.alarmAt ≠ some s.second ∧ s.pwr.state ≠ .nap ∧ (s.pwr.state = .hush → s.pwr.held = .run ∨ s.pwr.held = .trim)) ∧
    (∃ (t : Nat) (s : State), (s.time.alarmOn = false ∨ (s.advance t).time.off ≠ 0 ∨ s.time.cad % 125 ≠ 0 ∨ s.time.matches s.second = false ∨ s.time.alarmAt = some s.second)) ∧
    (∃ (t : Nat) (s : State), s.time.periodicOn = true ∧ (s.time.cad * cadenceClocks + (s.advance t).time.off) % (192000 * 2 ^ s.time.periodicK) = 0) ∧
    (∃ (t : Nat) (s : State), (s.time.periodicOn = false ∨ (s.time.cad * cadenceClocks + (s.advance t).time.off) % (192000 * 2 ^ s.time.periodicK) ≠ 0)) :=
  ⟨⟨(tim (fun x => { x with ppsValid := true })), by decide +kernel⟩,
   ⟨(tim (fun x => { x with beaconOk := true })), by decide +kernel⟩,
   ⟨up, by decide +kernel⟩,
   ⟨(tim (fun x => { x with ppsValid := true })), by decide +kernel⟩,
   ⟨0, (tim (fun x => { x with ppsEdge := some 5, ppsValid := true, ppsFresh := true })), ⟨by decide +kernel, by decide +kernel, by intro e h; exact Or.inl rfl⟩⟩,
   ⟨9831, up.now - 49152000, (tim (fun x => { x with ppsEdge := some (up.now - 49152000), ppsValid := true, ppsFresh := false })), by decide +kernel⟩,
   ⟨0, up.now - 73728000, (tim (fun x => { x with ppsEdge := some (up.now - 73728000), ppsValid := true })), by decide +kernel⟩,
   ⟨0, up.now - 73727999, (tim (fun x => { x with ppsEdge := some (up.now - 73727999), ppsValid := true })), by decide +kernel⟩,
   ⟨fourMs, up, by decide +kernel⟩,
   ⟨hundredMs, up, by decide +kernel⟩,
   ⟨hundredMs + 1, up, by decide +kernel⟩,
   ⟨hundredMs + 1, (tim (fun x => { x with bigRun := 2, source := 1 })), by decide +kernel⟩,
   ⟨hundredMs + 1, (tim (fun x => { x with bigRun := 2, source := 2 })), by decide +kernel⟩,
   ⟨16777216 / 250, by decide +kernel⟩,
   ⟨-1, 0, (tim (fun x => { x with stepDue := some (-1, 0) })), ⟨by decide +kernel, by decide +kernel, by decide +kernel, by decide +kernel, by decide +kernel, by decide +kernel⟩⟩,
   ⟨up, by decide +kernel⟩,
   ⟨0, up, by decide +kernel⟩,
   ⟨0, (tim (fun x => { x with slew := 1 })), by decide +kernel⟩,
   ⟨0, (tim (fun x => { x with bnd := 450000, locked := true, steerStored := some 1, steerAt := 0 })), by decide +kernel⟩,
   ⟨0, 1, (tim (fun x => { x with bnd := 449999, locked := true, steerStored := some 1, steerAt := 0 })), by decide +kernel⟩,
   ⟨(tim (fun x => { x with causesDue := 1 })), by decide +kernel⟩,
   ⟨up, by decide +kernel⟩,
   ⟨0, (tim (fun x => { x with alarmOn := true, alarmSeconds := 8, alarmMask := 0xFFFFFFFFFF })), by decide +kernel⟩,
   ⟨0, up, by decide +kernel⟩,
   ⟨0, (tim (fun x => { x with periodicOn := true })), by decide +kernel⟩,
   ⟨1, (tim (fun x => { x with periodicOn := true })), by decide +kernel⟩⟩

theorem witness_PlcRows :
    (∃ (x : OnAir) (s : State), s.plc.tx = some x ∧ (x.done = true ∨ s.now < x.stop)) ∧
    (∃ (x : OnAir) (s : State), s.plc.tx = some x ∧ x.done = false ∧ x.stop ≤ s.now ∧ controlOk 1 x.control = true) ∧
    (∃ (x : OnAir) (s : State), s.plc.tx = some x ∧ x.done = false ∧ x.stop ≤ s.now ∧ controlOk 1 x.control = false) ∧
    (∃ (x : OnAir) (s : State), s.plc.tx = some x ∧ x.done = false ∧ x.stop ≤ s.now ∧ ∃ c, s.plc.cur = some c ∧ c.sent = true ∧ c.next = 0xFFFF) ∧
    (∃ s : State, s.plc.tx = none) ∧
    (∃ (t heard : Nat) (c : TxCur) (s : State), let a := plcTick (s.advance t)
      a.plcRuns = true ∧ a.resolvable = true ∧ a.plc.cur = some c ∧ c.sent = false ∧ c.contending = false ∧ (c.frame.cls < 2 ∧ heard.testBit 1 = true) ∨ (c.frame.cls % 2 = 0 ∧ heard.testBit 0 = true)) ∧
    (∃ (t heard : Nat) (c : TxCur) (s : State), let a := plcTick (s.advance t)
      a.plcRuns = true ∧ a.resolvable = true ∧ a.plc.cur = some c ∧ c.sent = false ∧ c.contending = false ∧ ∃ n, c.backoff = some n ∧ 0 < n ∧ (¬((c.frame.cls < 2 ∧ heard.testBit 1 = true) ∨ (c.frame.cls % 2 = 0 ∧ heard.testBit 0 = true)))) ∧
    (∃ (t k n e : Nat) (c : TxCur) (s : State), let a := plcTick (s.advance t)
      a.plcRuns = true ∧ a.plc.busy = false ∧ a.plc.slots0 = some e ∧ reached e (1792 * (a.plc.slots + 1)) a.now = true ∧ a.plc.cur = some c ∧ c.contending = true ∧ c.backoff = some n ∧ 1 < n) ∧
    (∃ (t k n e : Nat) (c : TxCur) (s : State), let a := plcTick (s.advance t)
      a.plcRuns = true ∧ a.plc.busy = false ∧ a.plc.slots0 = some e ∧ reached e (1792 * (a.plc.slots + 1)) a.now = true ∧ a.plc.cur = some c ∧ c.contending = true ∧ c.backoff = some n ∧ n ≤ 1) ∧
    (∃ (t k : Nat) (s : State), let a := plcTick (s.advance t)
      (a.plc.busy = true ∨ a.plc.slots0 = none ∨ ∀ e, a.plc.slots0 = some e → reached e (1792 * (a.plc.slots + 1)) a.now = false)) ∧
    (∃ (t : Nat) (pre : Bool) (s : State), let a := plcTick (s.advance t)
      a.plcRuns = true ∧ a.plc.sending = true) ∧
    (∃ (t : Nat) (pre : Bool) (s : State), let a := plcTick (s.advance t)
      a.plcRuns = true ∧ a.plc.sending = false) ∧
    (∃ (t : Nat) (s : State), let a := plcTick (s.advance t)
      a.plcRuns = true ∧ a.plc.gap = true ∧ a.plc.busyAt + 73728 ≤ a.now) ∧
    (∃ (t : Nat) (s : State), let a := plcTick (s.advance t)
      a.plcRuns = true ∧ (a.plc.gap = false ∨ a.now < a.plc.busyAt + 73728)) ∧
    (∃ (t x : Nat) (pre : Bool) (f : FrameIn) (k : SackIn) (s : State), (plcTick (s.advance t)).plcRuns = false) ∧
    (∃ (t e node : Nat) (m : BitVec 16) (busy : Bool) (n : Net) (s : State), let a := plcTick (s.advance t)
      a.plcRuns = true ∧ a.plc.sackDue = some (node, m, busy) ∧ a.plc.net = some n ∧ a.plc.eof = some e ∧ e + 1495 ≤ a.now ∧ a.now ≤ e + 1525) ∧
    (∃ (t e node : Nat) (m : BitVec 16) (busy : Bool) (n : Net) (s : State), let a := plcTick (s.advance t)
      a.plcRuns = true ∧ a.plc.sackDue = some (node, m, busy) ∧ a.plc.net = some n ∧ a.plc.eof = some e ∧ (a.now < e + 1495 ∨ e + 1525 < a.now)) ∧
    (∃ (t e : Nat) (k : SackIn) (c : TxCur) (n : Net) (s : State), let a := plcTick (s.advance t)
      a.plcRuns = true ∧ a.plc.cur = some c ∧ c.sent = true ∧ c.next ≠ 0xFFFF ∧ a.plc.sending = false ∧ a.plc.net = some n ∧ a.plc.eof = some e ∧ (samplesIn (a.now - e) + 1 < 6624 ∨ 6945 < samplesIn (a.now - e) ∨ controlOk 2 k.control = false ∨ field k.control 2 1 ≠ (netHash n.name).toNat ∨ field k.control 6 2 ≠ n.node ∨ field k.control 4 2 ≠ c.next)) ∧
    (∃ (t e : Nat) (k : SackIn) (c : TxCur) (n : Net) (s : State), let a := plcTick (s.advance t)
      a.plcRuns = true ∧ a.plc.cur = some c ∧ c.sent = true ∧ c.next ≠ 0xFFFF ∧ a.plc.sending = false ∧ a.plc.net = some n ∧ a.plc.eof = some e ∧ 6624 ≤ samplesIn (a.now - e) + 1 ∧ samplesIn (a.now - e) ≤ 6945 ∧ controlOk 2 k.control = true ∧ field k.control 2 1 = (netHash n.name).toNat ∧ field k.control 6 2 = n.node ∧ field k.control 4 2 = c.next) ∧
    (∃ (t e : Nat) (k : SackIn) (c : TxCur) (n : Net) (s : State), let a := plcTick (s.advance t)
      a.plcRuns = true ∧ a.plc.cur = some c ∧ c.sent = true ∧ c.next ≠ 0xFFFF ∧ a.plc.sending = false ∧ a.plc.net = some n ∧ a.plc.eof = some e ∧ 6944 ≤ samplesIn (a.now - e) + 1) ∧
    (∃ (t e : Nat) (k : SackIn) (c : TxCur) (n : Net) (s : State), let a := plcTick (s.advance t)
      a.plcRuns = true ∧ a.plc.cur = some c ∧ c.sent = true ∧ c.next ≠ 0xFFFF ∧ a.plc.sending = false ∧ a.plc.net = some n ∧ a.plc.eof = some e ∧ samplesIn (a.now - e) + 1 < 6944) ∧
    (∃ (t : Nat) (k : SackIn) (s : State), let a := plcTick (s.advance t)
      (a.plc.cur.any fun c => c.sent && c.next != 0xFFFF) = false) ∧
    (∃ (m : BitVec 16) (c : TxCur) (s : State), s.plc.cur = some c ∧ let acked := c.acked.zipIdx.map fun (b, i) => b || (c.left.zipIdx.any fun (l, j) => l == i && m.getLsbD j)
      acked.all id = true ∧ ∃ o, c.frame.order = some o) ∧
    (∃ (m : BitVec 16) (c : TxCur) (s : State), s.plc.cur = some c ∧ let acked := c.acked.zipIdx.map fun (b, i) => b || (c.left.zipIdx.any fun (l, j) => l == i && m.getLsbD j)
      acked.all id = false ∧ c.try_ < 8) ∧
    (∃ (t : Nat) (f : FrameIn) (n : Net) (s : State), let a := plcTick (s.advance t)
      let first := a.now - sampleClocks (frameSamples (field f.control 8 2))
      let stx := field f.control 4 2
      let srx := field f.control 6 2
      let grid := a.modPlc fun p => { p with busy := true, busyAt := a.now, gap := false, eof := some a.now, slots0 := none, cur := p.cur.map fun c => { c with contending := false } }
      a.plcRuns = true ∧ a.plc.net = some n ∧ (controlOk 1 f.control = false ∨ (a.plc.tx.any fun x => decide (first < x.stop + sampleClocks 100)) = true)) ∧
    (∃ (t : Nat) (f : FrameIn) (n : Net) (s : State), let a := plcTick (s.advance t)
      let first := a.now - sampleClocks (frameSamples (field f.control 8 2))
      let stx := field f.control 4 2
      let srx := field f.control 6 2
      let grid := a.modPlc fun p => { p with busy := true, busyAt := a.now, gap := false, eof := some a.now, slots0 := none, cur := p.cur.map fun c => { c with contending := false } }
      a.plcRuns = true ∧ a.plc.net = some n ∧ controlOk 1 f.control = true ∧ (a.plc.tx.any fun x => decide (first < x.stop + sampleClocks 100)) = false ∧ field f.control 2 1 ≠ (netHash n.name).toNat) ∧
    (∃ (t : Nat) (f : FrameIn) (n : Net) (s : State), let a := plcTick (s.advance t)
      let first := a.now - sampleClocks (frameSamples (field f.control 8 2))
      let stx := field f.control 4 2
      let srx := field f.control 6 2
      let grid := a.modPlc fun p => { p with busy := true, busyAt := a.now, gap := false, eof := some a.now, slots0 := none, cur := p.cur.map fun c => { c with contending := false } }
      a.plcRuns = true ∧ a.plc.net = some n ∧ controlOk 1 f.control = true ∧ (a.plc.tx.any fun x => decide (first < x.stop + sampleClocks 100)) = false ∧ field f.control 2 1 = (netHash n.name).toNat ∧ srx ≠ n.node ∧ srx ≠ 0xFFFF) ∧
    (∃ (t : Nat) (f : FrameIn) (n : Net) (s : State), let a := plcTick (s.advance t)
      let first := a.now - sampleClocks (frameSamples (field f.control 8 2))
      let stx := field f.control 4 2
      let srx := field f.control 6 2
      let grid := a.modPlc fun p => { p with busy := true, busyAt := a.now, gap := false, eof := some a.now, slots0 := none, cur := p.cur.map fun c => { c with contending := false } }
      a.plcRuns = true ∧ a.plc.net = some n ∧ controlOk 1 f.control = true ∧ (a.plc.tx.any fun x => decide (first < x.stop + sampleClocks 100)) = false ∧ field f.control 2 1 = (netHash n.name).toNat ∧ srx = n.node ∧ (f.mac = none ∨ (a.plc.neighbour stx).decodes f.control a.now = false)) ∧
    (∃ (t : Nat) (f : FrameIn) (n : Net) (s : State), let a := plcTick (s.advance t)
      let first := a.now - sampleClocks (frameSamples (field f.control 8 2))
      let stx := field f.control 4 2
      let srx := field f.control 6 2
      let grid := a.modPlc fun p => { p with busy := true, busyAt := a.now, gap := false, eof := some a.now, slots0 := none, cur := p.cur.map fun c => { c with contending := false } }
      a.plcRuns = true ∧ a.plc.net = some n ∧ controlOk 1 f.control = true ∧ (a.plc.tx.any fun x => decide (first < x.stop + sampleClocks 100)) = false ∧ ∃ m, field f.control 2 1 = (netHash n.name).toNat ∧ srx = n.node ∧ f.mac = some m ∧ (a.plc.neighbour stx).decodes f.control a.now = true ∧ a.frameBusy (macHeader f.control m) = true) ∧
    (∃ (t : Nat) (f : FrameIn) (n : Net) (s : State), let a := plcTick (s.advance t)
      let first := a.now - sampleClocks (frameSamples (field f.control 8 2))
      let stx := field f.control 4 2
      let srx := field f.control 6 2
      let grid := a.modPlc fun p => { p with busy := true, busyAt := a.now, gap := false, eof := some a.now, slots0 := none, cur := p.cur.map fun c => { c with contending := false } }
      a.plcRuns = true ∧ a.plc.net = some n ∧ controlOk 1 f.control = true ∧ (a.plc.tx.any fun x => decide (first < x.stop + sampleClocks 100)) = false ∧ ∃ m, field f.control 2 1 = (netHash n.name).toNat ∧ srx = n.node ∧ f.mac = some m ∧ (a.plc.neighbour stx).decodes f.control a.now = true ∧ a.frameBusy (macHeader f.control m) = false ∧ (macOpen n f.control m = none ∨ ∃ l, a.plc.seen.find stx = some l ∧ macPn m ≤ l)) ∧
    (∃ (t node : Nat) (n : Neigh) (high : Bool) (codes : List Nat) (s : State), Tab.find s.plc.neigh node = some n ∧ s.plc.state = 2 ∧ s.plc.silent = false ∧ (s.advance t).plcServes = true ∧ n.snrs ≠ [] ∧ n.mapDue (s.advance t).now = true ∧ chooseMap n.snr = some (high, codes)) ∧
    (∃ (t node num : Nat) (s : State), (s.plc.state ≠ 2 ∨ s.plc.silent = true ∨ (s.advance t).plcServes = false ∨ ∀ n, Tab.find s.plc.neigh node = some n → n.snrs = [] ∨ n.mapDue (s.advance t).now = false ∨ chooseMap n.snr = none ∨ num ≠ n.mapNum % 7 + 1)) ∧
    (∃ (t node : Nat) (n : Neigh) (s : State), Tab.find s.plc.neigh node = some n) ∧
    (∃ (t node : Nat) (s : State), Tab.find s.plc.neigh node = none) ∧
    (∃ (t : Nat) (s : State), (s.advance t).plcServes = true ∧ (s.plc.state = 2 ∨ s.plc.isCoordinator = true ∨ s.plc.silent = true) ∧ (s.advance t).time.off = 0 ∧ s.time.cad % 125 = s.plc.node % 125 ∧ s.plc.beaconSec ≠ some s.second) ∧
    (∃ (t : Nat) (s : State), ((s.advance t).plcServes = false ∨ (s.plc.state ≠ 2 ∧ s.plc.isCoordinator = false ∧ s.plc.silent = false) ∨ (s.advance t).time.off ≠ 0 ∨ s.time.cad % 125 ≠ s.plc.node % 125 ∨ s.plc.beaconSec = some s.second)) ∧
    (∃ (t : Nat) (s : State), s.plc.state = 2 ∧ s.plc.isCoordinator = false ∧ s.plc.lastBeacon + seconds 35 ≤ (s.advance t).now) ∧
    (∃ (t : Nat) (s : State), (s.plc.state ≠ 2 ∨ s.plc.isCoordinator = true ∨ (s.advance t).now < s.plc.lastBeacon + seconds 35)) ∧
    (∃ (t : Nat) (s : State), s.plc.lock = true ∧ (∀ n b, s.plc.chosen = some n → (s.plc.neighbour n).beaconAt = some b → b + seconds 3 ≤ (s.advance t).now)) ∧
    (∃ (t : Nat) (s : State), (s.plc.lock = false ∨ ∃ n b, s.plc.chosen = some n ∧ (s.plc.neighbour n).beaconAt = some b ∧ (s.advance t).now < b + seconds 3)) ∧
    (∃ (t : Nat) (s : State), s.plc.state = 2 ∧ s.plc.silent = false ∧ (s.advance t).plcServes = true ∧ s.plc.advAt ≤ (s.advance t).now) ∧
    (∃ (t : Nat) (s : State), (s.plc.state ≠ 2 ∨ s.plc.silent = true ∨ (s.advance t).plcServes = false ∨ (s.advance t).now < s.plc.advAt)) ∧
    (∃ (t : Nat) (s : State), (∀ a ∈ s.plc.awaiting, ∀ x, a.since = some x → (s.advance t).now < x + a.hops * 12288000)) ∧
    (∃ (t : Nat) (s : State), (s.advance t).domOn 15 = true) ∧
    (∃ (t : Nat) (s : State), (s.advance t).domOn 15 = false) :=
  ⟨⟨onAir true, (plc fun p => { p with tx := some (onAir true) }), by decide +kernel⟩,
   ⟨onAir false, (plc fun p => { p with tx := some (onAir false) }), by decide +kernel⟩,
   ⟨{ onAir false with control := sackIn.control }, (plc fun p => { p with tx := some { onAir false with control := sackIn.control } }), by decide +kernel⟩,
   ⟨onAir false, (plc fun p => { p with tx := some (onAir false), cur := some { cur0 with sent := true, next := 0xFFFF } }), by decide +kernel, by decide +kernel, by decide +kernel, { cur0 with sent := true, next := 0xFFFF }, by decide +kernel⟩,
   ⟨up, by decide +kernel⟩,
   ⟨0, 2, cur0, plcCur cur0, by decide +kernel⟩,
   ⟨0, 0, cur0, plcCur cur0, by decide +kernel, by decide +kernel, by decide +kernel, by decide +kernel, by decide +kernel, 1, by decide +kernel⟩,
   ⟨0, 0, 2, 0, { cur0 with contending := true, backoff := some 2 }, (plcCur { cur0 with contending := true, backoff := some 2 }).modPlc fun p => { p with slots0 := some 0 }, by decide +kernel⟩,
   ⟨0, 0, 1, 0, { cur0 with contending := true }, (plcCur { cur0 with contending := true }).modPlc fun p => { p with slots0 := some 0 }, by decide +kernel⟩,
   ⟨0, 0, (plcCur cur0).modPlc fun p => { p with busy := true }, Or.inl (by decide +kernel)⟩,
   ⟨0, true, (plcCur cur0).modPlc fun p => { p with tx := some { onAir false with start := 2 ^ 40 } }, by decide +kernel⟩,
   ⟨0, true, plcCur cur0, by decide +kernel⟩,
   ⟨0, (plcCur cur0).modPlc fun p => { p with gap := true, busyAt := up.now - 73728 }, by decide +kernel⟩,
   ⟨0, plcCur cur0, by decide +kernel⟩,
   ⟨0, 0, true, frameIn 2, ⟨[]⟩, up, by decide +kernel⟩,
   ⟨0, up.now - 1495, 3, 1, false, net0, (plcCur cur0).modPlc fun p => { p with sackDue := some (3, 1, false), eof := some (up.now - 1495) }, by decide +kernel⟩,
   ⟨0, up.now - 1494, 3, 1, false, net0, (plcCur cur0).modPlc fun p => { p with sackDue := some (3, 1, false), eof := some (up.now - 1494) }, by decide +kernel⟩,
   ⟨0, up.now, sackIn, { cur0 with sent := true }, net0, sentAt up.now, by decide +kernel⟩,
   ⟨0, up.now - 6669, sackIn, { cur0 with sent := true }, net0, sentAt (up.now - 6669), by decide +kernel⟩,
   ⟨0, up.now - 6826, sackIn, { cur0 with sent := true }, net0, sentAt (up.now - 6826), by decide +kernel⟩,
   ⟨0, up.now - 6825, sackIn, { cur0 with sent := true }, net0, sentAt (up.now - 6825), by decide +kernel⟩,
   ⟨0, sackIn, up, by decide +kernel⟩,
   ⟨3, cur0, plcCur cur0, by decide +kernel, by decide +kernel, 1, by decide +kernel⟩,
   ⟨1, { cur0 with try_ := 7 }, (plcCur { cur0 with try_ := 7 }), by decide +kernel⟩,
   ⟨0, { frameIn 2 with control := zeros 12 }, net0, plcCur cur0, by decide +kernel⟩,
   ⟨0, { frameIn 2 with control := frameControl 1 0 0 1 3 2 0 }, net0, plcCur cur0, by decide +kernel⟩,
   ⟨0, frameIn 3, net0, plcCur cur0, by decide +kernel⟩,
   ⟨0, frameIn 2, net0, plcCur cur0, by decide +kernel⟩,
   ⟨0, frameFull, net0, (plcCur cur0).modPolder 0 fun q => { q with rxq := List.replicate 32 plcFrame }, by decide +kernel, by decide +kernel, by decide +kernel, by decide +kernel, macIn, by decide +kernel⟩,
   ⟨0, frameFull, net0, (plcCur cur0).modPlc fun p => { p with seen := [(3, 1)] }, by decide +kernel, by decide +kernel, by decide +kernel, by decide +kernel, macIn, by decide +kernel, by decide +kernel, by decide +kernel, by decide +kernel, by decide +kernel, Or.inr ⟨1, by decide +kernel, by decide +kernel⟩⟩,
   ⟨0, 2, neigh1, true, List.replicate 206 4, (plcCur cur0).modPlc fun p => { p with neigh := [(2, neigh1)] }, by decide +kernel⟩,
   ⟨0, 3, 1, up, Or.inl (by decide +kernel)⟩,
   ⟨0, 2, neigh0, withNeigh, by decide +kernel⟩,
   ⟨0, 3, withNeigh, by decide +kernel⟩,
   ⟨0, { plcCur cur0 with time := { up.time with cad := 1002 } }, by decide +kernel⟩,
   ⟨0, plcCur cur0, by decide +kernel⟩,
   ⟨0, { (plcCur cur0) with time := { up.time with bnd := 4375 } }, by decide +kernel⟩,
   ⟨0, { (plcCur cur0) with time := { up.time with bnd := 4374 } }, by decide +kernel⟩,
   ⟨0, { (plc fun p => { p with lock := true, chosen := some 2, neigh := [(2, { neigh0 with beaconAt := some 0 })] }) with time := { up.time with bnd := 375 } }, ⟨by decide +kernel, by intro n b h; cases h; intro h; cases h; decide +kernel⟩⟩,
   ⟨0, up, Or.inl rfl⟩,
   ⟨0, (plcCur cur0).modPlc fun p => { p with advAt := up.now }, by decide +kernel⟩,
   ⟨0, (plcCur cur0).modPlc fun p => { p with advAt := up.now + 1 }, by decide +kernel⟩,
   ⟨0, (plc (fun p => { p with awaiting := [⟨1, 1, 1, some (up.now - 12287999), 0⟩] })), by intro a h x hx; have h : a ∈ [(⟨1, 1, 1, some (up.now - 12287999), 0⟩ : Awaiting)] := h; rw [List.mem_singleton] at h; subst h; have hx : some (up.now - 12287999) = some x := hx; injection hx with hx; subst hx; decide +kernel⟩,
   ⟨0, powered [15] up, by decide +kernel⟩,
   ⟨0, up, by decide +kernel⟩⟩

theorem witness_TandemRows :
    (∃ (t : Nat) (l : TrainIn) (s : State), s.tdm.enabled = true ∧ (s.advance t).domOn 16 = true ∧ l.strapsEqual = false ∧ l.identityOk = true ∧ l.lanes ≠ 0) ∧
    (∃ (t : Nat) (l : TrainIn) (s : State), s.tdm.enabled = true ∧ (s.advance t).domOn 16 = true ∧ (l.strapsEqual = true ∨ l.identityOk = false ∨ l.lanes = 0)) ∧
    (∃ (t k : Nat) (s : State), (s.advance t).tdmUp = true) ∧
    (∃ (t k : Nat) (w : Bool) (h : HeartIn) (m : MirrorIn) (c : CkptIn) (x : BitVec 32) (d : List Byte) (s : State), (s.advance t).tdmUp = false) ∧
    (∃ (t : Nat) (w : Bool) (s : State), (s.advance t).tdmUp = true ∧ s.tdm.hbSent = false ∧ 12288 ≤ (s.advance t).time.off ∧ (s.advance t).time.off ≤ 24576) ∧
    (∃ (t : Nat) (w : Bool) (s : State), (s.advance t).tdmUp = true ∧ (s.tdm.hbSent = true ∨ (s.advance t).time.off < 12288 ∨ 24576 < (s.advance t).time.off)) ∧
    (∃ (t : Nat) (h : HeartIn) (s : State), (s.advance t).tdmUp = true ∧ (h.cadence ≠ s.time.cad ∨ 49152 < (s.advance t).time.off)) ∧
    (∃ (t : Nat) (h : HeartIn) (s : State), (s.advance t).tdmUp = true ∧ h.cadence = s.time.cad ∧ (s.advance t).time.off ≤ 49152) ∧
    (∃ (t : Nat) (s : State), s.tdm.hbSent = true ∧ (s.advance t).time.off ≤ 98304 ∧ s.tdm.unackDone = false) ∧
    (∃ (t : Nat) (s : State), s.tdm.enabled = true ∧ s.tdm.unackDone = false ∧ s.tdm.acks.headD true = false ∧ 98304 ≤ (s.advance t).time.off ∧ s.tdm.role = .captain) ∧
    (∃ (t : Nat) (s : State), s.tdm.enabled = true ∧ s.tdm.everUp = true ∧ s.tdm.hbGot = false ∧ s.tdm.missDone = false ∧ 49152 ≤ (s.advance t).time.off) ∧
    (∃ (t : Nat) (s : State), s.tdm.enabled = false) ∧
    (∃ (w : Bool) (s : State), s.time.off = 0 ∧ s.tdm.role = .stoker ∧ s.tdm.suspect = true ∧ (s.pwr.tiebreak = true ∨ w = true)) ∧
    (∃ (w : Bool) (s : State), (s.time.off ≠ 0 ∨ s.tdm.role ≠ .stoker ∨ s.tdm.suspect = false ∨ (s.pwr.tiebreak = false ∧ w = false))) ∧
    (∃ (w : Bool) (s : State), s.time.off = 0 ∧ s.tdm.role = .captain ∧ 2 ≤ s.tdm.unackRun ∧ s.pwr.tiebreak = false ∧ w = false) ∧
    (∃ (w : Bool) (s : State), (s.time.off ≠ 0 ∨ s.tdm.role ≠ .captain ∨ s.tdm.unackRun < 2 ∨ s.pwr.tiebreak = true ∨ w = true)) ∧
    (∃ (x : BitVec 32) (s : State), s.time.off = 0 ∧ s.tdm.role = .captain ∧ s.tdm.yieldTo = some x) ∧
    (∃ s : State, (s.time.off ≠ 0 ∨ s.tdm.role ≠ .captain ∨ s.tdm.yieldTo = none)) ∧
    (∃ (t : Nat) (m : MirrorIn) (s : State), (s.advance t).tdmUp = true ∧ s.tdm.role ≠ .captain ∧ s.tdm.rxSeq < m.seq) ∧
    (∃ (t : Nat) (m : MirrorIn) (s : State), (s.advance t).tdmUp = true ∧ s.tdm.role ≠ .captain ∧ m.seq ≤ s.tdm.rxSeq) ∧
    (∃ (t : Nat) (x : BitVec 32) (s : State), (s.advance t).tdmUp = true ∧ (∀ f ∈ s.tdm.unacked, x < f.seq)) ∧
    (∃ (t : Nat) (x : BitVec 32) (f : TdmFrame) (g : Staged) (s : State), (s.advance t).tdmUp = true ∧ s.tdm.unacked = [f] ∧ f.seq ≤ x ∧ f.prepare = true ∧ (s.out.staged.find? fun g => g.held.order == f.order) = some g) ∧
    (∃ (t : Nat) (s : State), (s.advance t).tdmUp = true) ∧
    (∃ (t k : Nat) (x : BitVec 32) (d : List Byte) (s : State), (s.advance t).tdmUp = true ∧ (s.tdm.role = .stoker ∨ s.tdm.role = .neither)) ∧
    (∃ s : State, s.tdm.enabled = true ∧ s.beginsSecond = true ∧ s.tdm.role = .captain ∧ s.tdm.captainAt ≠ some s.time.bnd) ∧
    (∃ s : State, (s.tdm.enabled = false ∨ s.beginsSecond = false)) ∧
    (∃ (t : Nat) (c : CkptIn) (s : State), (s.advance t).tdmUp = true ∧ (s.tdm.role = .stoker ∨ s.tdm.role = .neither) ∧ c.hashOk = false) ∧
    (∃ (t : Nat) (c : CkptIn) (s : State), (s.advance t).tdmUp = true ∧ (s.tdm.role = .stoker ∨ s.tdm.role = .neither) ∧ c.hashOk = true) ∧
    (∃ s : State, s.time.off = 0 ∧ s.tdm.role = .stoker ∧ s.tdm.ckpt.isSome = true ∧ s.tdm.link = true) ∧
    (∃ (b : Nat) (s : State), s.time.off = 0 ∧ s.tdm.role = .captain ∧ s.tdm.handover = some (b, true)) ∧
    (∃ (b : Nat) (s : State), s.tdm.handover = some (b, false) ∧ s.time.bnd < b + 125) ∧
    (∃ (b : Nat) (s : State), s.tdm.handover = some (b, false) ∧ b + 125 ≤ s.time.bnd) ∧
    (∃ s : State, s.tdm.handover = none) :=
  ⟨⟨0, ⟨4, false, true, 3⟩, (tdm (fun x => { x with enabled := true })), by decide +kernel⟩,
   ⟨0, ⟨0, false, true, 3⟩, (tdm (fun x => { x with enabled := true })), by decide +kernel⟩,
   ⟨0, 3, pair .stoker, by decide +kernel⟩,
   ⟨0, 3, true, heart 1000, mirror 1, ckptIn true, 1, [], up, by decide +kernel⟩,
   ⟨24576, true, pair .captain, by decide +kernel⟩,
   ⟨12287, true, pair .captain, by decide +kernel⟩,
   ⟨49153, heart 1000, pair .captain, by decide +kernel⟩,
   ⟨49152, heart 1000, pair .captain, by decide +kernel⟩,
   ⟨98304, { pair .captain with tdm := { (pair .captain).tdm with hbSent := true } }, by decide +kernel⟩,
   ⟨98304, { pair .captain with tdm := { (pair .captain).tdm with acks := [false] } }, by decide +kernel⟩,
   ⟨49152, { pair .stoker with tdm := { (pair .stoker).tdm with everUp := true } }, by decide +kernel⟩,
   ⟨0, up, by decide +kernel⟩,
   ⟨true, (tdm (fun x => { x with enabled := true, role := .stoker, suspect := true })), by decide +kernel⟩,
   ⟨false, (tdm (fun x => { x with enabled := true, role := .stoker, suspect := true })), by decide +kernel⟩,
   ⟨false, (tdm (fun x => { x with enabled := true, role := .captain, unackRun := 2 })), by decide +kernel⟩,
   ⟨false, (tdm (fun x => { x with enabled := true, role := .captain, unackRun := 1 })), by decide +kernel⟩,
   ⟨5, (tdm (fun x => { x with enabled := true, role := .captain, yieldTo := some 5 })), by decide +kernel⟩,
   ⟨up, by decide +kernel⟩,
   ⟨0, mirror 1, pair .stoker, by decide +kernel⟩,
   ⟨0, mirror 0, pair .stoker, by decide +kernel⟩,
   ⟨0, 0, { pair .captain with tdm := { (pair .captain).tdm with unacked := [⟨1, 0, 1, true⟩] } }, by decide +kernel⟩,
   ⟨0, 1, ⟨1, 0, 1, true⟩, staged (.timeTrust 0) 1001, { pair .captain with tdm := { (pair .captain).tdm with unacked := [⟨1, 0, 1, true⟩] }, out := { Outstanding.reset with staged := [staged (.timeTrust 0) 1001] } }, by decide +kernel⟩,
   ⟨0, pair .captain, by decide +kernel⟩,
   ⟨0, 3, 1, zeros 4, pair .neither, by decide +kernel⟩,
   ⟨pair .captain, by decide +kernel⟩,
   ⟨up, by decide +kernel⟩,
   ⟨0, ckptIn false, pair .stoker, by decide +kernel⟩,
   ⟨0, ckptIn true, pair .neither, by decide +kernel⟩,
   ⟨{ pair .stoker with tdm := { (pair .stoker).tdm with ckpt := some ⟨1, (ckptIn true).content, [], 0⟩ } }, by decide +kernel⟩,
   ⟨999, (tdm (fun x => { x with enabled := true, role := .captain, handover := some (999, true) })), by decide +kernel⟩,
   ⟨876, (tdm (fun x => { x with handover := some (876, false) })), by decide +kernel⟩,
   ⟨875, (tdm (fun x => { x with handover := some (875, false) })), by decide +kernel⟩,
   ⟨up, by decide +kernel⟩⟩

theorem witness_CommitSettings :
    (∃ (b : BoundaryIn) (x : Bool) (p : Nat) (r : PowerSetState) (s : State), let u := commitEffect b x p (.powerSetState r) s
      s.pwr.state ≠ .hush ∧ r.state = 0) ∧
    (∃ (b : BoundaryIn) (x : Bool) (p : Nat) (r : PowerSetState) (s : State), let u := commitEffect b x p (.powerSetState r) s
      s.pwr.state ≠ .hush ∧ r.state = 1) ∧
    (∃ (b : BoundaryIn) (x : Bool) (p : Nat) (r : PowerSetState) (s : State), let u := commitEffect b x p (.powerSetState r) s
      s.pwr.state ≠ .hush ∧ r.state = 2) ∧
    (∃ (b : BoundaryIn) (x : Bool) (p : Nat) (r : PowerSetState) (s : State), let u := commitEffect b x p (.powerSetState r) s
      s.pwr.state = .hush ∧ r.state = 0) ∧
    (∃ (b : BoundaryIn) (x : Bool) (p : Nat) (r : PowerSetState) (s : State), let u := commitEffect b x p (.powerSetState r) s
      s.pwr.state = .hush ∧ r.state = 1) ∧
    (∃ (b : BoundaryIn) (x : Bool) (p : Nat) (r : PowerSetState) (s : State), let u := commitEffect b x p (.powerSetState r) s
      r.state = 3) ∧
    (∃ (b : BoundaryIn) (x : Bool) (p : Nat) (r : WheelSetGear) (s : State) (c : Nat), c < 128) ∧
    (∃ (b : BoundaryIn) (x : Bool) (p : Nat) (r : WheelSetJockey) (s : State) (w : Nat), w < 16) ∧
    (∃ (b : BoundaryIn) (x : Bool) (p : Nat) (r : WheelServiceSpoke) (s : State), let u := commitEffect b x p (.wheelServiceSpoke r) s
      (s.wheel r.wheel).jockeyAt ≠ some r.spoke) ∧
    (∃ (b : BoundaryIn) (x : Bool) (p : Nat) (r : WheelReturnSpoke) (s : State), let u := commitEffect b x p (.wheelReturnSpoke r) s
      (s.wheel r.wheel).jockeyServes = some r.spoke) ∧
    (∃ (b : BoundaryIn) (x : Bool) (p : Nat) (r : WheelReturnSpoke) (s : State), let u := commitEffect b x p (.wheelReturnSpoke r) s
      (s.wheel r.wheel).jockeyServes ≠ some r.spoke) ∧
    (∃ (b : BoundaryIn) (x : Bool) (p : Nat) (r : ChainSwitchBank) (s : State) (w : Nat), w < 16 ∧ let u := commitEffect b x p (.chainSwitchBank r) s
      r.wheels.getLsbD w = true) ∧
    (∃ (b : BoundaryIn) (x : Bool) (p : Nat) (r : ChainSwitchBank) (s : State) (w : Nat), w < 16 ∧ let u := commitEffect b x p (.chainSwitchBank r) s
      r.wheels.getLsbD w = false) ∧
    (∃ (b : BoundaryIn) (x : Bool) (p : Nat) (r : CalRun) (s : State) (t : CalTarget), t ∈ r.targets.take r.ntarget) ∧
    (∃ (b : BoundaryIn) (x : Bool) (p : Nat) (r : CalCommit) (t : CalTarget) (k : Cand) (n : CalSet) (s : State), r.targets.take r.ntarget = [t] ∧ s.cand t.channel t.gear = some k ∧ k.new0 = none ∧ k.new1 = some n) ∧
    (∃ (b : BoundaryIn) (x : Bool) (p : Nat) (r : CalSetReference) (s : State), let u := commitEffect b x p (.calSetReference r) s
      s.refs.sel = r.preferred) ∧
    (∃ (b : BoundaryIn) (x : Bool) (p : Nat) (r : CalSetReference) (s : State), let u := commitEffect b x p (.calSetReference r) s
      s.refs.sel ≠ r.preferred ∧ s.evt.disabled.getLsbD 643 = false) ∧
    (∃ (b : BoundaryIn) (x : Bool) (p : Nat) (r : TimeSet) (s : State), let u := commitEffect b x p (.timeSet r) s
      s.rtcHolds (r.offset : Rat) = true ∧ r.mode = 0) ∧
    (∃ (b : BoundaryIn) (x : Bool) (p : Nat) (r : TimeSet) (s : State), let u := commitEffect b x p (.timeSet r) s
      s.rtcHolds (r.offset : Rat) = true ∧ r.mode ≠ 0) ∧
    (∃ (b : BoundaryIn) (x : Bool) (p : Nat) (r : TimeSet) (s : State), let u := commitEffect b x p (.timeSet r) s
      s.rtcHolds (r.offset : Rat) = false) ∧
    (∃ (b : BoundaryIn) (x : Bool) (p a : Nat) (s : State), let u := commitEffect b x p (.timeTrust a) s
      s.trusted = true ∧ a = 0 ∧ s.evt.disabled.getLsbD 646 = false) ∧
    (∃ (b : BoundaryIn) (x : Bool) (p : Nat) (n : Nat) (e : GuardEntry) (s : State), let u := commitEffect b x p (.guardSetResponse ⟨n, [e]⟩) s
      e.source < 8 ∧ e.response = 0) ∧
    (∃ (b : BoundaryIn) (x : Bool) (p : Nat) (n : Nat) (e : GuardEntry) (s : State), let u := commitEffect b x p (.guardSetResponse ⟨n, [e]⟩) s
      e.response ≠ 0 ∧ (s.response e.source).response ≠ 0 ∨ 8 ≤ e.source ∨ e.param % 2 = 1) ∧
    (∃ (b : BoundaryIn) (x : Bool) (p : Nat) (n : Nat) (e : GuardEntry) (s : State), let u := commitEffect b x p (.guardSetResponse ⟨n, [e]⟩) s
      e.response ≠ 0 ∧ (s.response e.source).response = 0 ∧ e.source < 8 ∧ e.param % 2 = 0) ∧
    (∃ (b : BoundaryIn) (x : Bool) (p : Nat) (r : TandemEnable) (s : State), let u := commitEffect b x p (.tandemEnable r) s
      r.enable = 1 ∧ (s.tdm.enabled = false ∨ s.tdm.partnerId ≠ r.partnerId)) ∧
    (∃ (b : BoundaryIn) (x : Bool) (p : Nat) (r : TandemEnable) (s : State), let u := commitEffect b x p (.tandemEnable r) s
      r.enable = 1 ∧ s.tdm.enabled = true ∧ s.tdm.partnerId = r.partnerId) ∧
    (∃ (b : BoundaryIn) (x : Bool) (p : Nat) (r : TandemEnable) (s : State), let u := commitEffect b x p (.tandemEnable r) s
      r.enable ≠ 1) :=
  ⟨⟨bIn, false, 0, ⟨0, 0⟩, up, by decide +kernel⟩,
   ⟨bIn, false, 0, ⟨1, 0⟩, up, by decide +kernel⟩,
   ⟨bIn, false, 0, ⟨2, 0⟩, up, by decide +kernel⟩,
   ⟨bIn, false, 0, ⟨0, 0⟩, (pwr (fun p => { p with state := .hush })), by decide +kernel⟩,
   ⟨bIn, false, 0, ⟨1, 0⟩, (pwr (fun p => { p with state := .hush })), by decide +kernel⟩,
   ⟨bIn, false, 0, ⟨3, 0⟩, up, by decide +kernel⟩,
   ⟨bIn, false, 0, ⟨1 <<< 127, 2⟩, up, 127, by decide +kernel⟩,
   ⟨bIn, false, 0, ⟨0x8000, 1, 1, 20⟩, up, 15, by decide +kernel⟩,
   ⟨bIn, false, 0, ⟨15, 7, 0⟩, up, by decide +kernel⟩,
   ⟨bIn, false, 0, ⟨0, 7⟩, (sliceAt 8 (fun y => { y with state := .serving })).modWheel 0 fun x => { x with jockeyAt := some 7 }, by decide +kernel⟩,
   ⟨bIn, false, 0, ⟨0, 7⟩, up, by decide +kernel⟩,
   ⟨bIn, false, 0, ⟨0x8000, 3⟩, up, 15, by decide +kernel⟩,
   ⟨bIn, false, 0, ⟨0x8000, 3⟩, up, 0, by decide +kernel⟩,
   ⟨bIn, false, 0, run0, up, ⟨0, 0⟩, by decide +kernel⟩,
   ⟨bIn, false, 0, ⟨1, ⟨127, 1⟩ :: List.replicate 15 ⟨0, 0⟩⟩, ⟨127, 1⟩, { cand0 .ready with new0 := none }, CalSet.factory false, (candAt { cand0 .ready with new0 := none }), by decide +kernel⟩,
   ⟨bIn, false, 0, ⟨0, 1⟩, up, by decide +kernel⟩,
   ⟨bIn, false, 0, ⟨1, 1⟩, up, by decide +kernel⟩,
   ⟨bIn, false, 0, ⟨0, 1⟩, up, by decide +kernel⟩,
   ⟨bIn, false, 0, ⟨1, 1⟩, up, by decide +kernel⟩,
   ⟨bIn, false, 0, ⟨0, -134217729⟩, up, by decide +kernel⟩,
   ⟨bIn, false, 0, 0, up, by decide +kernel⟩,
   ⟨bIn, false, 0, 1, ⟨7, 0, 3⟩, up, by decide +kernel⟩,
   ⟨bIn, false, 0, 1, ⟨511, 2, 7⟩, up, by decide +kernel⟩,
   ⟨bIn, false, 0, 1, ⟨7, 2, 0⟩, up, by decide +kernel⟩,
   ⟨bIn, false, 0, ⟨1, 3⟩, up, by decide +kernel⟩,
   ⟨bIn, false, 0, ⟨1, 3⟩, (tdm (fun x => { x with enabled := true, partnerId := 3 })), by decide +kernel⟩,
   ⟨bIn, false, 0, ⟨0, 0⟩, up, by decide +kernel⟩⟩

theorem witness_CommitHoldings :
    (∃ (b : BoundaryIn) (x : Bool) (p : Nat) (d : MeterDefine) (s : State), let u := commitEffect b x p (.meterDefine d) s
      (s.meter d.meter).state = .undefined) ∧
    (∃ (b : BoundaryIn) (x : Bool) (p : Nat) (d : MeterDefine) (s : State), let u := commitEffect b x p (.meterDefine d) s
      (s.meter d.meter).state ≠ .undefined) ∧
    (∃ (b : BoundaryIn) (x : Bool) (p : Nat) (r : MeterUndefine) (s : State), let u := commitEffect b x p (.meterUndefine r) s
      ∃ n y, (s.cfOut n).map = some y ∧ y.meter = r.meter) ∧
    (∃ (b : BoundaryIn) (x : Bool) (p : Nat) (r : MeterUndefine) (s : State), let u := commitEffect b x p (.meterUndefine r) s
      ∃ n y, (s.cfOut n).map = some y ∧ y.meter ≠ r.meter) ∧
    (∃ (b : BoundaryIn) (x : Bool) (p : Nat) (r : MeterUndefine) (s : State), let u := commitEffect b x p (.meterUndefine r) s
      s.bookingDue = false ∧ (s.ledger r.meter).ops = []) ∧
    (∃ (b : BoundaryIn) (x : Bool) (p : Nat) (r : MeterMapCf) (s : State), let u := commitEffect b x p (.meterMapCf r) s
      let m : Option CfMap := if r.q = 0xFF then none else some { meter := r.meter, q := r.q, k := r.k, width := r.width }
      (s.cfOut r.cf).map ≠ m) ∧
    (∃ (b : BoundaryIn) (x : Bool) (p : Nat) (r : MeterMapCf) (s : State), let u := commitEffect b x p (.meterMapCf r) s
      let m : Option CfMap := if r.q = 0xFF then none else some { meter := r.meter, q := r.q, k := r.k, width := r.width }
      (s.cfOut r.cf).map = m) ∧
    (∃ (b : BoundaryIn) (x : Bool) (p : Nat) (r : TariffSetMeter) (s : State), let u := commitEffect b x p (.tariffSetMeter r) s
      let l := s.ledger r.meter
      r.mode = 1) ∧
    (∃ (b : BoundaryIn) (x : Bool) (p : Nat) (r : TariffSetMeter) (s : State), let u := commitEffect b x p (.tariffSetMeter r) s
      let l := s.ledger r.meter
      l.rateQ0 = r.rateQ0 ∧ l.rateQ1 = r.rateQ1) ∧
    (∃ (b : BoundaryIn) (x : Bool) (p : Nat) (r : TariffSetMeter) (s : State), let u := commitEffect b x p (.tariffSetMeter r) s
      let l := s.ledger r.meter
      (l.rateQ0 ≠ r.rateQ0 ∨ l.rateQ1 ≠ r.rateQ1) ∧ s.bookingDue = false ∧ l.ops = []) ∧
    (∃ (b : BoundaryIn) (x : Bool) (p : Nat) (r : LedgerSetDemand) (s : State), let u := commitEffect b x p (.ledgerSetDemand r) s
      let l := s.ledger r.meter
      l.demand.map (·.cfg) = r.entries ∧ s.bookingDue = false ∧ l.ops = []) ∧
    (∃ (b : BoundaryIn) (x : Bool) (p : Nat) (r : LedgerSetDemand) (s : State), let u := commitEffect b x p (.ledgerSetDemand r) s
      let l := s.ledger r.meter
      l.demand.map (·.cfg) ≠ r.entries ∧ s.bookingDue = false ∧ l.ops = []) ∧
    (∃ (b : BoundaryIn) (x : Bool) (p : Nat) (r : BitVec 256) (s : State) (m : Nat), m < 256 ∧ let u := commitEffect b x p (.ledgerClosePeriod r) s
      r.getLsbD m = false) ∧
    (∃ (b : BoundaryIn) (x : Bool) (p : Nat) (r : BitVec 256) (s : State) (m : Nat), m < 256 ∧ let u := commitEffect b x p (.ledgerClosePeriod r) s
      r.getLsbD m = true ∧ (s.ledger m).ops = [] ∧ s.bookingDue = false) ∧
    (∃ (b : BoundaryIn) (x : Bool) (p : Nat) (r : BitVec 256) (s : State) (m : Nat), m < 256 ∧ let u := commitEffect b x p (.ledgerClosePeriod r) s
      r.getLsbD m = true ∧ (s.ledger m).ops = [] ∧ s.bookingDue = true) ∧
    (∃ (b : BoundaryIn) (x : Bool) (p : Nat) (r : PolderRecord) (s : State), p ≠ 0) ∧
    (∃ (b : BoundaryIn) (x : Bool) (p n : Nat) (s : State), n ≠ 0) :=
  ⟨⟨bIn, false, 0, def5, up, by decide +kernel⟩,
   ⟨bIn, false, 0, def5, metered, by decide +kernel⟩,
   ⟨bIn, false, 0, ⟨5, 0⟩, (metered.modCf 15 (fun x => { x with map := some ⟨5, 0, 1, 1⟩ })), 15, ⟨5, 0, 1, 1⟩, by decide +kernel⟩,
   ⟨bIn, false, 0, ⟨5, 0⟩, (metered.modCf 15 (fun x => { x with map := some ⟨6, 0, 1, 1⟩ })), 15, ⟨6, 0, 1, 1⟩, by decide +kernel⟩,
   ⟨bIn, false, 0, ⟨5, 0⟩, metered, by decide +kernel⟩,
   ⟨bIn, false, 0, ⟨15, 5, 15, 80, 1, 0⟩, metered, by decide +kernel⟩,
   ⟨bIn, false, 0, ⟨15, 0, 0xFF, 0, 0, 0⟩, metered, by decide +kernel⟩,
   ⟨bIn, false, 0, ⟨5, 1, 7, 0, 1⟩, metered, by decide +kernel⟩,
   ⟨bIn, false, 0, ⟨5, 1, 7, 0, 1⟩, metered, by decide +kernel⟩,
   ⟨bIn, false, 0, ⟨5, 1, 7, 15, 0xFF⟩, metered, by decide +kernel⟩,
   ⟨bIn, false, 0, ⟨5, List.replicate 4 ⟨0xFF, 0, 0, 0⟩⟩, metered, by decide +kernel⟩,
   ⟨bIn, false, 0, ⟨5, ⟨15, 60, 15, 255⟩ :: List.replicate 3 ⟨0xFF, 0, 0, 0⟩⟩, metered, by decide +kernel⟩,
   ⟨bIn, false, 0, 32, metered, 255, by decide +kernel⟩,
   ⟨bIn, false, 0, 32, metered, 5, by decide +kernel⟩,
   ⟨bIn, false, 0, 32, { metered with closing := { Closing.before with open_ := true, bnd := 1000 } }, 5, by decide +kernel⟩,
   ⟨bIn, false, 15, rec1, up, by decide +kernel⟩,
   ⟨bIn, false, 0, 15, up, by decide +kernel⟩⟩

theorem witness_CompletionEffects :
    (∃ (p : Nat) (m : BitVec 128) (s : State) (c : Nat), c < 128) ∧
    (∃ (p k : Nat) (r : PqSetCapture) (s : State), r.nseg = 0) ∧
    (∃ (p k : Nat) (r : PqSetCapture) (s : State), r.nseg ≠ 0 ∧ s.captureNumber r.capture = some k) ∧
    (∃ (p k a : Nat) (c : Capture) (s : State), s.pq.captures.find k = some c) ∧
    (∃ (p : Nat) (r : PqRelease) (c : Capture) (s : State), s.pq.captures.find r.capture = some c) ∧
    (∃ (p k : Nat) (r : PqStreamOpen) (s : State), firstFrom (fun k => (s.pq.streams.find k).isNone) 16 0 = some k) ∧
    (∃ (p : Nat) (r : EventMask) (s : State) (e : Nat), e < 1024) ∧
    (∃ (p : Nat) (r : PlcSetLink) (s : State), let u := (applyNow p (.plcSetLink r) s).2
      r.enable = 0) ∧
    (∃ (p : Nat) (r : PlcSetNetwork) (s : State), let u := (applyNow p (.plcSetNetwork r) s).2
      (∀ o, s.plc.net = some o → o.key ≠ r.netKey)) ∧
    (∃ (p : Nat) (r : PlcSetNetwork) (s : State), let u := (applyNow p (.plcSetNetwork r) s).2
      ∃ o, s.plc.net = some o ∧ o.key = r.netKey) ∧
    (∃ (p : Nat) (f : PlcFrame) (rest : List PlcFrame) (s : State), (s.polder p).rxq = []) ∧
    (∃ (p : Nat) (f : PlcFrame) (rest : List PlcFrame) (s : State), (s.polder p).rxq = f :: rest) ∧
    (∃ (p : Nat) (r : StoreErase) (s : State) (g : Nat), let u := (applyNow p (.storeErase r) s).2
      let a := 4 * p + r.addr / 4096
      g < 1984) ∧
    (∃ (p : Nat) (r : GuardUnlock) (s : State), let x := applyNow p (.guardUnlock r) s
      r.step = 0) ∧
    (∃ (p : Nat) (r : GuardUnlock) (s : State), let x := applyNow p (.guardUnlock r) s
      r.step ≠ 0 ∧ s.guard.closed = true ∧ s.evt.disabled.getLsbD 681 = false) ∧
    (∃ (p : Nat) (r : ImageStage) (s : State) (g : Nat), let u := (applyNow p (.imageStage r) s).2
      let old (c : ImageCopy) : Option (List Byte) := if r.offset / 16 ≤ g ∧ g < r.offset / 16 + r.data.length / 16 then some (slice r.data (16 * (g - r.offset / 16)) 16) else if r.offset = 0 then none else c.granules.find g
      r.kind = 1) ∧
    (∃ (p : Nat) (r : ImageStage) (s : State) (g : Nat), let u := (applyNow p (.imageStage r) s).2
      let old (c : ImageCopy) : Option (List Byte) := if r.offset / 16 ≤ g ∧ g < r.offset / 16 + r.data.length / 16 then some (slice r.data (16 * (g - r.offset / 16)) 16) else if r.offset = 0 then none else c.granules.find g
      r.kind ≠ 1) ∧
    (∃ (i : Instr) (x : Submit) (r : PlcSend) (s : State), i.entry = some (x, .plcSend r) ∧ let t := s.advance x.t
      let h := ticketOf x (.plcSend r) t
      accepted x (.plcSend r) t = true) ∧
    (∃ (i : Instr) (x : Submit) (r : LedgerReadSigned) (s : State), i.entry = some (x, .ledgerReadSigned r) ∧ let t := s.advance x.t
      let h := ticketOf x (.ledgerReadSigned r) t
      accepted x (.ledgerReadSigned r) t = true) ∧
    (∃ (i : Instr) (x : Submit) (c : Cmd) (s : State), i.entry = some (x, c) ∧ c.staged = false ∧ (∀ r, c ≠ .ledgerReadSigned r) ∧ let t := s.advance x.t
      let h := ticketOf x c t
      accepted x c t = true ∧ unmirrored c t = false) :=
  ⟨⟨0, 1 <<< 127, up, 127, by decide +kernel⟩,
   ⟨0, 0, { capCfg with nseg := 0 }, withCap, by decide +kernel⟩,
   ⟨0, 0, { capCfg with capture := 0xFF }, up, by decide +kernel⟩,
   ⟨0, 3, 1, capOf 0, withCap, by decide +kernel⟩,
   ⟨0, ⟨3, 0xFFFF⟩, capOf 0, withCap, by decide +kernel⟩,
   ⟨0, 0, strCfg, up, by decide +kernel⟩,
   ⟨0, ⟨31, 1, 1⟩, up, 1023, by decide +kernel⟩,
   ⟨0, ⟨0, 0, 0, 0, 0⟩, plcCur cur0, by decide +kernel⟩,
   ⟨0, ⟨1, 2, 1, 6⟩, plcCur cur0, by intro u o h; have h : some net0 = some o := h; injection h with h; subst h; decide +kernel⟩,
   ⟨0, ⟨1, 2, 1, 5⟩, plcCur cur0, net0, by decide +kernel⟩,
   ⟨0, plcFrame, [], up, by decide +kernel⟩,
   ⟨0, plcFrame, [], (up.modPolder 0 fun q => { q with rxq := [plcFrame] }), by decide +kernel⟩,
   ⟨0, ⟨0, 4⟩, up, 1983, by decide +kernel⟩,
   ⟨0, ⟨0, 0, []⟩, up, by decide +kernel⟩,
   ⟨0, ⟨1, 0, []⟩, (grd (fun g => { g with closed := true })), by decide +kernel⟩,
   ⟨0, ⟨1, 0, zeros 16⟩, up, 0, by decide +kernel⟩,
   ⟨0, ⟨0, 0, zeros 16⟩, up, 0, by decide +kernel⟩,
   ⟨.plcSend (sealedEntry 9 (.plcSend ⟨2, 15, 3, 2, 1500, zeros 1500⟩)) ⟨2, 15, 3, 2, 1500, zeros 1500⟩, sealedEntry 9 (.plcSend ⟨2, 15, 3, 2, 1500, zeros 1500⟩), ⟨2, 15, 3, 2, 1500, zeros 1500⟩, plcCur cur0, by decide +kernel⟩,
   ⟨.ledgerReadSigned (sealedEntry 9 (.ledgerReadSigned ⟨5, 0, 31⟩)) ⟨5, 0, 31⟩, sealedEntry 9 (.ledgerReadSigned ⟨5, 0, 31⟩), ⟨5, 0, 31⟩, metered, by decide +kernel⟩,
   ⟨.tariffActivateAt (sealedEntry 9 (.tariffActivateAt 0)) 0, sealedEntry 9 (.tariffActivateAt 0), .tariffActivateAt 0, (tdm (fun x => { x with role := .captain })), ⟨by decide +kernel, by decide +kernel, by nofun, by decide +kernel⟩⟩⟩

/-! ## Witnesses that rest on what the model leaves abstract

The unwrapping of keys and the verification of a signature are constants without a value (log entry 24), so the clauses about a rekey,
a guard response and an activation are met where the constant answers as a device's would. The bank and the calendar are concrete. -/

/-- The bytes of a coefficient bank: half-bands of one tap each, a prototype of nine taps, as R183 and R184 lay it out. -/
def bankBytes : List Byte :=
  List.flatten [leBytes 4 1, leBytes 4 7, leBytes 4 1768, leBytes 4 0x41a4d057, zeros 8, leBytes 4 (2 ^ 20), zeros 16, leBytes 4 (2 ^ 20),
    zeros 1692, leBytes 4 (2 ^ 21), leBytes 4 (2 ^ 22), leBytes 4 (2 ^ 22), leBytes 4 (2 ^ 22), leBytes 4 (2 ^ 22), leBytes 4 1, [12], zeros 3]

theorem witness_CompletionEffects_bank : (parseBank bankBytes).isSome = true := by decide +kernel

/-- The bytes of a calendar: one offset, one season, one week and one day of rate 0, as R298 lays it out. -/
def calendarBytes : List Byte :=
  List.flatten [leBytes 4 1, leBytes 4 5, leBytes 4 3936, leBytes 4 0x35be6010, [1, 1, 1, 1, 0, 0, 0, 0], zeros 552, [1, 1], zeros 158, [1], zeros 3199]

theorem witness_CompletionEffects_calendar : (parseCalendar calendarBytes).isSome = true := by decide +kernel

theorem witness_CompletionEffects_rekey (k : BitVec 256 × BitVec 256) :
    Config.unwrapKeys 0 1 true (zeros 64) (zeros 72) = some k →
    rekeyKeys 0 ⟨5, 1, zeros 64, zeros 72⟩ = some k ∧ (5 : BitVec 8).getLsbD 0 = true := by
  intro h
  refine ⟨?_, by decide⟩
  unfold rekeyKeys
  rw [show (5 : BitVec 8).getLsbD 2 = true from by decide, h]
  rfl

/-- A device whose idle wet copy holds `c`. -/
def withPackage (c : ImageCopy) : State := fls fun f => { f with wetB := c }

theorem witness_StagedCommits_wet (c : ImageCopy) (h : packageOk 0 (withPackage c) = true) :
    recheck (staged (.imageActivate 0) 1000) [] (withPackage c) = none ∧ activates 0 (Cmd.imageActivate 0) = true := by
  refine ⟨?_, rfl⟩
  have h1 : commandRefusal 0 (.imageActivate 0) false (withPackage c) = Option.none := rfl
  have h3 : judge 0 (.imageActivate 0) true [] true (withPackage c) = .ok := by
    simp only [judge, argument, h]; rfl
  have h4 : floodgated (.imageActivate 0) (withPackage c) = false := rfl
  have h5 : sealGated (.imageActivate 0) (withPackage c) = false := rfl
  simp only [recheck, staged, held, h1, h3, h4, h5]; rfl

/-- The frame of `frameFull` opens where the cipher answers, and is then a data frame for this node (PlcRows). -/
theorem witness_PlcRows_delivered (b : List Byte)
    (h : Config.linkOpen net0.key (macNonce 3 1 net0.name) (slice macIn 0 24) (slice macIn 24 8) = some b) :
    ∃ x, macOpen net0 frameFull.control macIn = some x ∧ x.type = 1 ∧ x.final = net0.node ∧ net0.node ≠ 0xFFFF ∧
      (plcTick ((plcCur cur0).advance 0)).polderExists x.destPolder = true ∧
      ((plcTick ((plcCur cur0).advance 0)).polder x.destPolder).rxq.length < 32 ∧
      (plcTick ((plcCur cur0).advance 0)).plc.seen.find 3 = Option.none ∧ frameFull.mac = some macIn ∧
      controlOk 1 frameFull.control = true ∧ field frameFull.control 6 2 = net0.node := by
  have hp : macPn macIn = 1 := by decide +kernel
  have hs : field frameFull.control 4 2 = 3 := by decide +kernel
  have hb : (macHeader frameFull.control macIn).body = slice macIn 24 8 := by decide +kernel
  have ht : (macHeader frameFull.control macIn).type = 1 ∧ (macHeader frameFull.control macIn).final = net0.node := by decide +kernel
  refine ⟨{ macHeader frameFull.control macIn with body := b }, ?_, ht.1, ht.2, by decide +kernel, ?_, ?_, by decide +kernel,
    by decide +kernel, by decide +kernel, by decide +kernel⟩
  · simp only [macOpen]
    rw [hp, hs, hb, h, if_neg (by decide +kernel)]
    rfl
  · show (plcTick ((plcCur cur0).advance 0)).polderExists (macHeader frameFull.control macIn).destPolder = true
    decide +kernel
  · show ((plcTick ((plcCur cur0).advance 0)).polder (macHeader frameFull.control macIn).destPolder).rxq.length < 32
    decide +kernel

/-- An entry is accepted whose argument check passes, where the rest holds of it. -/
theorem accepts_of_judge {c : Cmd} {s : State}
    (hj : judge (ticketOf (sealedEntry 9 c) c (s.advance 1000)).polder c false [] (othersOf (sealedEntry 9 c) c (s.advance 1000)).isEmpty
      (ticketed (sealedEntry 9 c) c (s.advance 1000)) = .ok)
    (hr : (unrefused (sealedEntry 9 c) c (s.advance 1000) && wellSubmitted (sealedEntry 9 c) c (s.advance 1000)
      && !floodgated c (ticketed (sealedEntry 9 c) c (s.advance 1000))
      && (!sealGated c (ticketed (sealedEntry 9 c) c (s.advance 1000)) || (ticketed (sealedEntry 9 c) c (s.advance 1000)).seals.open_)) = true) :
    accepts c s = true := by
  simp only [Bool.and_eq_true] at hr
  simp only [accepts, accepted, hj, Bool.and_eq_true]
  exact ⟨⟨⟨⟨hr.1.1.1, hr.1.1.2⟩, rfl⟩, hr.1.2⟩, hr.2⟩

theorem test_accepts_bank : accepts (.chainLoadBank ⟨1, bankBytes⟩) up = true := by
  refine accepts_of_judge ?_ (by decide +kernel)
  simp only [judge, judgeLoad, witness_CompletionEffects_bank]; decide +kernel

theorem test_accepts_calendar : accepts (.tariffStageCalendar calendarBytes) up = true := by
  refine accepts_of_judge ?_ (by decide +kernel)
  simp only [judge, witness_CompletionEffects_calendar]; decide +kernel

theorem test_accepts_rekey (k : BitVec 256 × BitVec 256) (h : Config.unwrapKeys 0 1 true (zeros 64) (zeros 72) = some k) :
    accepts (.polderRekey ⟨5, 1, zeros 64, zeros 72⟩) up = true := by
  have hk := (witness_CompletionEffects_rekey k h).1
  refine accepts_of_judge ?_ (by decide +kernel)
  simp only [judge]
  unfold judgeRekey
  rw [show (ticketOf (sealedEntry 9 (.polderRekey ⟨5, 1, zeros 64, zeros 72⟩)) (.polderRekey ⟨5, 1, zeros 64, zeros 72⟩) (up.advance 1000)).polder = 0 from rfl, hk]
  rfl

/-- A device with a key for the guard and a challenge that it has just given. -/
def challenged : State := grd fun g => { g with key := some (zeros 64), challenge := some { id := 3, bytes := 5, issued := up.now } }

theorem test_accepts_unlock (h : unlockValid ⟨1, 3, zeros 64⟩
      (ticketed (sealedEntry 9 (.guardUnlock ⟨1, 3, zeros 64⟩)) (.guardUnlock ⟨1, 3, zeros 64⟩) (challenged.advance 1000)) = true) :
    accepts (.guardUnlock ⟨1, 3, zeros 64⟩) challenged = true := by
  have hj : judge 0 (.guardUnlock ⟨1, 3, zeros 64⟩) false [] true
      (ticketed (sealedEntry 9 (.guardUnlock ⟨1, 3, zeros 64⟩)) (.guardUnlock ⟨1, 3, zeros 64⟩) (challenged.advance 1000)) = .ok := by
    simp only [judge, argument, h]; rfl
  exact accepts_of_judge hj (by decide +kernel)

theorem test_accepts_activate (c : ImageCopy) (h : packageOk 0 (withPackage c) = true) : accepts (.imageActivate 0) (withPackage c) = true := by
  have hp : packageOk 0 (ticketed (sealedEntry 9 (.imageActivate 0)) (.imageActivate 0) ((withPackage c).advance 1000)) = true := h
  have hj : judge 0 (.imageActivate 0) false [] true (ticketed (sealedEntry 9 (.imageActivate 0)) (.imageActivate 0) ((withPackage c).advance 1000)) = .ok := by
    simp only [judge, argument, hp]; rfl
  refine accepts_of_judge hj ?_
  with_unfolding_all rfl

end Sys2Proof.Tests
end

section
/-! SUPPORT. What firing an event source, the first rises of a start and the choice of a wet copy leave alone: the settings of a start,
the fabric and what the host ports carry. -/
namespace Sys2Proof.Machine

/-- Power without the fields that a wake reason, a domain's order or a change of the wet copy writes. -/
def Power.steady (p : Power) : Power :=
  { p with
    state := .trim, wakeCause := 0, collided := false, hold := false, vbatLatched := false, vbatNew := false, episode := 0
    episodeOpen := false, devWakeFirst := none, devWakeAt := none, reasonAt := none, wetActive := false, doms := [] }

/-- A field that is steady is the same where the steady power settings are. -/
theorem Power.read_of_steady {α : Type} {p q : Power} (h : p.steady = q.steady) (φ : Power → α) (hφ : ∀ p : Power, φ p.steady = φ p) :
    φ p = φ q := by
  rw [← hφ p, h, hφ]

/-- `t` came from `s` without a change of its steady power settings, its fabric or a permission of its ports. -/
structure Undisturbed (s t : State) : Prop where
  steady : t.pwr.steady = s.pwr.steady
  fab : t.fab = s.fab
  perm : ∀ n, (t.port n).perm = (s.port n).perm

namespace Undisturbed

theorem refl (s : State) : Undisturbed s s := ⟨rfl, rfl, fun _ => rfl⟩

theorem trans {s t u : State} (h : Undisturbed s t) (k : Undisturbed t u) : Undisturbed s u :=
  ⟨k.steady.trans h.steady, k.fab.trans h.fab, fun n => (k.perm n).trans (h.perm n)⟩

/-- A fold of undisturbing steps is undisturbing. -/
theorem foldl {α : Type} {f : State → α → State} (h : ∀ s a, Undisturbed s (f s a)) (l : List α) (s : State) :
    Undisturbed s (l.foldl f s) := by
  induction l generalizing s with
  | nil => exact refl s
  | cons a l ih => exact (h s a).trans (ih (f s a))

/-- Of two undisturbed outcomes either is one. -/
theorem ite {c : Prop} [Decidable c] {s t u : State} (h : Undisturbed s t) (k : Undisturbed s u) : Undisturbed s (if c then t else u) := by
  split
  · exact h
  · exact k

variable {s t : State} (h : Undisturbed s t)
include h

theorem read {α : Type} (φ : Power → α) (hφ : ∀ p : Power, φ p.steady = φ p) : φ t.pwr = φ s.pwr := Power.read_of_steady h.steady φ hφ

theorem portsReady : t.pwr.portsReady = s.pwr.portsReady := h.read Power.portsReady fun _ => rfl
theorem dryOk : t.pwr.dryOk = s.pwr.dryOk := h.read Power.dryOk fun _ => rfl
theorem porstHigh : t.pwr.porstHigh = s.pwr.porstHigh := h.read Power.porstHigh fun _ => rfl
theorem aonLost : t.pwr.aonLost = s.pwr.aonLost := h.read Power.aonLost fun _ => rfl
theorem halted : t.pwr.halted = s.pwr.halted := h.read Power.halted fun _ => rfl
theorem startCount : t.pwr.startCount = s.pwr.startCount := h.read Power.startCount fun _ => rfl
theorem firstPub : t.pwr.firstPub = s.pwr.firstPub := h.read Power.firstPub fun _ => rfl
theorem tiebreak : t.pwr.tiebreak = s.pwr.tiebreak := h.read Power.tiebreak fun _ => rfl
theorem clkExt : t.pwr.clkExt = s.pwr.clkExt := h.read Power.clkExt fun _ => rfl
theorem recovery : t.pwr.recovery = s.pwr.recovery := h.read Power.recovery fun _ => rfl

end Undisturbed

/-- A map that keeps an entry's number is found as the entry, mapped. -/
theorem Tab.find_map_pair {α : Type} (t : Tab α) (f : Nat × α → Nat × α) (h1 : ∀ e, (f e).1 = e.1) (k : Nat) :
    Tab.find (t.map f) k = (Tab.find t k).map fun x => (f (k, x)).2 := by
  have hf : f = fun e => (e.1, (f (e.1, e.2)).2) := funext fun e => Prod.ext (h1 e) rfl
  rw [hf]
  exact Tab.find_map t (fun k x => (f (k, x)).2) k

/-- What a map of a table's entries leaves of every entry, it leaves of the entry read. -/
theorem Tab.get_map_congr {α β : Type} (t : Tab α) (d : α) {f : Nat × α → Nat × α} (φ : α → β) (h1 : ∀ e, (f e).1 = e.1)
    (h2 : ∀ e, φ (f e).2 = φ e.2) (k : Nat) : φ (Tab.get (t.map f) d k) = φ (Tab.get t d k) := by
  unfold Tab.get
  rw [Tab.find_map_pair t f h1]
  cases Tab.find t k with
  | none => rfl
  | some x => exact h2 (k, x)

/-- What holds of the default and of every entry that a map makes holds of the entry read. -/
theorem Tab.get_map_of {α : Type} (t : Tab α) (d : α) {f : Nat × α → Nat × α} (P : α → Prop) (h1 : ∀ e, (f e).1 = e.1) (k : Nat)
    (hd : P d) (hf : ∀ x, P (f (k, x)).2) : P (Tab.get (t.map f) d k) := by
  unfold Tab.get
  rw [Tab.find_map_pair t f h1]
  cases Tab.find t k with
  | none => exact hd
  | some x => exact hf x

section
variable (s : State)

/-! ## Firing -/

theorem State.setBit_undisturbed (e : Nat) : Undisturbed s (s.setBit e) := by
  refine ⟨rfl, rfl, Tab.get_map_congr s.hp Port.reset Port.perm (fun _ => rfl) fun e => ?_⟩
  dsimp only
  split <;> rfl

theorem State.modPolder_undisturbed (p : Nat) (f : Polder → Polder) : Undisturbed s (s.modPolder p f) := ⟨rfl, rfl, fun _ => rfl⟩

theorem State.post_undisturbed (e code : Nat) (data : BitVec 32) (stamp : Nat) : Undisturbed s (s.post e code data stamp) := by
  unfold State.post
  exact .ite (.refl s) ((s.modPolder_undisturbed _ _).trans (State.setBit_undisturbed _ e))

theorem State.overflow_undisturbed (p : Nat) : Undisturbed s (s.overflow p) := by
  unfold State.overflow
  exact .ite (.refl s) ((s.modPolder_undisturbed _ _).trans (State.post_undisturbed _ _ _ _ _))

/-- A wake reason writes the fields of the episode alone. -/
theorem Power.reason_steady (p : Power) (r now : Nat) : (p.reason r now).steady = p.steady := by
  unfold Power.reason
  dsimp only
  split <;> split <;> rfl

theorem State.wakeHush_undisturbed (r : Nat) : Undisturbed s (s.wakeHush r) := by
  have hr := s.pwr.reason_steady r s.now
  unfold State.wakeHush
  exact .ite ⟨hr, rfl, fun _ => rfl⟩ (.ite ⟨hr, rfl, fun _ => rfl⟩ (.refl s))

theorem State.irqWake_undisturbed (p : Nat) : Undisturbed s (s.irqWake p) := by
  unfold State.irqWake
  exact .ite (s.wakeHush_undisturbed 1) (.refl s)

theorem State.signal_undisturbed (e code : Nat) (data : BitVec 32) (stamp : Nat) : Undisturbed s (s.signal e code data stamp) := by
  have posted := (s.post_undisturbed e code data stamp).trans (State.overflow_undisturbed _ (s.owner e))
  unfold State.signal
  exact .ite posted (posted.trans (State.irqWake_undisturbed _ _))

theorem State.crestNote_undisturbed (code : Nat) (data : BitVec 32) : Undisturbed s (s.crestNote code data) :=
  .trans (t := ({ s with log := s.log.addEvent _ } : State).modPolder _ _) ⟨rfl, rfl, fun _ => rfl⟩ (State.signal_undisturbed _ _ _ _ _)

theorem State.crest_undisturbed (n : LogEntry) : Undisturbed s (s.crest n) := by
  have noted : Undisturbed s (({ s with log := s.log.addCrest n } : State).crestNote 3 (s.log.addCrest n).crestSeq) :=
    .trans (t := { s with log := s.log.addCrest n }) ⟨rfl, rfl, fun _ => rfl⟩ (State.crestNote_undisturbed _ _ _)
  unfold State.crest
  exact .ite (.refl s) (.ite (noted.trans (State.crestNote_undisturbed _ _ _)) noted)

theorem State.record_undisturbed (n : LogEntry) (closes : Bool) : Undisturbed s (s.record n closes) := by
  have logged (f : Polder → Polder) : Undisturbed s (({ s with log := s.log.addEvent n } : State).modPolder n.owner f) := ⟨rfl, rfl, fun _ => rfl⟩
  unfold State.record
  exact .ite ((logged _).trans (State.crest_undisturbed _ _)) (logged _)

theorem State.fireFull_undisturbed (e code : Nat) (data : BitVec 32) (stamp : Nat) (latched unknown : Bool) (detail : BitVec 64) (closes : Bool) :
    Undisturbed s (s.fireFull e code data stamp latched unknown detail closes) := by
  unfold State.fireFull
  exact .trans (.ite (s.record_undisturbed _ _) (.refl s)) (State.signal_undisturbed _ _ _ _ _)

theorem State.fire_undisturbed (e code : Nat) (data : BitVec 32) : Undisturbed s (s.fire e code data) := s.fireFull_undisturbed _ _ _ _ _ _ _ _

end

end Sys2Proof.Machine
end

section
/-! SUPPORT. The fabric at a boundary: what each of its steps makes of the voltage request, and the pass as those steps in order. -/
namespace Sys2Proof.Machine

section
variable (f : Fabric)

/-! ## The steps of the fabric -/

@[simp] theorem Fabric.drive_vreq (code : Nat) : (f.drive code).vreq = code := by
  unfold Fabric.drive
  split
  · next h => exact h.symm
  · rfl

@[simp] theorem Fabric.drive_forced (code : Nat) : (f.drive code).forced = f.forced := by unfold Fabric.drive; split <;> rfl
@[simp] theorem Fabric.drive_lowRun (code : Nat) : (f.drive code).lowRun = f.lowRun := by unfold Fabric.drive; split <;> rfl

/-- A code other than the one driven begins a settle allowance. -/
theorem Fabric.drive_of_ne {code : Nat} (h : code ≠ f.vreq) : f.drive code = { f with vreq := code, settleLeft := Nat.max 1 f.settle + 1 } :=
  if_neg h

@[simp] theorem Fabric.settleEnd_last : f.settleEnd.last = f.last := by unfold Fabric.settleEnd; split <;> rfl
@[simp] theorem Fabric.settleEnd_vreq : f.settleEnd.vreq = f.vreq := by unfold Fabric.settleEnd; split <;> rfl
@[simp] theorem Fabric.settleEnd_fixed : f.settleEnd.fixed = f.fixed := by unfold Fabric.settleEnd; split <;> rfl
@[simp] theorem Fabric.settleEnd_forced : f.settleEnd.forced = f.forced := by unfold Fabric.settleEnd; split <;> rfl
@[simp] theorem Fabric.settleEnd_lowRun : f.settleEnd.lowRun = f.lowRun := by unfold Fabric.settleEnd; split <;> rfl

/-- A forced request is not raised. -/
theorem Fabric.raise_of_forced (h : f.forced = true) : f.raise = f := if_pos h

/-- In adaptive mode the request rises above 80 %, by the step that the occupancy gives. -/
theorem Fabric.raise_of_high (hforced : f.forced = false) (hfixed : f.fixed = false) (h : 819 < f.last) :
    f.raise = f.drive (Nat.min 7 (f.vreq + if 972 < f.last then 2 else 1)) := by
  unfold Fabric.raise
  rw [if_neg (by simp [hforced]), if_neg (by simp [hfixed])]
  by_cases h2 : 972 < f.last
  · rw [if_pos h2, if_pos h2]
  · rw [if_neg h2, if_pos h, if_neg h2]

@[simp] theorem Fabric.raise_forced : f.raise.forced = f.forced := by
  unfold Fabric.raise
  split
  · rfl
  · split
    · exact f.drive_forced _
    · split
      · exact f.drive_forced _
      · split
        · exact f.drive_forced _
        · rfl

/-- A request is not lowered before 125 low cadences in a row. -/
theorem Fabric.lower_of_short_run (h : f.lowRun < 125) : f.lower = f := by
  have : f.mayLower = false := by simp [Fabric.mayLower, Nat.not_le.mpr h]
  exact if_neg (by simp [this])

/-- A forced request is not lowered. -/
theorem Fabric.lower_of_forced (h : f.forced = true) : f.lower = f := by
  have : f.mayLower = false := by simp [Fabric.mayLower, h]
  exact if_neg (by simp [this])

/-- Where it may be lowered the request falls by one step, and a settle allowance begins. -/
theorem Fabric.lower_of_mayLower (h : f.mayLower = true) (hv : 0 < f.vreq) :
    f.lower = { f with vreq := f.vreq - 1, lowRun := 0, settleLeft := Nat.max 1 f.settle + 1 } := by
  unfold Fabric.lower
  rw [if_pos h, f.drive_of_ne (by omega)]

@[simp] theorem Fabric.lower_forced : f.lower.forced = f.forced := by
  unfold Fabric.lower
  split
  · exact f.drive_forced _
  · rfl

/-- A rise of the shedding level writes that level and the count of cadences towards its fall alone (R58). -/
theorem Fabric.shedRise_of : ∃ level run, f.shedRise = { f with shed := level, shedRun := run } := by
  unfold Fabric.shedRise
  split
  · exact ⟨_, _, rfl⟩
  · split
    · exact ⟨_, _, rfl⟩
    · exact ⟨f.shed, f.shedRun, rfl⟩

@[simp] theorem Fabric.shedRise_vreq : f.shedRise.vreq = f.vreq := by obtain ⟨_, _, h⟩ := f.shedRise_of; rw [h]
@[simp] theorem Fabric.shedRise_forced : f.shedRise.forced = f.forced := by obtain ⟨_, _, h⟩ := f.shedRise_of; rw [h]
@[simp] theorem Fabric.shedFall_vreq : f.shedFall.vreq = f.vreq := by unfold Fabric.shedFall; split <;> rfl
@[simp] theorem Fabric.shedFall_forced : f.shedFall.forced = f.forced := by unfold Fabric.shedFall; split <;> rfl

@[simp] theorem Fabric.kick_vreq : f.kick.vreq = 5 := f.drive_vreq 5
@[simp] theorem Fabric.kick_forced : f.kick.forced = true := rfl

end

section
variable (s : State)

/-! ## The pass of a boundary -/

theorem overrunSecond_fab : (overrunSecond s).fab = { s.fab with secOver := 0, secPeak := 0, secRes := 0 } := by
  unfold overrunSecond
  dsimp only
  split
  · rfl
  · rw [State.fireFull_fab]

theorem overrunSecond_steady : (overrunSecond s).pwr.steady = s.pwr.steady := by
  unfold overrunSecond
  dsimp only
  split
  · rfl
  · rw [(State.fireFull_undisturbed _ _ _ _ _ _ _ _ _).steady]

theorem overrunSecond_portsReady : (overrunSecond s).pwr.portsReady = s.pwr.portsReady :=
  Power.read_of_steady (overrunSecond_steady s) Power.portsReady fun _ => rfl
theorem overrunSecond_dryOk : (overrunSecond s).pwr.dryOk = s.pwr.dryOk :=
  Power.read_of_steady (overrunSecond_steady s) Power.dryOk fun _ => rfl

theorem atMaxPass_fab : (atMaxPass s).fab = { s.fab with atMax := s.fab.maxNow } := by
  unfold atMaxPass
  dsimp only
  split
  · rw [State.fire_fab]
  · rfl

/-- The state in which a boundary has measured the closing cadence and decided whether the request is still forced. -/
def State.measured (occ cap : List Nat) (newSecond : Bool) : State :=
  let t : State := { s with fab := s.fab.measure occ cap }
  unforce (if newSecond then overrunSecond t else t)

theorem fabricPass_eq (occ cap : List Nat) (newSecond : Bool) :
    fabricPass occ cap newSecond s =
      atMaxPass { s.measured occ cap newSecond with fab := ((((s.measured occ cap newSecond).fab.settleEnd.raise).lower).shedRise).shedFall } := rfl

/-- A field that neither the count of an overrun second nor the forcing of the request is, is as measured. -/
theorem State.measured_congr {α : Type} (φ : Fabric → α) (hforced : ∀ f b, φ { f with forced := b } = φ f)
    (hsecond : ∀ f o p r, φ { f with secOver := o, secPeak := p, secRes := r } = φ f) (occ cap : List Nat) (newSecond : Bool) :
    φ (s.measured occ cap newSecond).fab = φ (s.fab.measure occ cap) := by
  have unforced (t : State) : φ (unforce t).fab = φ t.fab := by
    unfold unforce
    split
    · exact hforced _ _
    · rfl
  unfold State.measured
  dsimp only
  rw [unforced]
  cases newSecond
  · rfl
  · rw [if_pos rfl, overrunSecond_fab]
    exact hsecond _ _ _ _

@[simp] theorem State.measured_vreq (occ cap : List Nat) (newSecond : Bool) : (s.measured occ cap newSecond).fab.vreq = s.fab.vreq :=
  s.measured_congr Fabric.vreq (fun _ _ => rfl) (fun _ _ _ _ => rfl) occ cap newSecond
@[simp] theorem State.measured_fixed (occ cap : List Nat) (newSecond : Bool) : (s.measured occ cap newSecond).fab.fixed = s.fab.fixed :=
  s.measured_congr Fabric.fixed (fun _ _ => rfl) (fun _ _ _ _ => rfl) occ cap newSecond
@[simp] theorem State.measured_last (occ cap : List Nat) (newSecond : Bool) : (s.measured occ cap newSecond).fab.last = (deviceOcc occ).1 :=
  s.measured_congr Fabric.last (fun _ _ => rfl) (fun _ _ _ _ => rfl) occ cap newSecond
theorem State.measured_lowRun (occ cap : List Nat) (newSecond : Bool) :
    (s.measured occ cap newSecond).fab.lowRun = if (deviceOcc occ).1 < 512 then s.fab.lowRun + 1 else 0 :=
  s.measured_congr Fabric.lowRun (fun _ _ => rfl) (fun _ _ _ _ => rfl) occ cap newSecond

theorem unforce_forced : (unforce s).fab.forced = (s.fab.forced && !(s.pwr.portsReady && s.pwr.dryOk)) := by
  unfold unforce
  have ready : ∀ a b c : Bool, (a && b && c) = true → false = (a && !(b && c)) := by decide
  have unready : ∀ a b c : Bool, ¬ (a && b && c) = true → a = (a && !(b && c)) := by decide
  split
  · next h => exact ready _ _ _ h
  · next h => exact unready _ _ _ h

/-- A boundary forces the request no more once the host ports are ready with a dry image that runs (R50). -/
@[simp] theorem State.measured_forced (occ cap : List Nat) (newSecond : Bool) :
    (s.measured occ cap newSecond).fab.forced = (s.fab.forced && !(s.pwr.portsReady && s.pwr.dryOk)) := by
  unfold State.measured
  dsimp only
  rw [unforce_forced]
  cases newSecond
  · rfl
  · rw [if_pos rfl, overrunSecond_fab, overrunSecond_portsReady, overrunSecond_dryOk]
    rfl

@[simp] theorem fabricPass_vreq (occ cap : List Nat) (newSecond : Bool) :
    (fabricPass occ cap newSecond s).fab.vreq = ((s.measured occ cap newSecond).fab.settleEnd.raise.lower).vreq := by
  rw [fabricPass_eq, atMaxPass_fab]
  simp only [Fabric.shedFall_vreq, Fabric.shedRise_vreq]

@[simp] theorem fabricPass_forced (occ cap : List Nat) (newSecond : Bool) :
    (fabricPass occ cap newSecond s).fab.forced = (s.measured occ cap newSecond).fab.forced := by
  rw [fabricPass_eq, atMaxPass_fab]
  simp only [Fabric.shedFall_forced, Fabric.shedRise_forced, Fabric.lower_forced, Fabric.raise_forced, Fabric.settleEnd_forced]

end

end Sys2Proof.Machine
end

section
/-! SUPPORT. What a full start makes of the power settings, the fabric and the ports (R112, R113). -/
namespace Sys2Proof.Machine

section
variable (s : State)

/-! ## The parts of a start -/

theorem runWet_undisturbed (copy : Bool) : Undisturbed s (runWet copy s) := by
  unfold runWet
  exact .ite (.refl s) ⟨rfl, rfl, fun _ => rfl⟩

theorem State.modDom_undisturbed (n : Nat) (f : Dom → Dom) : Undisturbed s (s.modDom n f) := ⟨rfl, rfl, fun _ => rfl⟩

theorem State.loseSluice_undisturbed (n : Nat) : Undisturbed s (s.loseSluice n) :=
  .trans (t := s.newEpoch n) ⟨rfl, rfl, fun _ => rfl⟩ (State.signal_undisturbed _ _ _ _ _)

theorem startSluices_undisturbed : Undisturbed s (startSluices s) :=
  .foldl (fun t n => .ite (t.loseSluice_undisturbed n) (.refl t)) _ s

theorem fuseCheck_undisturbed : Undisturbed s (fuseCheck s) := by
  unfold fuseCheck
  exact .ite (.refl s) ⟨rfl, rfl, fun _ => rfl⟩

theorem trialBack_undisturbed : Undisturbed s (trialBack s) := by
  unfold trialBack
  split
  · exact .refl s
  · next former _ =>
    have back : Undisturbed s (runWet former { s with flash := { s.flash with trial := none } }) :=
      .trans (t := { s with flash := { s.flash with trial := none } }) ⟨rfl, rfl, fun _ => rfl⟩ (runWet_undisturbed _ _)
    exact back.trans (State.fire_undisturbed _ _ _ _)

/-- What a start sets before its first rises: it is counted, the host ports are not ready and carry no polder. -/
theorem beginStart_of (warm : Bool) (at_ : Nat) : ∃ u, Undisturbed u (beginStart warm at_ s) ∧ u.fab = s.fab ∧ (∀ n, (u.port n).perm = 0) ∧
    u.pwr = { s.pwr with
      warm, startCount := s.pwr.startCount + 1, startAt := at_, firstPub := false, firstPubMs := 0, portsMs := 0
      portsReady := false, startBoundary := s.pwr.dryOk, mainWarn := false, afterPfail := false, pfail := false, pfailClosed := false, losses := [] } := by
  refine ⟨_, ((fuseCheck_undisturbed _).trans (.foldl (fun t n => t.modDom_undisturbed n Dom.turnOn) startDoms _)).trans (startSluices_undisturbed _),
    rfl, fun n => ?_, rfl⟩
  refine Tab.get_map_of s.hp Port.reset (fun p => p.perm = 0) ?_ n rfl ?_
  · exact fun _ => rfl
  · exact fun _ => rfl

/-- The image checks set what they find, and whether recovery is needed. -/
theorem imageChecks_of (dryOk wetAOk wetBOk : Bool) :
    Undisturbed { s with pwr := { s.pwr with dryOk, wetAOk, wetBOk, recovery := !wetAOk && !wetBOk } } (imageChecks dryOk wetAOk wetBOk s) := by
  have reported (t : State) : Undisturbed t (
      let u := if dryOk then t else t.fire 642 1 t.flash.dryVer
      if wetAOk && wetBOk then u else if wetAOk || wetBOk then u.fire 642 2 u.flash.wetVer else u.fire 642 3 u.flash.wetVer) := by
    have dry : Undisturbed t (if dryOk then t else t.fire 642 1 t.flash.dryVer) := .ite (.refl t) (t.fire_undisturbed _ _ _)
    exact .ite dry (.ite (dry.trans (State.fire_undisturbed _ _ _ _)) (dry.trans (State.fire_undisturbed _ _ _ _)))
  exact (runWet_undisturbed _ _).trans (reported _)

/-! ## The full start -/

/-- With TMODE high a full start samples the straps and the clock and stops there (R90, R112). -/
theorem fullStart_tmode (r : StartIn) (h : r.tmode = true) :
    fullStart r s = { s with fab := Fabric.reset, pwr := { s.pwr with
      porstHigh := true, aonLost := false, halted := true, tiebreak := r.tiebreak, clkExt := decide (1000 ≤ r.mclk) } } := by
  unfold fullStart
  dsimp only
  rw [if_pos h, h]

/-- What a full start leaves of the power settings that it sets, the fabric and the ports' permissions. -/
structure Started (r : StartIn) (s t : State) : Prop where
  porstHigh : t.pwr.porstHigh = true
  aonLost : t.pwr.aonLost = false
  halted : t.pwr.halted = false
  startCount : t.pwr.startCount = s.pwr.startCount + 1
  portsReady : t.pwr.portsReady = false
  firstPub : t.pwr.firstPub = false
  tiebreak : t.pwr.tiebreak = r.tiebreak
  clkExt : t.pwr.clkExt = decide (1000 ≤ r.mclk)
  dryOk : t.pwr.dryOk = r.dryOk
  recovery : t.pwr.recovery = (!r.wetAOk && !r.wetBOk)
  fab : t.fab = Fabric.reset
  perm : ∀ n, (t.port n).perm = 0

/-- The steps of a start carry what has been sampled through to its end. -/
theorem Started.of_steps {r : StartIn} {a : State} (at_ : Nat) (porstHigh : a.pwr.porstHigh = true) (aonLost : a.pwr.aonLost = false)
    (halted : a.pwr.halted = false) (startCount : a.pwr.startCount = s.pwr.startCount) (tiebreak : a.pwr.tiebreak = r.tiebreak)
    (clkExt : a.pwr.clkExt = decide (1000 ≤ r.mclk)) (fab : a.fab = Fabric.reset) :
    Started r s (imageChecks r.dryOk r.wetAOk r.wetBOk (trialBack (beginStart false at_ a))) := by
  obtain ⟨u, began, hfab, hperm, hpwr⟩ := beginStart_of a false at_
  have same := began.trans (trialBack_undisturbed _)
  have checked := imageChecks_of (trialBack (beginStart false at_ a)) r.dryOk r.wetAOk r.wetBOk
  constructor
  · rw [checked.porstHigh, same.porstHigh, hpwr, porstHigh]
  · rw [checked.aonLost, same.aonLost, hpwr, aonLost]
  · rw [checked.halted, same.halted, hpwr, halted]
  · rw [checked.startCount, same.startCount, hpwr, startCount]
  · rw [checked.portsReady, same.portsReady, hpwr]
  · rw [checked.firstPub, same.firstPub, hpwr]
  · rw [checked.tiebreak, same.tiebreak, hpwr, tiebreak]
  · rw [checked.clkExt, same.clkExt, hpwr, clkExt]
  · rw [checked.dryOk]
  · rw [checked.recovery]
  · rw [checked.fab, same.fab, hfab, fab]
  · exact fun n => by rw [checked.perm n, ← hperm n]; exact same.perm n

theorem fullStart_started (r : StartIn) (h : r.tmode = false) : Started r s (fullStart r s) := by
  unfold fullStart
  dsimp only
  rw [if_neg (by simp [h])]
  exact .of_steps s _ rfl rfl h rfl rfl rfl rfl

theorem fullStart_fab (r : StartIn) : (fullStart r s).fab = Fabric.reset := by
  cases h : r.tmode
  · exact (fullStart_started s r h).fab
  · rw [fullStart_tmode s r h]

end

end Sys2Proof.Machine
end

section
/-! The voltage request at a boundary, and the rows of the fabric (02). -/
namespace Sys2Proof.Machine

/-- Settles O9: a high occupancy ends the run of low cadences, so that the request which the raise drives is not lowered again at the same
boundary. -/
theorem raisedRequest : Obligations.RaisedRequest := by
  unfold Obligations.RaisedRequest
  intro occ cap newSecond s hfixed _ hforced hhigh
  rw [fabricPass_vreq]
  generalize hm : (s.measured occ cap newSecond).fab.settleEnd = f
  have hlast : f.last = (deviceOcc occ).1 := by rw [← hm]; simp
  have hvreq : f.vreq = s.fab.vreq := by rw [← hm]; simp
  have hadaptive : f.fixed = false := by rw [← hm]; simp [hfixed]
  have hfree : f.forced = false := by
    rw [← hm]
    rcases hforced with h | ⟨hready, hdry⟩
    · simp [h]
    · simp [hready, hdry]
  have hrun : f.lowRun = 0 := by
    rw [← hm, Fabric.settleEnd_lowRun, State.measured_lowRun, if_neg (by omega)]
  rw [f.raise_of_high hfree hadaptive (hlast ▸ hhigh), Fabric.lower_of_short_run _ (by simp [hrun]), Fabric.drive_vreq, hlast, hvreq]

section
variable (s : State)

/-! ## Rows that take place at boundaries only -/

theorem atBoundary_on (f : Fabric → Fabric) (h : s.time.off = 0) : atBoundary f s = .next { s with fab := f s.fab } := by
  rw [atBoundary, if_pos h]

theorem atBoundary_off (f : Fabric → Fabric) (h : s.time.off ≠ 0) : atBoundary f s = .next s := by
  rw [atBoundary, if_neg h]

/-- The conditions of R52 together. -/
theorem Fabric.mayLower_of (f : Fabric) (hforced : f.forced = false) (hfixed : f.fixed = false) (hv : 0 < f.vreq) (hrun : 125 ≤ f.lowRun)
    (hsettle : f.settleLeft = 0) (hpred : f.predicted < 717) : f.mayLower = true := by
  simp [Fabric.mayLower, hforced, hfixed, hv, hrun, hsettle, hpred]

theorem Fabric.settleEnd_of_last (f : Fabric) (h : f.settleLeft = 1) : f.settleEnd = { f with settleLeft := 0 } := if_pos h

theorem Fabric.shedFall_of_run (f : Fabric) (hrun : 125 ≤ f.shedRun) (hshed : 0 < f.shed) :
    f.shedFall = { f with shed := f.shed - 1, shedRun := 0 } := if_pos (by simp [hrun, hshed])

/-- A request that stays forced is neither raised nor lowered. -/
theorem fabricPass_vreq_of_forced (occ cap : List Nat) (newSecond : Bool) (h : (s.measured occ cap newSecond).fab.forced = true) :
    (fabricPass occ cap newSecond s).fab.vreq = s.fab.vreq := by
  have hf : (s.measured occ cap newSecond).fab.settleEnd.forced = true := (Fabric.settleEnd_forced _).trans h
  rw [fabricPass_vreq, Fabric.raise_of_forced _ hf, Fabric.lower_of_forced _ hf, Fabric.settleEnd_vreq, State.measured_vreq]

end

/-- Settles O10, row by row: each row is one step of the fabric at a boundary; a start and kickstand drive code 0b101, forced; and at a
boundary the readiness of the host ports decides whether it stays so. -/
theorem fabricRows : Obligations.FabricRows := by
  unfold Obligations.FabricRows
  refine ⟨?lower, ?settle, ?shed, ?elsewhere, ?start, ?kick, ?stillForced, ?released⟩
  case lower =>
    intro s hoff hforced hfixed hv hrun hsettle hpred
    have may := s.fab.mayLower_of hforced hfixed hv hrun hsettle hpred
    rw [← s.fab.lower_of_mayLower may hv]
    exact atBoundary_on s _ hoff
  case settle =>
    intro s hoff h
    rw [← s.fab.settleEnd_of_last h]
    exact atBoundary_on s _ hoff
  case shed =>
    intro s hoff hrun hshed
    rw [← s.fab.shedFall_of_run hrun hshed]
    exact atBoundary_on s _ hoff
  case elsewhere => exact fun s hoff => ⟨atBoundary_off s _ hoff, atBoundary_off s _ hoff, atBoundary_off s _ hoff⟩
  case start => exact fun r s => by rw [fullStart_fab]; exact ⟨rfl, rfl⟩
  case kick => exact fun s => ⟨s.fab.kick_forced, s.fab.kick_vreq⟩
  case stillForced =>
    intro occ cap newSecond s hforced hunready
    have still : (s.measured occ cap newSecond).fab.forced = true := by
      rcases hunready with h | h <;> simp [hforced, h]
    exact ⟨(fabricPass_forced s occ cap newSecond).trans still, fabricPass_vreq_of_forced s occ cap newSecond still⟩
  case released =>
    intro occ cap newSecond s hready hdry
    simp [hready, hdry]

end Sys2Proof.Machine
end

section
/-! PORST_N, the cold start of AON and the release: what a reset clears, what it puts into kickstand and what it keeps (R111, R112). -/
namespace Sys2Proof.Machine

section
variable (s : State)

/-! ## The reset of the domains -/

/-- The end of a calibration run writes its wheel and its channel alone. -/
theorem abortRun_of (w : Nat) : ∃ x c, abortRun w s = { s with whl := x, chan := c } := by
  unfold abortRun
  split
  · exact ⟨s.whl, s.chan, rfl⟩
  · exact ⟨_, _, rfl⟩

/-- A wheel that leaves ON writes wheels and channels alone. -/
theorem wheelLeavesOn_of (w : Nat) : ∃ x c, wheelLeavesOn w s = { s with whl := x, chan := c } := by
  obtain ⟨x, c, h⟩ := abortRun_of s w
  unfold wheelLeavesOn
  dsimp only
  rw [h]
  exact ⟨_, _, rfl⟩

/-- Steps that write wheels and channels alone do so together. -/
theorem overTo_wheels {f : State → Nat → State} (hf : ∀ s k, ∃ x c, f s k = { s with whl := x, chan := c }) (n : Nat) :
    ∃ x c, overTo n f s = { s with whl := x, chan := c } := by
  unfold overTo
  induction n with
  | zero => exact ⟨s.whl, s.chan, rfl⟩
  | succ n ih =>
    obtain ⟨x, c, h⟩ := ih
    obtain ⟨x', c', h'⟩ := hf { s with whl := x, chan := c } n
    exact ⟨x', c', by rw [List.range_succ, List.foldl_append, h]; exact h'⟩

/-- The domains as PORST_N leaves them: AON as it was, every other one in reset but for its epoch. -/
def resetDoms (doms : Tab Dom) : Tab Dom := doms.map fun e => (e.1, if e.1 = 0 then e.2 else { Dom.reset with epoch := e.2.epoch })

theorem resetDomains_of : ∃ x c r,
    resetDomains s = { s with pwr := { s.pwr with doms := resetDoms s.pwr.doms }, cut := [], whl := x, chan := c, relief := r } := by
  unfold resetDomains
  dsimp only
  obtain ⟨x, c, h⟩ := overTo_wheels _ (fun t w => wheelLeavesOn_of t w) 16
  rw [h]
  exact ⟨_, _, _, rfl⟩

/-- Every domain but AON is OFF with nothing in retention. -/
theorem dom_resetDoms (u : State) (doms : Tab Dom) (h : u.pwr.doms = resetDoms doms) (n : Nat) (hn : 0 < n) :
    (u.dom n).state = .off ∧ (u.dom n).retained = none := by
  have hreset : ∃ e, u.pwr.doms.get Dom.reset n = { Dom.reset with epoch := e } := by
    rw [h]
    refine Tab.get_map_of doms Dom.reset (fun d => ∃ e, d = { Dom.reset with epoch := e }) ?_ n ⟨0, rfl⟩ fun d => ⟨d.epoch, ?_⟩
    · exact fun _ => rfl
    · exact if_neg (by simp; omega)
  obtain ⟨e, he⟩ := hreset
  unfold State.dom
  rw [he]
  exact ⟨rfl, rfl⟩

/-! ## PORST_N low -/

/-- What PORST_N low keeps, what it clears, and what it puts into kickstand. -/
structure LoweredFrom (s t : State) : Prop where
  porstHigh : t.pwr.porstHigh = false
  doms : t.pwr.doms = resetDoms s.pwr.doms
  tripKick : t.tripKick = 0xF
  irqKick : t.irqKick = true
  fab : t.fab = s.fab.kick
  cf : t.cf = s.cf.map fun e => (e.1, e.2.toKick)
  held : t.out.held = []
  staged : t.out.staged = []
  mem : t.mem = []
  time : t.time = s.time
  tmp : t.tmp = s.tmp
  seals : t.seals = s.seals
  wakeCause : t.pwr.wakeCause = s.pwr.wakeCause
  startCount : t.pwr.startCount = s.pwr.startCount
  log : t.log = s.log
  flash : t.flash = s.flash

theorem porstLow_lowered : LoweredFrom s (porstLow s) := by
  have cleared {α : Type} (l : List α) : (l.filter fun _ => !true) = [] := List.filter_eq_nil_iff.mpr fun _ _ => Bool.false_ne_true
  unfold porstLow
  dsimp only
  obtain ⟨x, c, r, h⟩ := resetDomains_of _
  rw [h]
  constructor
  case held => exact cleared s.out.held
  case staged => exact cleared s.out.staged
  all_goals rfl

/-- A CF output in kickstand is low, with no edge waiting. -/
theorem LoweredFrom.cfOut {t : State} (h : LoweredFrom s t) (n : Nat) :
    (t.cfOut n).kick = true ∧ (t.cfOut n).level = false ∧ (t.cfOut n).edges = [] := by
  unfold State.cfOut
  rw [h.cf]
  refine Tab.get_map_of s.cf Cf.reset (fun x => x.kick = true ∧ x.level = false ∧ x.edges = []) ?_ n ⟨rfl, rfl, rfl⟩ ?_
  · exact fun _ => rfl
  · exact fun _ => ⟨rfl, rfl, rfl⟩

/-! ## The release -/

/-- A release after PORST_N low, or with AON lost, is a full start. -/
theorem execPorstRelease_of_low (r : StartIn) (h : s.pwr.porstHigh = false ∨ s.pwr.aonLost = true) :
    exec (.porstRelease r) s = .next (fullStart r s) := by
  have hlow : ¬ (s.pwr.porstHigh && !s.pwr.aonLost) = true := by
    rcases h with h | h <;> simp [h]
  exact congrArg Host.Outcome.next (if_neg hlow)

end

/-- Settles O22, row by row: PORST_N low and a cold start of AON come to `porstLow`, the release to `fullStart`. -/
theorem resetRows : Obligations.ResetRows := by
  unfold Obligations.ResetRows
  refine ⟨?low, ?cold, ?noRelease, ?testMode, ?release⟩
  case low =>
    intro t s
    have h := porstLow_lowered (s.advance t)
    refine ⟨porstLow (s.advance t), rfl, h.porstHigh, dom_resetDoms _ _ h.doms, h.tripKick, h.irqKick, h.cfOut, ?_, ?_, h.held, h.staged, h.mem,
      h.time, h.tmp, h.seals, h.wakeCause, h.startCount, h.log, congrArg Flash.store h.flash⟩
    · rw [h.fab, Fabric.kick_vreq]
    · rw [h.fab, Fabric.kick_forced]
  case cold =>
    intro s
    have h := porstLow_lowered s
    refine ⟨aonCold s, rfl, ?_⟩
    unfold aonCold
    generalize porstLow s = t at h ⊢
    have hseals : t.seals.count = s.seals.count := by rw [h.seals]
    have hstore : t.flash.store = s.flash.store := by rw [h.flash]
    exact ⟨rfl, rfl, rfl, rfl, rfl, rfl, rfl, hseals, h.log, hstore, h.held, h.mem⟩
  case noRelease =>
    intro r s hhigh hlost
    exact congrArg Host.Outcome.next (if_pos (by simp [hhigh, hlost]))
  case testMode =>
    intro r s hlow htmode
    rw [execPorstRelease_of_low s r hlow, fullStart_tmode s r htmode]
  case release =>
    intro r s hlow htmode
    have h := fullStart_started s r htmode
    refine ⟨fullStart r s, execPorstRelease_of_low s r hlow, h.porstHigh, h.aonLost, h.halted, h.startCount, h.portsReady, h.firstPub, h.tiebreak,
      h.clkExt, h.dryOk, h.recovery, ?_, ?_, fun n _ => h.perm n⟩
    · rw [h.fab]; rfl
    · rw [h.fab]; rfl

end Sys2Proof.Machine
end

section
/-! The event, clock and status registers whose reads and writes have behaviours of their own (14). -/
namespace Sys2Proof.Machine

section
variable (s : State)

/-! ## Transfers and the word they return -/

/-- A transfer on a port that is ready has its effect at its instant. -/
theorem State.onPort_ready (t p : Nat) (f : State → State) (hready : s.pwr.portsReady = true) (hp : p < 2) : s.onPort t p f = f (s.advance t) :=
  if_pos (by simp [State.portsUp, hready, hp])

@[simp] theorem State.port_advance (t n : Nat) : (s.advance t).port n = s.port n := rfl

@[simp] theorem State.serve_sluice (p v n : Nat) : (s.serve p v).sluice n = s.sluice n := rfl

@[simp] theorem State.serve_rdata (p v : Nat) : ((s.serve p v).port p).rdata = BitVec.ofNat 32 v := by simp [State.serve]

/-- But for the word returned a port is as it was. -/
theorem State.serve_port_congr {α : Type} (φ : Port → α) (hφ : ∀ q w, φ { q with rdata := w } = φ q) (p v n : Nat) :
    φ ((s.serve p v).port n) = φ (s.port n) := by
  unfold State.serve
  by_cases h : n = p
  · subst h
    rw [State.port_modPort_same]
    exact hφ _ _
  · rw [State.port_modPort_other _ _ h]

/-! ## The event block -/

/-- Of the bits cleared each belongs to the group and to the word. -/
theorem clearBits_getLsbD (pending : BitVec 1024) (g : Nat) (bits : BitVec 32) (e : Nat) (he : e < 1024) :
    (clearBits pending g bits).getLsbD e = (pending.getLsbD e && !(decide (e / 32 = g) && bits.getLsbD (e % 32))) := by
  have inGroup : ((bits.setWidth 1024) <<< (32 * g)).getLsbD e = (decide (e / 32 = g) && bits.getLsbD (e % 32)) := by
    rw [BitVec.getLsbD_shiftLeft, BitVec.getLsbD_setWidth]
    rcases Nat.lt_trichotomy (e / 32) g with h | h | h
    · have below : e < 32 * g := by omega
      have other : e / 32 ≠ g := by omega
      simp [below, other]
    · have from_ : ¬ e < 32 * g := by omega
      have rest : e - 32 * g = e % 32 := by omega
      have small : e % 32 < 1024 := by omega
      simp [he, from_, rest, h, small]
    · have beyond : 32 ≤ e - 32 * g := by omega
      have other : e / 32 ≠ g := by omega
      simp [BitVec.getLsbD_of_ge bits _ beyond, other]
  unfold clearBits
  rw [BitVec.getLsbD_and, BitVec.getLsbD_not, inGroup]
  simp [he]

/-- A matching number in sequence-clear mode clears what the last read returned, but for what has fired since. -/
theorem evtSeqWrite_of_match {p g : Nat} {v : BitVec 32} {r : LastRead} (hread : (s.port p).lastRead.find g = some r) (hg : g < 32)
    (hmode : s.evt.mode.getLsbD g = true) (hseq : v.setWidth 16 = r.seq) :
    evtSeqWrite p g v s = { s with evt := { s.evt with pending := clearBits s.evt.pending g (r.bits &&& ~~~r.fired) } } := by
  unfold evtSeqWrite
  rw [hread]
  exact if_pos (by simp [Evt.sequenced, hg, hmode, hseq])

/-- Any other write to EVT_SEQg changes nothing. -/
theorem evtSeqWrite_of_mismatch {p g : Nat} {v : BitVec 32}
    (h : s.evt.mode.getLsbD g = false ∨ (s.port p).lastRead.find g = none ∨ ∀ r ∈ (s.port p).lastRead.find g, v.setWidth 16 ≠ r.seq) :
    evtSeqWrite p g v s = s := by
  unfold evtSeqWrite
  cases hread : (s.port p).lastRead.find g with
  | none => rfl
  | some r =>
    refine if_neg ?_
    rcases h with hmode | hnone | hseq
    · simp [Evt.sequenced, hmode]
    · simp [hread] at hnone
    · have := hseq r hread
      simp [this]

/-- EVT_MODE is written with ENABLE 0; with ENABLE 1 a write of another value sets WHILE_ON and fires EV0651 (R412). -/
theorem evtModeWrite_disabled (v : BitVec 32) (h : s.evt.enable = false) : evtModeWrite v s = { s with evt := { s.evt with mode := v } } :=
  if_pos (by simp [h])

theorem evtModeWrite_same (h : s.evt.enable = true) : evtModeWrite s.evt.mode s = s := by
  simp [evtModeWrite, h]

theorem evtModeWrite_enabled (v : BitVec 32) (h : s.evt.enable = true) (hv : v ≠ s.evt.mode) :
    evtModeWrite v s = ({ s with evt := { s.evt with whileOn := true } } : State).fire 651 1 0 := by
  simp [evtModeWrite, h, hv]

/-! ## Reads -/

/-- A word served is the word returned. -/
@[simp] theorem State.serve_rdata_word (p : Nat) (w : BitVec 32) : ((s.serve p w.toNat).port p).rdata = w := by
  rw [State.serve_rdata, BitVec.ofNat_toNat, BitVec.setWidth_eq]

theorem State.serve_frozen (p v n : Nat) : ((s.serve p v).port n).frozen = (s.port n).frozen :=
  s.serve_port_congr Port.frozen (fun _ _ => rfl) p v n
theorem State.serve_shadow (p v n : Nat) : ((s.serve p v).port n).shadow = (s.port n).shadow :=
  s.serve_port_congr Port.shadow (fun _ _ => rfl) p v n

/-- A read of RTC_LO freezes the copy of its instant and returns its low word (R414). -/
theorem rtcLoRead_port (p age : Nat) : ((rtcLoRead p age s).port p).frozen = true ∧ ((rtcLoRead p age s).port p).shadow = s.rtcCopy age true ∧
    ((rtcLoRead p age s).port p).rdata = BitVec.ofNat 32 (s.stamp - Nat.min age 511) := by
  unfold rtcLoRead
  dsimp only
  refine ⟨?_, ?_, State.serve_rdata_word _ _ _⟩
  · rw [State.serve_frozen, State.port_modPort_same]
  · rw [State.serve_shadow, State.port_modPort_same]

/-- A read of RTC_WAKE releases the copy; it returns the frozen word, or the live one (R414). -/
theorem rtcWakeRead_port (p : Nat) : ((rtcWakeRead p s).port p).frozen = false ∧
    ((rtcWakeRead p s).port p).rdata = if (s.port p).frozen then (s.port p).shadow.getD 3 0 else (s.rtcCopy 0 false).getD 3 0 := by
  unfold rtcWakeRead
  dsimp only
  refine ⟨?_, State.serve_rdata_word _ _ _⟩
  rw [State.serve_frozen, State.port_modPort_same]

/-- A read of HPT_SLSTATn returns the sluice's state and clears its two flags (R348). -/
theorem slstatRead_sluice (p : Nat) {n : Nat} (hn : n < 32) :
    (slstatRead p n s).sluice n = { s.sluice n with staleDb := false, overrun := false } ∧
    ((slstatRead p n s).port p).rdata = BitVec.ofNat 32 ((s.sluice n).epoch.toNat + 2 ^ 16 * (s.heldBy n).length +
      2 ^ 25 * bit (s.sluice n).staleDb + 2 ^ 26 * bit (s.sluice n).overrun + 2 ^ 27 * bit (!(s.sluice n).waiting.isEmpty)) := by
  unfold slstatRead
  dsimp only
  rw [if_neg (by omega)]
  exact ⟨by rw [State.serve_sluice, State.sluice_modSluice_same], State.serve_rdata _ _ _⟩

/-- A read of HPT_STATn clears its five flags, and no more of the port (R407). -/
theorem statRead_port (p : Nat) {n : Nat} (hn : n < 2) {α : Type} (φ : Port → α) (hφ : ∀ q w, φ { q with rdata := w } = φ q) :
    φ ((statRead p n s).port n) =
      φ { s.port n with badInstr := false, unaligned := false, cross := false, partialWord := false, blocked := false } := by
  unfold statRead
  dsimp only
  rw [if_neg (by omega), State.serve_port_congr _ φ hφ, State.port_modPort_same]

end

/-- Settles O51, register by register: on a port that is ready a transfer has its effect at its instant. -/
theorem eventAndClockRegisters : Obligations.EventAndClockRegisters := by
  unfold Obligations.EventAndClockRegisters
  intro t p s hready hp
  have runs (f : State → State) : (Host.Outcome.next (s.onPort t p f) : Host.Outcome State Fault Refusal) = .next (f (s.advance t)) := by
    rw [s.onPort_ready t p f hready hp]
  refine ⟨?seqMatch, ?seqOther, ?ctrlWrite, ?ctrlRead, ?mode, ?rtcLo, ?rtcWake, ?slstat, ?stat, ?occ, ?broadcast, ?bstat⟩
  case seqMatch =>
    intro g v r hread hg hmode hseq
    have h := evtSeqWrite_of_match (s.advance t) hread hg hmode hseq
    refine ⟨_, (runs _).trans (congrArg _ h), rfl, fun e he => ?_⟩
    rw [clearBits_getLsbD _ _ _ _ he, BitVec.getLsbD_and, BitVec.getLsbD_not]
    have small : e % 32 < 32 := Nat.mod_lt _ (by decide)
    simp [small, Bool.and_assoc]
  case seqOther => exact fun g v h => (runs _).trans (congrArg _ (evtSeqWrite_of_mismatch (s.advance t) h))
  case ctrlWrite => exact fun v => runs (evtCtrlWrite v)
  case ctrlRead => exact ⟨_, runs (evtCtrlRead p), rfl, State.serve_rdata _ _ _⟩
  case mode =>
    refine fun v => ⟨fun h => ?_, fun h hv => ?_, fun h hv => ?_⟩
    · exact (runs _).trans (congrArg _ (evtModeWrite_disabled (s.advance t) v h))
    · exact hv ▸ (runs _).trans (congrArg _ (evtModeWrite_same (s.advance t) h))
    · exact (runs _).trans (congrArg _ (evtModeWrite_enabled (s.advance t) v h hv))
  case rtcLo => exact fun age => ⟨_, runs (rtcLoRead p age), rtcLoRead_port (s.advance t) p age⟩
  case rtcWake =>
    obtain ⟨hfrozen, hword⟩ := rtcWakeRead_port (s.advance t) p
    exact ⟨_, runs (rtcWakeRead p), hfrozen, fun h => hword.trans (if_pos h), fun h => hword.trans (if_neg (by simp [h]))⟩
  case slstat => exact fun n hn => ⟨_, runs (slstatRead p n), slstatRead_sluice (s.advance t) p hn⟩
  case stat =>
    intro n hn
    have h {α : Type} := @statRead_port (s.advance t) p n hn α
    exact ⟨_, runs (statRead p n), h Port.badInstr fun _ _ => rfl, h Port.unaligned fun _ _ => rfl, h Port.cross fun _ _ => rfl,
      h Port.partialWord fun _ _ => rfl, h Port.blocked fun _ _ => rfl, h Port.blockCount fun _ _ => rfl, h Port.perm fun _ _ => rfl⟩
  case occ => exact ⟨_, runs (occStatsRead p), rfl, State.serve_rdata _ _ _⟩
  case broadcast =>
    intro off hoff
    refine ⟨_, (runs _).trans (congrArg _ (if_pos hoff)), rfl, State.serve_rdata _ _ _⟩
  case bstat => exact ⟨_, runs (bstatRead p), rfl, State.serve_rdata _ _ _⟩

end Sys2Proof.Machine
end
